-- ==== Sys2Proof/Word.lean ====
section
/-! DEFINITION. The word types of the DSM-614: the bit-vector widths its formats chapter lays out. -/

namespace Sys2Proof

/-- A 32-bit ring word (1.1). -/
abbrev Word := BitVec 32

/-- A byte of the service port or the flash port (12.5, R176). -/
abbrev Byte := BitVec 8

/-- A 16-bit value: a frame number, a nonce, a cause set, a generator. -/
abbrev Half := BitVec 16

/-- A station number, 0 to 15 (Conventions, Stations). -/
abbrev StationNo := BitVec 4

/-- A stream id, 0 to 127: source station × 8 + stream index (Conventions, Stream identity). -/
abbrev StreamId := BitVec 7

/-- A 10-bit colour component (Conventions, Pixels). -/
abbrev Component := BitVec 10

end Sys2Proof
end

