-- ==== Sys2Proof/Syntax.lean ====
section
/-! DEFINITION. The commands of the DSM-614: one constructor for each row of spec/opcode_table.json, with the
operands the event carries. -/

namespace Sys2Proof

/-- A pixel port (General Description). -/
inductive PortId where
  | a
  | b
deriving DecidableEq, Repr

/-- The role of a sink record (R94). -/
inductive Role where
  | main
  | overlay
deriving DecidableEq, Repr

/-- One received unit as the receiver classifies it (R2). -/
inductive RxUnit where
  | data (w : Word)
  | idle
  | sop
  | eop
  | eopx
  | violation
deriving DecidableEq, Repr

/-- The two end symbols of a parcel (Conventions, Words and symbols). -/
inductive EndSymbol where
  | eop
  | eopx
deriving DecidableEq, Repr

/-- The commands, in the order of the opcode table. A request carries its argument bytes (12.5): its kind byte is
its constructor, and its length byte the number of bytes. -/
inductive Instr where
  /-- COLD_RESET, R175: RESET_N low, or power-up. -/
  | coldReset
  /-- RESET_RELEASE, R175: RESET_N goes high with these levels on the straps ID[3:0]. -/
  | resetRelease (straps : StationNo)
  /-- IMAGE_ACCEPTED, R176: the image read ends with these bytes taken from FDI, and the image is good. -/
  | imageAccepted (flash : List Byte)
  /-- IMAGE_REJECTED, R176: the image read stops, early or at its end, with these bytes, and the image is bad. -/
  | imageRejected (flash : List Byte)
  /-- SIGNAL_PRESENT, R4. -/
  | signalPresent
  /-- LOSS_OF_SIGNAL, R4. -/
  | lossOfSignal
  /-- ALIGN_UNIT, R4: a unit received in ALIGN. -/
  | alignUnit (u : RxUnit)
  /-- SOP_RECEIVED, R6: an SOP received in UP. -/
  | sopReceived
  /-- STRAY_UNIT, R6: an IDLE, or a data word or end symbol outside a parcel. -/
  | strayUnit (u : RxUnit)
  /-- CODING_VIOLATION, R8: a coding violation in UP. -/
  | codingViolation
  /-- HEADER_EVENT, R7: the fourth header word arrives. -/
  | headerEvent (w : Word)
  /-- PAYLOAD_WORD, R9: a data word after the header. -/
  | payloadWord (w : Word)
  /-- END_EVENT, R9: an end symbol inside a parcel. -/
  | endEvent (e : EndSymbol)
  /-- PARCEL_START, R37: the scheduler's choice at a free link. -/
  | parcelStart
  /-- CUT_THROUGH_START, R11. -/
  | cutThroughStart
  /-- PARCEL_END_SENT, R40. -/
  | parcelEndSent
  /-- ENTER_MUTE, R177. -/
  | enterMute
  /-- ENTER_STANDBY, R178. -/
  | enterStandby
  /-- MICROSECOND_TICK, R1: a tick, with the levels of the REVERSE and WAKE pins at it. -/
  | microsecondTick (reverse wake : Bool)
  /-- STARVED_SET, R49. -/
  | starvedSet
  /-- YIELD_EXPIRY, R51. -/
  | yieldExpiry
  /-- CENSUS_TIMER_EXPIRY, R61. -/
  | censusTimerExpiry
  /-- TABLE_ENTRY_EXPIRY, R70: of the entry of this station. -/
  | tableEntryExpiry (station : StationNo)
  /-- SILENCE_TIMEOUT, R77. -/
  | silenceTimeout (p : PortId)
  /-- MESSAGE_TIMEOUT, R169: of the outbox message with this tag. -/
  | messageTimeout (tag : Byte)
  /-- REVERSE_DEBOUNCED, R151. -/
  | reverseDebounced
  /-- CAMERA_DEADLINE_EXPIRY, R156. -/
  | cameraDeadlineExpiry (p : PortId)
  /-- WAKE_PIN, R179. -/
  | wakePin
  /-- INPUT_FRAME_START, R84. -/
  | inputFrameStart (p : PortId)
  /-- ACTIVE_PIXEL, R75: the levels on the three component inputs of the port. -/
  | activePixel (p : PortId) (r g b : Component)
  /-- INPUT_LINE_END, R75: an active edge of the line sync. -/
  | inputLineEnd (p : PortId)
  /-- OUTPUT_FRAME_START, R135. -/
  | outputFrameStart (p : PortId)
  /-- SILENT_FRAMES_LOST, R108. -/
  | silentFramesLost (p : PortId) (role : Role)
  /-- HOLDOVER_EXPIRY, R130. -/
  | holdoverExpiry (p : PortId)
  /-- ADDED_LINE_END, R121. -/
  | addedLineEnd (p : PortId)
  /-- HOLD_GIVE_UP, R122. -/
  | holdGiveUp (p : PortId)
  /-- STRETCH_LIMIT, R127. -/
  | stretchLimit (p : PortId)
  /-- ACTIVE_LINE_START, R139. -/
  | activeLineStart (p : PortId)
  /-- PORT_STOP, R148. -/
  | portStop (p : PortId)
  /-- REQUEST_FRAME_DISCARDED, R163: the bytes of a frame that does not match its length. -/
  | requestFrameDiscarded (frame : List Byte)
  /-- READ_FRAME, R183: a read frame of this many bytes, its kind byte among them. -/
  | readFrame (clocked : Nat)
  /-- UNKNOWN_REQUEST, R164: a frame of this undefined kind, with matching length. -/
  | unknownRequest (kind : Byte) (args : List Byte)
  /-- SHOW, R165. -/
  | showStream (args : List Byte)
  /-- INSET, R165. -/
  | inset (args : List Byte)
  /-- PROBE, R166. -/
  | probe (args : List Byte)
  /-- SEND, R168. -/
  | send (args : List Byte)
  /-- TAKE, R171. -/
  | take (args : List Byte)
  /-- RESULT, R170. -/
  | result (args : List Byte)
  /-- STATUS, R167. -/
  | status (args : List Byte)
  /-- ATTENTION, R173. -/
  | attention (args : List Byte)
  /-- CLEAR, R173. -/
  | clear (args : List Byte)
  /-- CAMERA, R165. -/
  | camera (args : List Byte)
  /-- STANDBY, R178. -/
  | standby (args : List Byte)
  /-- WAKE, R179. -/
  | wake (args : List Byte)
  /-- RESTART, R180. -/
  | restart (args : List Byte)
  /-- WORD_SENT, R13. -/
  | wordSent
  /-- HEADER_WORD, R7: one of the first three header words. -/
  | headerWord (w : Word)
deriving DecidableEq, Repr

end Sys2Proof
end

