-- ==== Sys2Proof/Decode.lean ====
section
/-! DEFINITION. The words of the opcode table's rows. No row of spec/opcode_table.json gives a bit ("fixed" and
"fields" are empty in all 57 rows), so no word spells a command. -/

namespace Sys2Proof

/-- The command that the word w of nbits bits spells by the table's bits. The table gives no row any bits. -/
def decodeTableWord (_nbits _w : Nat) : Option Instr := none

end Sys2Proof
end

