-- ==== Sys2Proof/Config.lean ====
section
/-! DEFINITION. What the part fixes: the capacities and periods of the Principal Capacities table and of the
rules, and the free values the manual leaves open (log 7). -/

namespace Sys2Proof.Config

/-- Words of the transit buffer (R12). -/
@[simp] abbrev transitWords : Nat := 4096
/-- IDLE words of the inter-parcel gap (R3). -/
@[simp] abbrev gapWords : Nat := 8
/-- Valid units that bring the link UP (R4). -/
@[simp] abbrev alignUnits : Nat := 64
/-- Units over which violations are counted in UP (R4). -/
@[simp] abbrev violationWindow : Nat := 1024
/-- Violations within the window that leave UP (R4). -/
@[simp] abbrev violationLimit : Nat := 4
/-- The greatest payload length (R9). -/
@[simp] abbrev maxPayload : Nat := 2048
/-- Entries of the SAFE queue (R42). -/
@[simp] abbrev safeCap : Nat := 16
/-- Entries of the NORMAL queue (R43). -/
@[simp] abbrev normalCap : Nat := 48
/-- Slots of the send store (R89). -/
@[simp] abbrev sendSlots : Nat := 24
/-- Slots of the Line Store (R95). -/
@[simp] abbrev lineSlots : Nat := 48
/-- Free words beyond its length that a SAFE start needs (R37). -/
@[simp] abbrev safeMargin : Nat := 16
/-- Yield time loaded at a sighting, in ticks (R51). -/
@[simp] abbrev yieldTicks : Nat := 500
/-- Age in ticks at which a station table entry expires (R70). -/
@[simp] abbrev tableAge : Nat := 4500
/-- Silence timer of an input port, in ticks (R77). -/
@[simp] abbrev silenceTicks : Nat := 100000
/-- Ticks of a stable REVERSE level that change the debounced level (R151). -/
@[simp] abbrev debounceTicks : Nat := 10000
/-- Ticks after its send time at which a message is LOST (R169). -/
@[simp] abbrev messageTicks : Nat := 3000
/-- Silent output frames that lose a source (R108). -/
@[simp] abbrev silentFrames : Nat := 3
/-- Inbox messages (R33). -/
@[simp] abbrev inboxCap : Nat := 8
/-- Outbox messages (R168). -/
@[simp] abbrev outboxCap : Nat := 4
/-- Results of the result list (R170). -/
@[simp] abbrev resultCap : Nat := 4
/-- The value at which the 16-bit counts hold (R17, R91, R94, R139). -/
@[simp] abbrev countMax : Nat := 65535
/-- Active lines of an input frame that are counted (R76). -/
@[simp] abbrev maxLines : Nat := 2048
/-- Active pixels of an input line that are counted (R76). -/
@[simp] abbrev maxPixels : Nat := 4096
/-- Reference cycles of 400 MHz in a microsecond (Conventions, Time). -/
@[simp] abbrev cyclesPerTick : Nat := 400
/-- Words of the longest configuration image (R176). -/
@[simp] abbrev imageWords : Nat := 1024

/-- A FREE VALUE (log 7): a count carried by the result of a LOST broadcast, for which the manual gives no value.
The argument numbers the uses, so that no two uses are tied to each other. -/
opaque lostCount : Nat → BitVec 4

end Sys2Proof.Config
end

