-- ==== Sys2Proof/Machine/State.lean ====
section
/-! DEFINITION. Everything the spec gives one DSM-614 to hold, as plain data, block by block, and its value in
cold reset. Numbers that only count are Nat; words, ids and registers are bit vectors. -/

namespace Sys2Proof.Machine

/-! ## Codes (12.6) -/

/-- Node states (11, in the codes of 12.6). -/
inductive NodeState where
  | run
  | standby
  | mute
  | fallback
  | loading
deriving DecidableEq, Repr

/-- Link states (R4). -/
inductive LinkState where
  | down
  | align
  | up
deriving DecidableEq, Repr

/-- Ring states (4.3). -/
inductive RingState where
  | forming
  | closed
  | broken
deriving DecidableEq, Repr

/-- Source stream states (R81). -/
inductive StreamState where
  | idle
  | running
  | suspended
deriving DecidableEq, Repr

/-- Frame Lock states (7.2). -/
inductive LockState where
  | free
  | acquire
  | track
  | holdover
deriving DecidableEq, Repr

/-- Camera states of a camera-mode port (R156). -/
inductive CameraState where
  | idle
  | switching
  | showing
  | late
deriving DecidableEq, Repr

/-- Source states of a sink record (6.6). -/
inductive SourceState where
  | absent
  | present
  | lost
deriving DecidableEq, Repr

/-- Parcel kinds (Conventions, Parcels). -/
inductive ParcelKind where
  | line
  | mark
  | census
  | message
deriving DecidableEq, Repr

/-- Parcel classes (Conventions, Parcels). -/
inductive ParcelClass where
  | safe
  | normal
  | control
deriving DecidableEq, Repr

/-- Ring pixel formats (Conventions, Pixels). -/
inductive RingFormat where
  | p16
  | p24
  | p30
deriving DecidableEq, Repr

/-- Message kinds (12.6). -/
inductive MessageKind where
  | user
  | cameraOn
  | cameraOff
  | wake
deriving DecidableEq, Repr

/-- Outcomes of a message (R26, R169). -/
inductive MessageOutcome where
  | delivered
  | refused
  | undelivered
  | damaged
  | lost
deriving DecidableEq, Repr

/-- Camera modes of an output port (9). -/
inductive CameraMode where
  | none
  | full
  | inset
deriving DecidableEq, Repr

/-- Dither modes of an output port (R146). -/
inductive DitherMode where
  | off
  | fixed
  | temporal
deriving DecidableEq, Repr

/-- The LIMITED status (R125). -/
inductive Limited where
  | clear
  | upper
  | lower
deriving DecidableEq, Repr

/-- Timing positions of an output port (R150). -/
inductive Position where
  | stopped
  | added
  | active
  | blanking
deriving DecidableEq, Repr

/-- Response codes (12.5). -/
inductive ResponseCode where
  | done
  | accepted
  | busy
  | badArg
  | unknown
  | state
  | held
  | empty
deriving DecidableEq, Repr

/-- The attention causes, in the order of their codes (10.5). -/
inductive Cause where
  | cameraLate
  | linkDown
  | ringBroken
  | idConflict
  | cameraChange
  | sourceLost
  | lockLost
  | lockAcquired
  | storeOverrun
  | sendDrop
  | starved
  | linkDegraded
  | ringHealed
  | geometryMismatch
  | messageIn
  | messageResult
deriving DecidableEq, Repr

/-! ## Shared shapes -/

/-- A pixel in internal form (Conventions, Pixels). -/
structure Pixel where
  r : Component
  g : Component
  b : Component
deriving DecidableEq, Repr

/-- A width and a height. -/
structure Size where
  width : Nat
  height : Nat
deriving DecidableEq, Repr

/-! ## Configuration (12.7) -/

/-- The ring section of the image. -/
structure RingCfg where
  cap : Nat
  refill : Nat
  patience : Nat
  seed : Half
deriving DecidableEq, Repr

/-- A window entry (R79). -/
structure Window where
  enabled : Bool
  x0 : Nat
  y0 : Nat
  width : Nat
  height : Nat
  step : Nat
  phase : Nat
  fmt : RingFormat
  cls : ParcelClass
  shed : Bool
deriving DecidableEq, Repr

/-- The port section of an input port: component width and active-high levels (12.7). -/
structure InCfg where
  tenBit : Bool
  frameHigh : Bool
  lineHigh : Bool
  enableHigh : Bool
deriving DecidableEq, Repr

/-- A sink record section (R94). -/
structure SinkCfg where
  first : Nat
  count : Nat
  initSub : Option StreamId
  initX : Nat
  initY : Nat
deriving DecidableEq, Repr

/-- The port section of an output port (R115, R133, R153). -/
structure OutCfg where
  ha : Nat
  va : Nat
  hfp : Nat
  hs : Nat
  hbp : Nat
  vfp : Nat
  vs : Nat
  vbp : Nat
  depth : Nat
  dither : DitherMode
  keyEnable : Bool
  hsHigh : Bool
  vsHigh : Bool
  deHigh : Bool
  incNom : Nat
  ditherSeed : Half
  fill : Pixel
  key : Pixel
  t : Nat
  w : Nat
  kp : Nat
  ki : Nat
  gx : Nat
  devShift : Nat
  vStretchMax : Nat
  holdFrames : Nat
  swb : Nat
  camMode : CameraMode
  camStream : StreamId
  deadlineUnits : Nat
  camX : Nat
  camY : Nat
deriving DecidableEq, Repr

/-! ## Ring Port and Parcel Filter -/

/-- The fields of a parcel header (12.1). -/
structure Header where
  kindCode : BitVec 3
  clsCode : BitVec 2
  source : StationNo
  hop : BitVec 4
  pressure : BitVec 5
  index : BitVec 3
  fmtCode : BitVec 2
  frame : Half
  len : BitVec 12
  line : BitVec 11
  width : BitVec 12
  flags : Byte
  crc : Half
deriving DecidableEq, Repr

/-- The course decided at the header event (R18, R20). -/
inductive Course where
  | strip
  | orphan
  | forward
deriving DecidableEq, Repr

/-- A sink record by its port and role. -/
structure SinkId where
  port : PortId
  role : Role
deriving DecidableEq, Repr

/-- The parcel in reception after its header event, with the Parcel Filter's decision (R9, R36). -/
structure Reception where
  /-- the header as it arrived -/
  hdr : Header
  kind : ParcelKind
  course : Course
  /-- the header came under the repeater decision (R18) -/
  repeater : Bool
  /-- the header as rewritten (R21) -/
  fwd : Header
  /-- data words after the header -/
  got : Nat
  /-- running payload CRC-32 -/
  crc : Word
  /-- the check word arrived and matched -/
  checkOk : Bool
  /-- payload words of a MARK, CENSUS or MESSAGE -/
  payload : List Word
  /-- sink records that took the line (R28) -/
  lineTo : List SinkId
  /-- sink records fixed for the marker (R29) -/
  markTo : List SinkId
  /-- bytes of a P24 pixel not yet whole (R144) -/
  carry : List Byte
  /-- the message is addressed to this station (R32) -/
  addressed : Bool
  /-- the message holds a reserved inbox entry (R33, R34) -/
  reserved : Bool
deriving DecidableEq, Repr

/-- Where the receiver stands (R6, R7). -/
inductive Stage where
  /-- outside a parcel, or discarding to the next SOP -/
  | outside
  /-- after an SOP, with the header words held so far -/
  | header (words : List Word)
  /-- after the header event -/
  | body (r : Reception)
deriving DecidableEq, Repr

/-- An entry of the transit buffer (1.4). -/
structure TransitEntry where
  /-- held words, next to be sent first -/
  words : List Word
  /-- the last header word of a MESSAGE, not yet released (R32) -/
  heldBack : Option Word
  /-- the recorded end: true for good -/
  fin : Option Bool
  /-- the cut-through parcel -/
  cut : Bool
deriving DecidableEq, Repr

/-- A local parcel in transmission (R14): the words not yet sent. -/
structure LocalTx where
  kind : ParcelKind
  slot : Option Nat
  left : List Word
deriving DecidableEq, Repr

/-- The position of the transmitter (R3). -/
inductive Tx where
  /-- between parcels, with this many gap words sent -/
  | between (gap : Nat)
  /-- inside the head transit entry -/
  | transit
  /-- inside a local parcel -/
  | sending (p : LocalTx)
deriving DecidableEq, Repr

/-- What the transmit link carries (R3). -/
inductive TxUnit where
  | noSignal
  | idle
  | sop
  | eop
  | eopx
  | data (w : Word)
deriving DecidableEq, Repr

/-- The Ring Port (1). -/
structure RingPort where
  state : LinkState
  valid : Nat
  violations : List Nat
  stage : Stage
  hdrErr : Nat
  payErr : Nat
  ovf : Nat
  transit : List TransitEntry
  tx : Tx
  out : TxUnit
deriving DecidableEq, Repr

/-! ## Insertion Scheduler -/

/-- An entry of the SAFE or NORMAL queue (R41): a LINE, or a MARK. -/
structure PicEntry where
  isMark : Bool
  cls : ParcelClass
  index : BitVec 3
  len : Nat
  frame : Half
  line : Nat
  width : Nat
  fmt : RingFormat
  /-- send-store slot of a LINE -/
  slot : Nat
  /-- frame height of a MARK -/
  height : Nat
  entryTime : Word
deriving DecidableEq, Repr

/-- A MESSAGE entry of the CONTROL queue (R41). -/
structure MessageEntry where
  tag : Byte
  words : List Word
deriving DecidableEq, Repr

/-- The Insertion Scheduler (3). The CONTROL queue is the census, then the messages (R44). -/
structure Scheduler where
  safeQ : List PicEntry
  normalQ : List PicEntry
  census : Option (List Word)
  msgs : List MessageEntry
  credit : Nat
  starved : Bool
  yield : Bool
  yieldTime : Nat
deriving DecidableEq, Repr

/-- A held slot of the send store (R89). -/
structure SendSlot where
  slot : Nat
  words : List Word
deriving DecidableEq, Repr

/-! ## Station View -/

/-- An offered stream of a census (R62, R80). -/
structure Offer where
  index : BitVec 3
  width : Nat
  height : Nat
  fmt : RingFormat
  cls : ParcelClass
  suspended : Bool
deriving DecidableEq, Repr

/-- An entry of the station table (4.5). -/
structure TableEntry where
  station : StationNo
  nonce : Half
  state : NodeState
  hops : Nat
  demand : Bool
  offers : List Offer
  seen : Word
deriving DecidableEq, Repr

/-- The Station View (4). -/
structure StationView where
  gen : Half
  nonce : Option Half
  retired : Option Half
  retiredSends : Nat
  timer : Option Nat
  ring : RingState
  outstanding : Bool
  missed : Nat
  table : List TableEntry
  mutePending : Bool
  demand : Bool
deriving DecidableEq, Repr

/-! ## Source Cutter -/

/-- A window with its source stream record (5). -/
structure Stream where
  win : Window
  state : StreamState
  /-- the marked size of the open frame -/
  frame : Option Size
  drop : Bool
  asm : List Pixel
  lostLines : Nat
  lostMarks : Nat
deriving DecidableEq, Repr

/-- An input port (5.1). -/
structure InPort where
  cfg : InCfg
  geometry : Option Size
  lines : Nat
  x : Nat
  maxW : Nat
  counter : Half
  /-- the frame now arriving is measured (R76, R92): from the entry to RUN on, but for the time after a silence (R77) -/
  measuring : Bool
  silence : Option Nat
  streams : List Stream
deriving DecidableEq, Repr

/-! ## Sink Records and Line Store -/

/-- A line record in a slot of the Line Store (R95). -/
structure LineRec where
  slot : Nat
  frame : Half
  line : Nat
  width : Nat
  fmt : RingFormat
  full : Bool
  pixels : List Pixel
deriving DecidableEq, Repr

/-- A frame number with the size its MARK gave (R103). -/
structure FrameInfo where
  no : Half
  width : Nat
  height : Nat
deriving DecidableEq, Repr

/-- A subscription value with the position it carries on an OVERLAY record (R94). -/
structure Placed where
  sub : Option StreamId
  x : Nat
  y : Nat
deriving DecidableEq, Repr

/-- A sink record with its line queue (R94). -/
structure Sink where
  cfg : SinkCfg
  active : Option StreamId
  shadow : Option Placed
  x : Nat
  y : Nat
  cur : Option FrameInfo
  last : Option Nat
  torn : Bool
  overrun : Bool
  presented : Option FrameInfo
  source : SourceState
  nonce : Option Half
  silent : Nat
  markerSeen : Bool
  mismatch : Bool
  tornCount : Nat
  overrunCount : Nat
  queue : List LineRec
  detached : List LineRec
deriving DecidableEq, Repr

/-! ## Frame Lock, Presenter, camera port -/

/-- A stretch or acquisition hold in progress (R120, R127). -/
structure Stretch where
  added : Nat
  /-- it ends at the end of the added line in progress (R129) -/
  ending : Bool
  /-- its last added line reached the limit (R122, R127) -/
  limit : Bool
deriving DecidableEq, Repr

/-- A Frame Lock (7). -/
structure FrameLock where
  state : LockState
  inc : Word
  acc : Word
  integ : Int
  limited : Limited
  locked : Bool
  inWin : Nat
  outWin : Nat
  holdCount : Nat
  stretch : Option Stretch
  lastLead : Nat
  lastError : Int
  linesAdded : Nat
deriving DecidableEq, Repr

/-- A Presenter (8). -/
structure Presenter where
  pos : Position
  /-- the active line in progress, or the added line in progress whose stretch a wake has ended (log 46) -/
  line : Nat
  /-- the next active line to start; VA when no active line is left -/
  nextLine : Nat
  /-- pixel periods given since the line, or the blanking, in progress began; those beyond its length belong to what
  follows it (R134) -/
  pixel : Nat
  lastLine : List Pixel
  gen : Half
  blank : Nat
  fillFrame : Bool
  cutDone : Bool
  stopPending : Bool
  repeated : Nat
  underrun : Nat
  /-- the pixels of the active line in progress that have been driven, as they were driven; the last is that of the pixel
  period in progress -/
  driven : List Pixel
  /-- the active pixels of that line still to be driven, before their reduction (R145, R146) -/
  ahead : List Pixel
deriving DecidableEq, Repr

/-- Camera Priority's state for an output port (9). -/
structure CameraPort where
  state : CameraState
  /-- the tick an engage has set; none before the first, and from the entry to STANDBY on (R161) -/
  deadline : Option Word
  resume : Option Placed
  insetHold : Bool
deriving DecidableEq, Repr

/-- An output port with all that is kept for it. -/
structure OutPort where
  cfg : OutCfg
  main : Sink
  overlay : Option Sink
  lock : FrameLock
  pres : Presenter
  cam : CameraPort
deriving DecidableEq, Repr

/-- What stands for one stream of a pixel port that has no configuration (R92): no window entry, and a source stream
record at rest. -/
structure RestStream where
  state : StreamState
  frame : Option Size
  drop : Bool
  asm : List Pixel
  lostLines : Nat
  lostMarks : Nat
deriving DecidableEq, Repr

/-- What stands at a pixel port that has no configuration or is unused, in place of its input side (R92), its Frame Lock
(R131), its Presenter (R149) and its camera state (R161). -/
structure AtRest where
  /-- the input geometry, absent -/
  geometry : Option Size
  /-- the arriving frames are measured -/
  measuring : Bool
  /-- the silence timer; none while it is stopped -/
  silence : Option Nat
  /-- the frame counter, not advanced -/
  counter : Half
  /-- the source stream records, one for each window a port can have (R79) -/
  streams : List RestStream
  /-- the phase accumulator, held -/
  acc : Word
  limited : Limited
  locked : Bool
  inWin : Nat
  outWin : Nat
  holdCount : Nat
  lastLead : Nat
  lastError : Int
  linesAdded : Nat
  blank : Nat
  fillFrame : Bool
  cutDone : Bool
  stopPending : Bool
  repeated : Nat
  underrun : Nat
  insetHold : Bool
deriving DecidableEq, Repr

/-- A pixel port: unused or unconfigured, an input, or an output. -/
inductive Port where
  | unused (rest : AtRest)
  | input (i : InPort)
  | output (o : OutPort)
deriving DecidableEq, Repr

/-! ## Node, pins, Attention, Service Port, Camera Priority -/

/-- The levels of the sampled input pins. -/
structure Pins where
  reverse : Bool
  wake : Bool
deriving DecidableEq, Repr

/-- An entry to MUTE or STANDBY that waits (R54). -/
inductive Entry where
  | mute
  | standby
deriving DecidableEq, Repr

/-- The flash port (R176). -/
structure FlashPort where
  selected : Bool
  sent : List Byte
deriving DecidableEq, Repr

/-- The Start-up Loader (11). -/
structure Node where
  held : Bool
  state : NodeState
  station : StationNo
  waiting : Option Entry
  wakeFound : Bool
  ring : Option RingCfg
  flash : FlashPort
deriving DecidableEq, Repr

/-- Attention (10.5): bit c − 1 is cause code c. -/
structure AttentionSet where
  pending : Half
  enable : Half
deriving DecidableEq, Repr

/-- A held response (R163). -/
structure Response where
  code : ResponseCode
  data : List Byte
deriving DecidableEq, Repr

/-- An outbox message (R168); no target is broadcast, no send time is unsent. -/
structure OutMessage where
  tag : Byte
  target : Option StationNo
  kind : MessageKind
  sent : Option Word
deriving DecidableEq, Repr

/-- A result (R169), with the taken and refused counts of a broadcast. -/
structure MessageResult where
  tag : Byte
  outcome : MessageOutcome
  counts : Option (BitVec 4 × BitVec 4)
deriving DecidableEq, Repr

/-- An inbox entry (R171): reserved, or complete. -/
structure InMessage where
  complete : Bool
  source : StationNo
  kind : MessageKind
  tag : Byte
  words : List Word
  broadcast : Bool
deriving DecidableEq, Repr

/-- The Service Port (10). -/
structure Service where
  request : List Byte
  response : Option Response
  /-- the bytes driven on SDO in the last read frame (R183) -/
  sdo : List Byte
  tag : Byte
  outbox : List OutMessage
  results : List MessageResult
  inbox : List InMessage
deriving DecidableEq, Repr

/-- Camera Priority's engagement sources (R151, R152). -/
structure CameraControl where
  debounced : Bool
  stability : Nat
  ringLatch : Bool
  localLatch : Bool
deriving DecidableEq, Repr

/-! ## The machine -/

/-- One DSM-614, with the queue of commands that wait. -/
structure State where
  pending : List Instr
  pins : Pins
  node : Node
  tick : Word
  link : RingPort
  sched : Scheduler
  view : StationView
  store : List SendSlot
  portA : Port
  portB : Port
  att : AttentionSet
  svc : Service
  camera : CameraControl
  free : Nat
deriving DecidableEq, Repr

/-- Faults. The DSM-614 has no step that stops it (INVENTORY, Faults), so there is none. -/
inductive Fault where
deriving DecidableEq, Repr

/-- Refusals. -/
inductive Refusal where
  /-- Raised by exec for a command with no meaning yet. Safe: it proves nothing about the command. No command of
  this model is left so. -/
  | notModelled (mnemonic : String)
deriving DecidableEq, Repr

/-- The Ring Port in cold reset (R16). -/
def RingPort.reset : RingPort :=
  { state := .down, valid := 0, violations := [], stage := .outside, hdrErr := 0, payErr := 0, ovf := 0
    transit := [], tx := .between Config.gapWords, out := .noSignal }

/-- The Insertion Scheduler in cold reset (R56). -/
def Scheduler.reset : Scheduler :=
  { safeQ := [], normalQ := [], census := none, msgs := [], credit := 0, starved := false, yield := false
    yieldTime := 0 }

/-- The Station View in cold reset (R65, R72). -/
def StationView.reset : StationView :=
  { gen := 0, nonce := none, retired := none, retiredSends := 0, timer := none, ring := .forming
    outstanding := false, missed := 0, table := [], mutePending := false, demand := false }

/-- The Service Port in cold reset (R174). -/
def Service.reset : Service :=
  { request := [], response := none, sdo := [], tag := 255, outbox := [], results := [], inbox := [] }

/-- The Start-up Loader in cold reset (R175). The station number before the straps are read is a DESIGN CHOICE
(log 5). -/
def Node.reset : Node :=
  { held := true, state := .loading, station := 0, waiting := none, wakeFound := false, ring := none
    flash := { selected := false, sent := [] } }

/-- A source stream record in cold reset, LOADING and FALLBACK (R92). -/
def RestStream.cold : RestStream :=
  { state := .idle, frame := none, drop := false, asm := [], lostLines := 0, lostMarks := 0 }

/-- A pixel port in cold reset (R92, R131, R149, R161); LOADING and FALLBACK leave it so. -/
def AtRest.cold : AtRest :=
  { geometry := none, measuring := false, silence := none, counter := 0, streams := List.replicate 4 RestStream.cold
    acc := 0, limited := .clear, locked := false, inWin := 0, outWin := 0, holdCount := 0, lastLead := 0, lastError := 0
    linesAdded := 0, blank := 0, fillFrame := false, cutDone := false, stopPending := false, repeated := 0, underrun := 0
    insetHold := false }

/-- The part held in cold reset (R175), with no command waiting. -/
def State.reset : State :=
  { pending := []
    pins := { reverse := false, wake := false }
    node := Node.reset
    tick := 0
    link := RingPort.reset
    sched := Scheduler.reset
    view := StationView.reset
    store := []
    portA := .unused AtRest.cold
    portB := .unused AtRest.cold
    att := { pending := 0, enable := 0 }
    svc := Service.reset
    camera := { debounced := false, stability := 0, ringLatch := false, localLatch := false }
    free := 0 }

end Sys2Proof.Machine
end

