-- ==== Sys2Proof/Machine/Flags.lean ====
section
/-! DEFINITION. Attention: the pending and enable sets of the 16 causes, the ATN and FAULT pins (R160, R172, R173). -/

namespace Sys2Proof.Machine

/-- The code of a cause (10.5). -/
def Cause.code : Cause → Nat
  | .cameraLate => 1
  | .linkDown => 2
  | .ringBroken => 3
  | .idConflict => 4
  | .cameraChange => 5
  | .sourceLost => 6
  | .lockLost => 7
  | .lockAcquired => 8
  | .storeOverrun => 9
  | .sendDrop => 10
  | .starved => 11
  | .linkDegraded => 12
  | .ringHealed => 13
  | .geometryMismatch => 14
  | .messageIn => 15
  | .messageResult => 16

/-- The set holding one cause: bit c − 1 names cause code c (12.5). -/
def Cause.bit (c : Cause) : Half := 1#16 <<< (c.code - 1)

/-- The empty set of causes. -/
abbrev noCause : Half := 0#16

/-- The set of a cause that is raised when the condition holds. -/
def Cause.when (c : Cause) (b : Bool) : Half := if b then c.bit else noCause

/-- A set of causes joins the pending set (R172). -/
def State.raise (s : State) (m : Half) : State := { s with att.pending := s.att.pending ||| m }

/-- A cause is pending. -/
def State.isPending (s : State) (c : Cause) : Bool := s.att.pending &&& c.bit != 0

/-- The enable set as it counts: CAMERA_LATE is enabled whatever the image gives (R172). -/
def AttentionSet.enabled (a : AttentionSet) : Half := a.enable ||| Cause.cameraLate.bit

/-- ATN is asserted (at its low level) while a pending cause is enabled (R172). -/
def State.atn (s : State) : Bool := s.att.pending &&& s.att.enabled != 0

/-- FAULT is asserted exactly while CAMERA_LATE is pending (R160). -/
def State.fault (s : State) : Bool := s.isPending .cameraLate

/-- The lowest code of a set of causes, or 0 when it is empty (R173). -/
def lowestCode (m : Half) : Nat :=
  match (List.range 16).find? (fun i => m.getLsbD i) with
  | some i => i + 1
  | none => 0

/-- The first code ATTENTION answers (R173). -/
def State.firstCode (s : State) : Nat := lowestCode (s.att.pending &&& s.att.enabled)

end Sys2Proof.Machine
end

