-- ==== Sys2Proof/Machine/Bits.lean ====
section
/-! DEFINITION. Bit-level helpers of the formats chapter and the conventions: CRCs, the shift generator, byte
orders, holding counts, half-range order. -/

namespace Sys2Proof.Machine

/-- One bit into the header CRC-16, polynomial 1021h (12.4). -/
def crc16Bit (c : Half) (b : Bool) : Half :=
  if c.getLsbD 15 ^^ b then (c <<< 1) ^^^ 0x1021#16 else c <<< 1

/-- One word into the header CRC-16, from bit 31 down (12.4). -/
def crc16Word (c : Half) (w : Word) : Half :=
  (List.range 32).foldl (fun c i => crc16Bit c (w.getLsbD (31 - i))) c

/-- The header CRC-16 of words, initial value FFFFh, no final inversion (12.4). -/
def crc16 (ws : List Word) : Half := ws.foldl crc16Word 0xFFFF#16

/-- One bit into the payload CRC-32, polynomial 04C11DB7h (12.4). -/
def crc32Bit (c : Word) (b : Bool) : Word :=
  if c.getLsbD 31 ^^ b then (c <<< 1) ^^^ 0x04C11DB7#32 else c <<< 1

/-- One word into the payload CRC-32, from bit 31 down (12.4). -/
def crc32Word (c : Word) (w : Word) : Word :=
  (List.range 32).foldl (fun c i => crc32Bit c (w.getLsbD (31 - i))) c

/-- The initial value of the payload CRC-32 (12.4). -/
def crc32Init : Word := 0xFFFFFFFF#32

/-- The payload CRC-32 of words, no final inversion (12.4). -/
def crc32 (ws : List Word) : Word := ws.foldl crc32Word crc32Init

/-- One advance of a 16-bit shift generator (R59, R146). -/
def advance (v : Half) : Half :=
  if v.getLsbD 0 then (v >>> 1) ^^^ 0xB400#16 else v >>> 1

/-- A count that holds at 65535 (R17, R91, R94, R139). -/
def holdInc (n : Nat) : Nat := if n < Config.countMax then n + 1 else n

/-- Half-range order on frame numbers: f is later than g (Conventions). -/
def laterFrame (f g : Half) : Bool :=
  1 ≤ (f - g).toNat && (f - g).toNat ≤ 32767

/-- Half-range order on microsecond deadlines (Conventions). -/
def laterTime (a b : Word) : Bool :=
  1 ≤ (a - b).toNat && (a - b).toNat ≤ 2147483647

/-- Elapsed ticks, modulo 2^32 (R1). -/
def elapsed (now since : Word) : Nat := (now - since).toNat

/-- The low n bytes of a number, most significant first (12.5). -/
def beBytes : Nat → Nat → List Byte
  | 0, _ => []
  | n + 1, v => BitVec.ofNat 8 (v / 256 ^ n) :: beBytes n v

/-- An integer in two's complement on n bytes (12.5). -/
def beInt (n : Nat) (i : Int) : List Byte := beBytes n (i % (256 : Int) ^ n).toNat

/-- A yes/no field (12.5). -/
def flagByte (b : Bool) : List Byte := [if b then 1 else 0]

/-- A field that may be absent: its presence byte, and the field when present (12.5). -/
def optBytes {α : Type} (f : α → List Byte) : Option α → List Byte
  | none => [0]
  | some a => 1 :: f a

/-- A list of repeated items: a count byte and the items (12.5). -/
def listBytes {α : Type} (f : α → List Byte) (l : List α) : List Byte :=
  BitVec.ofNat 8 l.length :: l.flatMap f

/-- A number from bytes, most significant first (12.5). -/
def ofBytes (l : List Byte) : Nat := l.foldl (fun n b => 256 * n + b.toNat) 0

/-- The four bytes of a word, from bit 31 down (12.3). -/
def wordBytes (w : Word) : List Byte :=
  [w.extractLsb' 24 8, w.extractLsb' 16 8, w.extractLsb' 8 8, w.extractLsb' 0 8]

/-- A word from four bytes, the first in bits 31 to 24 (12.3, R176). -/
def wordOfBytes (a b c d : Byte) : Word := a ++ b ++ c ++ d

/-- The whole words of a byte sequence, most significant byte first (R176). -/
def wordsOfBytes : List Byte → List Word
  | a :: b :: c :: d :: rest => wordOfBytes a b c d :: wordsOfBytes rest
  | _ => []

/-- The bit field of w of n bits from bit lo up, as a number. -/
def fieldOf (w : Word) (lo n : Nat) : Nat := (w.extractLsb' lo n).toNat

end Sys2Proof.Machine
end

