-- ==== Sys2Proof/Machine/Operands.lean ====
section
/-! DEFINITION. The layouts of the formats chapter (12): codes, parcel headers, payloads, pixel packing. -/

namespace Sys2Proof.Machine

/-! ## Codes (12.6) -/

def NodeState.code : NodeState → Nat
  | .run => 0
  | .standby => 1
  | .mute => 2
  | .fallback => 3
  | .loading => 4

def LinkState.code : LinkState → Nat
  | .down => 0
  | .align => 1
  | .up => 2

def RingState.code : RingState → Nat
  | .forming => 0
  | .closed => 1
  | .broken => 2

def StreamState.code : StreamState → Nat
  | .idle => 0
  | .running => 1
  | .suspended => 2

def LockState.code : LockState → Nat
  | .free => 0
  | .acquire => 1
  | .track => 2
  | .holdover => 3

def CameraState.code : CameraState → Nat
  | .idle => 0
  | .switching => 1
  | .showing => 2
  | .late => 3

def SourceState.code : SourceState → Nat
  | .absent => 0
  | .present => 1
  | .lost => 2

def ParcelKind.code : ParcelKind → BitVec 3
  | .line => 0
  | .mark => 1
  | .census => 2
  | .message => 3

def ParcelClass.code : ParcelClass → BitVec 2
  | .safe => 0
  | .normal => 1
  | .control => 2

def RingFormat.code : RingFormat → BitVec 2
  | .p16 => 0
  | .p24 => 1
  | .p30 => 2

def MessageKind.code : MessageKind → BitVec 3
  | .user => 0
  | .cameraOn => 1
  | .cameraOff => 2
  | .wake => 3

def MessageOutcome.code : MessageOutcome → Nat
  | .delivered => 0
  | .refused => 1
  | .undelivered => 2
  | .damaged => 3
  | .lost => 4

def DitherMode.code : DitherMode → Nat
  | .off => 0
  | .fixed => 1
  | .temporal => 2

def Limited.code : Limited → Nat
  | .clear => 0
  | .upper => 1
  | .lower => 2

def Position.code : Position → Nat
  | .stopped => 0
  | .added => 1
  | .active => 2
  | .blanking => 3

/-- Response codes (12.5). -/
def ResponseCode.code : ResponseCode → Byte
  | .done => 1
  | .accepted => 2
  | .busy => 3
  | .badArg => 4
  | .unknown => 5
  | .state => 6
  | .held => 7
  | .empty => 8

def ParcelKind.ofCode (c : Nat) : Option ParcelKind :=
  match c with
  | 0 => some .line
  | 1 => some .mark
  | 2 => some .census
  | 3 => some .message
  | _ => none

def ParcelClass.ofCode (c : Nat) : Option ParcelClass :=
  match c with
  | 0 => some .safe
  | 1 => some .normal
  | 2 => some .control
  | _ => none

def RingFormat.ofCode (c : Nat) : Option RingFormat :=
  match c with
  | 0 => some .p16
  | 1 => some .p24
  | 2 => some .p30
  | _ => none

def MessageKind.ofCode (c : Nat) : Option MessageKind :=
  match c with
  | 0 => some .user
  | 1 => some .cameraOn
  | 2 => some .cameraOff
  | 3 => some .wake
  | _ => none

/-- The station state a census carries (12.2): the first four codes. -/
def NodeState.ofCensusCode (c : Nat) : Option NodeState :=
  match c with
  | 0 => some .run
  | 1 => some .standby
  | 2 => some .mute
  | 3 => some .fallback
  | _ => none

def CameraMode.ofCode (c : Nat) : Option CameraMode :=
  match c with
  | 0 => some .none
  | 1 => some .full
  | 2 => some .inset
  | _ => none

def DitherMode.ofCode (c : Nat) : Option DitherMode :=
  match c with
  | 0 => some .off
  | 1 => some .fixed
  | 2 => some .temporal
  | _ => none

/-! ## Parcel headers (12.1) -/

/-- The fields of four header words. -/
def Header.ofWords (w0 w1 w2 w3 : Word) : Header :=
  { kindCode := w0.extractLsb' 29 3, clsCode := w0.extractLsb' 27 2, source := w0.extractLsb' 23 4
    hop := w0.extractLsb' 19 4, pressure := w0.extractLsb' 14 5, index := w0.extractLsb' 11 3
    fmtCode := w0.extractLsb' 9 2, frame := w1.extractLsb' 16 16, len := w1.extractLsb' 4 12
    line := w2.extractLsb' 21 11, width := w2.extractLsb' 9 12, flags := w3.extractLsb' 24 8
    crc := w3.extractLsb' 0 16 }

/-- Header word 0; bits that no field fills are 0 (12, log 9). -/
def Header.word0 (h : Header) : Word :=
  h.kindCode ++ h.clsCode ++ h.source ++ h.hop ++ h.pressure ++ h.index ++ h.fmtCode ++ 0#9

/-- Header word 1. -/
def Header.word1 (h : Header) : Word := h.frame ++ h.len ++ 0#4

/-- Header word 2. -/
def Header.word2 (h : Header) : Word := h.line ++ h.width ++ 0#9

/-- Header word 3. -/
def Header.word3 (h : Header) : Word := h.flags ++ 0#8 ++ h.crc

/-- The header CRC of a header's words, its CRC field taken as zero (12.4). -/
def Header.crcOf (h : Header) : Half :=
  crc16 [h.word0, h.word1, h.word2, Header.word3 { h with crc := 0 }]

/-- The header with its CRC computed anew (R21). -/
def Header.sealed (h : Header) : Header := { h with crc := h.crcOf }

/-- The header CRC of four arriving words, bits 15 to 0 of the last taken as zero (12.4). -/
def arrivingCrc (w0 w1 w2 w3 : Word) : Half :=
  crc16 [w0, w1, w2, w3.extractLsb' 16 16 ++ 0#16]

/-- The kind of a header, when its code is defined. -/
def Header.kind (h : Header) : Option ParcelKind := ParcelKind.ofCode h.kindCode.toNat

/-- The stream id of a LINE or MARK (2.5). -/
def Header.stream (h : Header) : StreamId := h.source ++ h.index

/-- Payload words of a LINE of this width (12.3, R87). -/
def lineWords (fmt : RingFormat) (w : Nat) : Nat :=
  match fmt with
  | .p30 => w
  | .p24 => (3 * w + 3) / 4
  | .p16 => (w + 1) / 2

/-- The class fits the kind (R181). -/
def classFits (k : ParcelKind) (c : Option ParcelClass) : Bool :=
  match k, c with
  | .line, some .safe => true
  | .line, some .normal => true
  | .mark, some .safe => true
  | .mark, some .normal => true
  | .census, some .control => true
  | .message, some .control => true
  | _, _ => false

/-- The conditions of R181 on a LINE or MARK: a defined ring format and a width of 1 to 2048. -/
def pictureFieldsOk (h : Header) : Bool :=
  (RingFormat.ofCode h.fmtCode.toNat).isSome && 1 ≤ h.width.toNat && h.width.toNat ≤ 2048

/-- The payload length fits the kind (R181). -/
def lengthOk (k : ParcelKind) (h : Header) : Bool :=
  match k with
  | .line =>
    match RingFormat.ofCode h.fmtCode.toNat with
    | some f => h.len.toNat = lineWords f h.width.toNat
    | none => false
  | .mark => h.len.toNat = 1
  | .census => true
  | .message => 2 ≤ h.len.toNat && h.len.toNat ≤ 18

/-- The field conditions of R181 other than the CRC. -/
def Header.fieldsOk (h : Header) : Bool :=
  match h.kind with
  | none => false
  | some k =>
    classFits k (ParcelClass.ofCode h.clsCode.toNat) && h.pressure.toNat ≤ 16 && h.len.toNat ≤ Config.maxPayload &&
      (match k with
        | .line => pictureFieldsOk h
        | .mark => pictureFieldsOk h
        | .census => true
        | .message => true) && lengthOk k h

/-- The header is not bad (R7, R181). -/
def headerGood (w0 w1 w2 w3 : Word) : Bool :=
  (Header.ofWords w0 w1 w2 w3).crc == arrivingCrc w0 w1 w2 w3 && (Header.ofWords w0 w1 w2 w3).fieldsOk

/-! ## Payload fields (12.2) -/

/-- Frame height of a MARK payload word. -/
def markHeight (w : Word) : Nat := fieldOf w 20 12

/-- Class code of a MARK payload word. -/
def markClass (w : Word) : Nat := fieldOf w 18 2

/-- The payload word of a MARK. -/
def markWord (height : Nat) (c : ParcelClass) : Word :=
  BitVec.ofNat 12 height ++ c.code ++ 0#18

/-- A census item's two words. -/
def Offer.words (o : Offer) : List Word :=
  [o.index ++ o.fmt.code ++ o.cls.code ++ BitVec.ofBool o.suspended ++ 0#24,
   BitVec.ofNat 16 o.width ++ BitVec.ofNat 16 o.height]

/-- The payload words of a CENSUS. -/
def censusWords (nonce : Half) (st : NodeState) (demand : Bool) (offers : List Offer) : List Word :=
  (nonce ++ BitVec.ofNat 2 st.code ++ 0#14) ::
    (BitVec.ofBool demand ++ 0#27 ++ BitVec.ofNat 4 offers.length) :: offers.flatMap Offer.words

/-- The offered streams of census item words; none when an item is not well formed (R68). -/
def offersOf : List Word → Option (List Offer)
  | [] => some []
  | [_] => none
  | a :: b :: rest =>
    match RingFormat.ofCode (fieldOf a 27 2), ParcelClass.ofCode (fieldOf a 25 2), offersOf rest with
    | some f, some c, some os =>
      if 1 ≤ fieldOf b 16 16 && fieldOf b 16 16 ≤ 2048 && 1 ≤ fieldOf b 0 16 && fieldOf b 0 16 ≤ 2048 then
        some ({ index := a.extractLsb' 29 3, width := fieldOf b 16 16, height := fieldOf b 0 16, fmt := f, cls := c
                suspended := a.getLsbD 24 } :: os)
      else none
    | _, _, _ => none

/-- What a well-formed census carries (R68). -/
structure CensusContent where
  nonce : Half
  state : NodeState
  demand : Bool
  offers : List Offer
deriving DecidableEq, Repr

/-- The content of a census payload, when it is well formed (R68). -/
def censusOf : List Word → Option CensusContent
  | a :: b :: items =>
    match NodeState.ofCensusCode (fieldOf a 14 2), offersOf items with
    | some st, some os =>
      if fieldOf b 0 4 ≤ 8 && items.length = 2 * fieldOf b 0 4 && (os.map Offer.index).Nodup then
        some { nonce := a.extractLsb' 16 16, state := st, demand := b.getLsbD 31, offers := os }
      else none
    | _, _ => none
  | _ => none

/-- The target field of a MESSAGE's first payload word. -/
def messageTarget (w : Word) : Nat := fieldOf w 27 5

/-- The kind code of a MESSAGE's first payload word. -/
def messageKindCode (w : Word) : Nat := fieldOf w 24 3

/-- The tag of a MESSAGE's first payload word. -/
def messageTag (w : Word) : Byte := w.extractLsb' 0 8

/-- The target value of a broadcast. -/
def broadcastTarget : Nat := 31

/-- The first payload word of a MESSAGE. -/
def messageWord0 (target : Option StationNo) (k : MessageKind) (tag : Byte) : Word :=
  BitVec.ofNat 5 (match target with | some n => n.toNat | none => broadcastTarget) ++ k.code ++ 0#16 ++ tag

/-- The payload words of a MESSAGE. -/
def messageWords (target : Option StationNo) (k : MessageKind) (tag : Byte) (user : List Word) : List Word :=
  messageWord0 target k tag :: BitVec.ofNat 32 user.length :: user

/-! ## Pixels (12.3, R87, R144, R75) -/

/-- An 8-bit component in internal form (R75, R144). -/
def expand8 (c : Nat) : Component := BitVec.ofNat 10 (c * 4 + c / 64)

/-- A 5-bit component in internal form (R144). -/
def expand5 (c : Nat) : Component := BitVec.ofNat 10 (c * 33)

/-- A 6-bit component in internal form (R144). -/
def expand6 (c : Nat) : Component := BitVec.ofNat 10 (c * 16 + c / 4)

/-- A component reduced to 8 bits (R87). -/
def reduce8 (c : Component) : Nat := min 255 ((c.toNat + 2) / 4)

/-- A component reduced to 5 bits (R87). -/
def reduce5 (c : Component) : Nat := min 31 ((c.toNat + 16) / 32)

/-- A component reduced to 6 bits (R87). -/
def reduce6 (c : Component) : Nat := min 63 ((c.toNat + 8) / 16)

/-- A P30 word (12.3). -/
def packP30 (p : Pixel) : Word := 0#2 ++ p.r ++ p.g ++ p.b

/-- The pixel of a P30 word. -/
def unpackP30 (w : Word) : Pixel :=
  { r := w.extractLsb' 20 10, g := w.extractLsb' 10 10, b := w.extractLsb' 0 10 }

/-- The P24 bytes of a pixel: red, green, blue. -/
def p24Bytes (p : Pixel) : List Byte :=
  [BitVec.ofNat 8 (reduce8 p.r), BitVec.ofNat 8 (reduce8 p.g), BitVec.ofNat 8 (reduce8 p.b)]

/-- The pixel of three P24 bytes. -/
def p24Pixel (r g b : Byte) : Pixel :=
  { r := expand8 r.toNat, g := expand8 g.toNat, b := expand8 b.toNat }

/-- A P16 half word: red 15 to 11, green 10 to 5, blue 4 to 0. -/
def packP16 (p : Pixel) : Half :=
  BitVec.ofNat 5 (reduce5 p.r) ++ BitVec.ofNat 6 (reduce6 p.g) ++ BitVec.ofNat 5 (reduce5 p.b)

/-- The pixel of a P16 half word. -/
def unpackP16 (h : Half) : Pixel :=
  { r := expand5 (h.extractLsb' 11 5).toNat, g := expand6 (h.extractLsb' 5 6).toNat
    b := expand5 (h.extractLsb' 0 5).toNat }

/-- Bytes into words from bit 31 down; what no byte fills is 0 (12.3). -/
def packBytes : List Byte → List Word
  | a :: b :: c :: d :: rest => wordOfBytes a b c d :: packBytes rest
  | [a, b, c] => [wordOfBytes a b c 0]
  | [a, b] => [wordOfBytes a b 0 0]
  | [a] => [wordOfBytes a 0 0 0]
  | [] => []

/-- Half words into words, the first in bits 31 to 16. -/
def packHalves : List Half → List Word
  | a :: b :: rest => (a ++ b) :: packHalves rest
  | [a] => [a ++ 0#16]
  | [] => []

/-- The payload words of a converted line (R87, 12.3). -/
def packLine (fmt : RingFormat) (ps : List Pixel) : List Word :=
  match fmt with
  | .p30 => ps.map packP30
  | .p24 => packBytes (ps.flatMap p24Bytes)
  | .p16 => packHalves (ps.map packP16)

/-- The whole P24 pixels of a byte sequence, and the bytes left over. -/
def pixelsOfBytes : List Byte → List Pixel × List Byte
  | r :: g :: b :: rest => (p24Pixel r g b :: (pixelsOfBytes rest).1, (pixelsOfBytes rest).2)
  | rest => ([], rest)

/-- The pixels one payload word adds to a line, and the bytes carried to the next word (R144). -/
def unpackWord (fmt : RingFormat) (carry : List Byte) (w : Word) : List Pixel × List Byte :=
  match fmt with
  | .p30 => ([unpackP30 w], [])
  | .p16 => ([unpackP16 (w.extractLsb' 16 16), unpackP16 (w.extractLsb' 0 16)], [])
  | .p24 => pixelsOfBytes (carry ++ wordBytes w)

end Sys2Proof.Machine
end

