-- ==== Sys2Proof/Machine/Ops.lean ====
section
/-! DEFINITION. The shared operations over the state: running a command, reaching the ports, the send store. -/

namespace Sys2Proof.Machine

/-- What a command answers. -/
abbrev Answer := Host.Outcome State Fault Refusal

/-- A command's effect f on a part that is not held in cold reset; while RESET_N is low nothing else moves
(R175, R1, R16). -/
def live (f : State → State) (s : State) : Answer := .next (if s.node.held then s else f s)

/-- The pixel port of that name. -/
def State.port (s : State) : PortId → Port
  | .a => s.portA
  | .b => s.portB

/-- The state with a pixel port replaced. -/
def State.setPort (s : State) (p : PortId) (q : Port) : State :=
  match p with
  | .a => { s with portA := q }
  | .b => { s with portB := q }

/-- An operation on an output port, with the causes it raises; no effect on a port that is none. -/
def State.onOut (s : State) (p : PortId) (f : OutPort → OutPort × Half) : State :=
  match s.port p with
  | .output o => (s.setPort p (.output (f o).1)).raise (f o).2
  | .input _ => s
  | .unused _ => s

/-- An operation on both output ports, port A first (log 21). -/
def State.onOuts (s : State) (f : OutPort → OutPort × Half) : State := (s.onOut .a f).onOut .b f

/-- A test on an output port; false on a port that is none. -/
def Port.outAnd (q : Port) (f : OutPort → Bool) : Bool :=
  match q with
  | .output o => f o
  | .input _ => false
  | .unused _ => false

/-- A test on an input port; false on a port that is none. -/
def Port.inAnd (q : Port) (f : InPort → Bool) : Bool :=
  match q with
  | .input i => f i
  | .output _ => false
  | .unused _ => false

/-- What an unconfigured port holds; the cold-reset values for a port that is configured. -/
def Port.rest : Port → AtRest
  | .unused k => k
  | .input _ => AtRest.cold
  | .output _ => AtRest.cold

/-- The streams of an input port; none on another port. -/
def Port.streams : Port → List Stream
  | .input i => i.streams
  | .output _ => []
  | .unused _ => []

/-- The node is in RUN, MUTE or STANDBY: a full station (R20, R75). -/
def NodeState.full : NodeState → Bool
  | .run => true
  | .mute => true
  | .standby => true
  | .fallback => false
  | .loading => false

/-- Send-store slots in use. -/
def heldSlots (store : List SendSlot) : List Nat := store.map SendSlot.slot

/-- Number of free send-store slots (R89). -/
def freeSlotCount (store : List SendSlot) : Nat := Config.sendSlots - store.length

/-- The lowest free send-store slot (R89; which slot is taken is a DESIGN CHOICE, log 8). -/
def freeSlot (store : List SendSlot) : Option Nat :=
  (List.range Config.sendSlots).find? (fun k => !(heldSlots store).contains k)

/-- Send-store slots returned (R40, R41, R89). -/
def State.returnSlots (s : State) (slots : List Nat) : State :=
  { s with store := s.store.filter (fun x => !slots.contains x.slot) }

/-- The payload held in a send-store slot. -/
def slotWords (store : List SendSlot) (k : Nat) : List Word :=
  match store.find? (fun x => x.slot = k) with
  | some x => x.words
  | none => []

/-- This station's pressure mark: station number plus 1 (R22). -/
def ownMark (station : StationNo) : BitVec 5 := BitVec.ofNat 5 (station.toNat + 1)

/-- A response is placed in the response buffer; the one before it is lost unread (R163). The request buffer is
empty again, the frame having been taken whole. -/
def State.respond (s : State) (c : ResponseCode) (data : List Byte) : State :=
  { s with svc := { s.svc with request := [], response := some { code := c, data := data } } }

end Sys2Proof.Machine
end

