-- ==== Sys2Proof/Machine/Scheduler.lean ====
section
/-! DEFINITION. The queues, the normal credit, STARVED and YIELD of the Insertion Scheduler (3). -/

namespace Sys2Proof.Machine

/-- Words of a parcel's length beyond its payload: header and check word (R41). -/
@[simp] abbrev frameWords : Nat := 5

/-- The length of a picture entry in data words (R41). -/
def PicEntry.length (e : PicEntry) : Nat := e.len + frameWords

/-- Data words of a transit entry that are held. -/
def TransitEntry.held (e : TransitEntry) : Nat := e.words.length + (if e.heldBack.isSome then 1 else 0)

/-- The fill of the transit buffer (1.4). -/
def fillOf (t : List TransitEntry) : Nat := (t.map TransitEntry.held).sum

/-- The wait of a NORMAL entry (R49). -/
def PicEntry.wait (e : PicEntry) (now : Word) : Nat := elapsed now e.entryTime

/-- The configured patience; 0 without a configuration. -/
def State.patience (s : State) : Nat := (s.node.ring.map RingCfg.patience).getD 0

/-- The configured CAP; 0 without a configuration. -/
def State.cap (s : State) : Nat := (s.node.ring.map RingCfg.cap).getD 0

/-- The configured REFILL; 0 without a configuration. -/
def State.refillCfg (s : State) : Nat := (s.node.ring.map RingCfg.refill).getD 0

/-- STARVED after the NORMAL head changed or the queue became empty (R50). -/
def starvedAfter (q : List PicEntry) (now : Word) (patience : Nat) (starved : Bool) : Bool :=
  match q with
  | [] => false
  | e :: _ => if 2 * e.wait now < patience then false else starved

/-- R50 applied to the present NORMAL queue. -/
def State.judgeStarved (s : State) : State :=
  { s with sched.starved := starvedAfter s.sched.normalQ s.tick s.patience s.sched.starved }

/-- The NORMAL head is among the entries that kill takes, or there is none. -/
def headGoes (q : List PicEntry) (kill : PicEntry → Bool) : Bool :=
  match q with
  | [] => true
  | e :: _ => kill e

/-- The slots of the LINE entries that kill takes. -/
def slotsOf (q : List PicEntry) (kill : PicEntry → Bool) : List Nat :=
  (q.filter (fun e => kill e && !e.isMark)).map PicEntry.slot

/-- Entries leave both picture queues by a purge: their slots are returned, and R50 is applied when the NORMAL
head goes (R41, R42, R43, R45, R53). -/
def State.purge (s : State) (kill : PicEntry → Bool) : State :=
  let s1 := s.returnSlots (slotsOf s.sched.safeQ kill ++ slotsOf s.sched.normalQ kill)
  let s2 : State :=
    { s1 with sched :=
        { s1.sched with
          safeQ := s.sched.safeQ.filter (fun e => !kill e)
          normalQ := s.sched.normalQ.filter (fun e => !kill e) } }
  if headGoes s.sched.normalQ kill then s2.judgeStarved else s2

/-- Every entry of a stream leaves the queues (R45). -/
def State.purgeStream (s : State) (index : BitVec 3) : State := s.purge (fun e => e.index == index)

/-- Every entry leaves the picture queues (R53). -/
def State.purgePictures (s : State) : State := s.purge (fun _ => true)

/-- The LINE entries of a stream leave the queues when its new MARK is appended (R42, R43). -/
def State.purgeStale (s : State) (index : BitVec 3) : State := s.purge (fun e => e.index == index && !e.isMark)

/-- A picture entry is appended to the queue of its class, and whether it was accepted (R41, R42, R43, R53). -/
def State.append (s : State) (e : PicEntry) : State × Bool :=
  if s.node.state = .run then
    let s1 := if e.isMark then s.purgeStale e.index else s
    if e.cls = .safe then
      if s1.sched.safeQ.length < Config.safeCap then
        ({ s1 with sched.safeQ := s1.sched.safeQ ++ [e] }, true)
      else (s1, false)
    else if s1.sched.normalQ.length < Config.normalCap then
      ({ s1 with sched.normalQ := s1.sched.normalQ ++ [{ e with entryTime := s1.tick }] }, true)
    else (s1, false)
  else (s, false)

/-- The refill of a tick (R46, R52). -/
def refillOf (refill : Nat) (yield : Bool) : Nat := if yield then refill - refill / 4 else refill

/-- The credit after a tick's refill (R46). -/
def creditAfterTick (s : State) : Nat :=
  if s.node.state.full then min s.cap (s.sched.credit + refillOf s.refillCfg s.sched.yield) else s.sched.credit

/-- A sighting of a foreign mark (R51). -/
def State.sighting (s : State) : State :=
  { s with sched := { s.sched with yield := true, yieldTime := Config.yieldTicks } }

/-- STARVED is due: the NORMAL head's wait exceeds the patience and the flag is clear (R49). -/
def State.starvedDue (s : State) : Bool :=
  match s.sched.normalQ with
  | [] => false
  | e :: _ => !s.sched.starved && s.patience < e.wait s.tick

/-- STARVED is set and raised (R49). -/
def State.setStarved (s : State) : State :=
  if s.starvedDue then ({ s with sched.starved := true } : State).raise Cause.starved.bit else s

/-- The yield time has run out (R51). -/
def State.yieldDue (s : State) : Bool := s.sched.yield && s.sched.yieldTime == 0

/-- YIELD is cleared when its time has run out (R51). -/
def State.clearYield (s : State) : State := if s.yieldDue then { s with sched.yield := false } else s

/-- A local LINE or MARK is being transmitted (R54). -/
def RingPort.sendingPicture (l : RingPort) : Bool :=
  match l.tx with
  | .sending p => p.kind == .line || p.kind == .mark
  | .transit => false
  | .between _ => false

/-- The scheduler may start LINE and MARK parcels: RUN, and no entry to another state waits (R53, R54). -/
def State.pictureAllowed (s : State) : Bool := s.node.state == .run && s.node.waiting.isNone

end Sys2Proof.Machine
end

