-- ==== Sys2Proof/Machine/Sources.lean ====
section
/-! DEFINITION. The Source Cutter (5): input ports, windows, source streams and the send store. -/

namespace Sys2Proof.Machine

/-! ## Streams -/

/-- The stream index of a window: input port × 4 + window number (R80). -/
def streamIndex (p : PortId) (i : Nat) : BitVec 3 :=
  match p with
  | .a => BitVec.ofNat 3 i
  | .b => BitVec.ofNat 3 (4 + i)

/-- The state a stream takes when it is settled (R81). -/
def settledState (node : NodeState) (geometry : Option Size) (demand : Bool) (w : Window) : StreamState :=
  if !w.enabled || !node.full then .idle
  else if geometry.isNone then .idle
  else if node = .mute ∨ node = .standby then .suspended
  else if w.shed && demand then .suspended
  else .running

/-- A stream moved to a state (R81): a change closes its frame and discards its assembly; leaving RUNNING clears
the drop flag. -/
def Stream.moveTo (st : StreamState) (k : Stream) : Stream :=
  if st = k.state then k
  else { k with state := st, frame := none, asm := [], drop := if k.state = .running then false else k.drop }

/-- The window numbers whose streams became SUSPENDED. -/
def newlySuspended (old new : List Stream) : List Nat :=
  (List.range old.length).filter (fun i =>
    (old[i]?.map Stream.state) != some .suspended && (new[i]?.map Stream.state) == some .suspended)

/-- The streams of a port are settled anew, and the entries of those that become SUSPENDED leave the queues (R81,
R82, R45). Where one event suspends several streams of the port, their entries leave by window number, and R50 is
applied after each (DESIGN CHOICE, log 39). -/
def State.settlePort (s : State) (p : PortId) : State :=
  match s.port p with
  | .input q =>
    let new := q.streams.map (fun k => k.moveTo (settledState s.node.state q.geometry s.view.demand k.win))
    (newlySuspended q.streams new).foldl (fun s i => s.purgeStream (streamIndex p i))
      (s.setPort p (.input { q with streams := new }))
  | .output _ => s
  | .unused _ => s

/-- The streams of both ports are settled anew (R81). -/
def State.settleStreams (s : State) : State := (s.settlePort .a).settlePort .b

/-- A SAFE stream of this port is RUNNING. -/
def Port.safeRunning (q : Port) : Bool := q.streams.any (fun k => k.win.cls == .safe && k.state == .running)

/-- A SAFE stream of this station is RUNNING (R89). -/
def State.safeRunning (s : State) : Bool := s.portA.safeRunning || s.portB.safeRunning

/-- The free slots a line of this class needs (R89). -/
def State.slotsNeeded (s : State) (c : ParcelClass) : Nat := if c = .normal ∧ s.safeRunning = true then 5 else 1

/-- The stream record of a window is replaced. -/
def State.setStream (s : State) (p : PortId) (i : Nat) (k : Stream) : State :=
  match s.port p with
  | .input q => s.setPort p (.input { q with streams := q.streams.set i k })
  | .output _ => s
  | .unused _ => s

/-! ## Placing lines and markers (R84, R88, R89, R90, R91) -/

/-- A dropped line counts, sets the drop flag, and raises SEND_DROP when the flag was clear (R90, R91). -/
def State.dropLine (s : State) (p : PortId) (i : Nat) (k : Stream) : State :=
  (s.setStream p i { k with drop := true, lostLines := holdInc k.lostLines }).raise (Cause.sendDrop.when (!k.drop))

/-- A dropped MARK counts, sets the drop flag, and raises SEND_DROP when the flag was clear (R90, R91). -/
def State.dropMark (s : State) (p : PortId) (i : Nat) (k : Stream) : State :=
  (s.setStream p i { k with drop := true, lostMarks := holdInc k.lostMarks }).raise (Cause.sendDrop.when (!k.drop))

/-- The LINE entry of a window line (R88). -/
def lineEntry (p : PortId) (i : Nat) (k : Stream) (frame : Half) (line width slot : Nat) : PicEntry :=
  { isMark := false, cls := k.win.cls, index := streamIndex p i, len := lineWords k.win.fmt width, frame := frame
    line := line, width := width, fmt := k.win.fmt, slot := slot, height := 0, entryTime := 0 }

/-- The MARK entry of a frame (R84). -/
def markEntry (p : PortId) (i : Nat) (k : Stream) (frame : Half) (size : Size) : PicEntry :=
  { isMark := true, cls := k.win.cls, index := streamIndex p i, len := 1, frame := frame, line := 0
    width := size.width, fmt := k.win.fmt, slot := 0, height := size.height, entryTime := 0 }

/-- The slot a completed line of this class takes, when it may take one (R89). -/
def State.takeSlot (s : State) (c : ParcelClass) : Option Nat :=
  if s.slotsNeeded c ≤ freeSlotCount s.store then freeSlot s.store else none

/-- A completed window line is placed or dropped (R85, R87 to R90). The stream k holds the line in its assembly
buffer, and y is the active line of the port; a line of width 0 is not sent and is no drop. -/
def State.placeLine (s : State) (p : PortId) (i : Nat) (y : Nat) (frame : Half) (k : Stream) : State :=
  let k0 : Stream := { k with asm := [] }
  if k.asm.isEmpty then s.setStream p i k0
  else
    match s.takeSlot k.win.cls with
    | none => s.dropLine p i k0
    | some n =>
      let r := s.append (lineEntry p i k frame (y - k.win.y0) k.asm.length n)
      if r.2 then
        ({ r.1 with store := r.1.store ++ [{ slot := n, words := packLine k.win.fmt k.asm }] } : State).setStream p i k0
      else s.dropLine p i k0

/-! ## Pixels and lines (R75, R76, R85) -/

/-- A component as the port takes it in (R75). -/
def InCfg.take (c : InCfg) (v : Component) : Component := if c.tenBit then v else expand8 (v.toNat % 256)

/-- A pixel as the port takes it in (R75). -/
def InCfg.pixel (c : InCfg) (r g b : Component) : Pixel := { r := c.take r, g := c.take g, b := c.take b }

/-- The next input column the stream takes (R85): x0 + phase + step × i. -/
def Stream.nextColumn (k : Stream) : Nat := k.win.x0 + k.win.phase + k.win.step * k.asm.length

/-- The stream cuts active line y (R85). -/
def Stream.cuts (y : Nat) (k : Stream) : Bool :=
  match k.frame with
  | none => false
  | some f => k.state == .running && decide (k.win.y0 ≤ y) && decide (y < k.win.y0 + f.height)

/-- The assembly buffer holds the marked width (R85). -/
def Stream.lineFull (k : Stream) : Bool :=
  match k.frame with
  | none => false
  | some f => decide (f.width ≤ k.asm.length)

/-- The pixel in hand goes to the window of this number when it is the column the window takes next; a complete
line is placed at once (R85). -/
def State.cutPixel (p : PortId) (px : Pixel) (s : State) (i : Nat) : State :=
  match s.port p with
  | .input q =>
    match q.streams[i]? with
    | some k =>
      if k.cuts q.lines && q.x == k.nextColumn then
        let k1 : Stream := { k with asm := k.asm ++ [px] }
        if k1.lineFull then s.placeLine p i q.lines q.counter k1 else s.setStream p i k1
      else s
    | none => s
  | .output _ => s
  | .unused _ => s

/-- An active pixel is counted (R76). -/
def State.countPixel (s : State) (p : PortId) : State :=
  match s.port p with
  | .input q => s.setPort p (.input { q with x := q.x + 1 })
  | .output _ => s
  | .unused _ => s

/-- The port counts pixels: it measures (R92; not after a silence, R77, log 16) and the caps of R76 are not reached. -/
def InPort.counting (q : InPort) : Bool :=
  q.measuring && decide (q.lines < Config.maxLines) && decide (q.x < Config.maxPixels)

/-- An active pixel (R75, R76, R85). Pixels between a frame start and the frame's first line sync edge are taken as its
first input line (DESIGN CHOICE, log 41). -/
def State.activePixel (s : State) (p : PortId) (r g b : Component) : State :=
  match s.port p with
  | .input q =>
    if s.node.state.full && q.counting then
      ((List.range q.streams.length).foldl (State.cutPixel p (q.cfg.pixel r g b)) s).countPixel p
    else s
  | .output _ => s
  | .unused _ => s

/-- A line cut short by the end of the input line is complete (R85). -/
def State.endWindowLine (p : PortId) (s : State) (i : Nat) : State :=
  match s.port p with
  | .input q =>
    match q.streams[i]? with
    | some k => if k.asm.isEmpty then s else s.placeLine p i q.lines q.counter k
    | none => s
  | .output _ => s
  | .unused _ => s

/-- The measurement after an input line: an active line is counted (R76). -/
def InPort.measureLine (q : InPort) : InPort :=
  if q.x = 0 then q else { q with lines := q.lines + 1, maxW := max q.maxW q.x, x := 0 }

/-- The measured line of a port is counted. -/
def State.measureLine (s : State) (p : PortId) : State :=
  match s.port p with
  | .input q => s.setPort p (.input q.measureLine)
  | .output _ => s
  | .unused _ => s

/-- The end of an input line (R75, R85): window lines cut short are placed in order of stream index, then the line
is counted. -/
def State.inputLineEnd (s : State) (p : PortId) : State :=
  match s.port p with
  | .input q =>
    if s.node.state.full then
      ((List.range q.streams.length).foldl (State.endWindowLine p) s).measureLine p
    else s
  | .output _ => s
  | .unused _ => s

/-! ## Frames (R76, R77, R78, R84) -/

/-- The geometry, measurement, counter and silence timer at an input frame start (R76, R77, R78). -/
def InPort.newFrame (q : InPort) : InPort :=
  { q with
    geometry := if 1 ≤ q.lines then some { width := q.maxW, height := q.lines } else none
    lines := 0
    x := 0
    maxW := 0
    counter := q.counter + 1
    measuring := true
    silence := some Config.silenceTicks }

/-- The columns available to a window (R84). -/
def columnsAvailable (w : Window) (width : Nat) : Nat :=
  if width ≤ w.x0 + w.phase then 0 else (width - 1 - w.x0 - w.phase) / w.step + 1

/-- The clipped size of a window's new frame (R84). -/
def clippedSize (w : Window) (g : Size) : Size :=
  { width := min w.width (columnsAvailable w g.width), height := min w.height (g.height - w.y0) }

/-- The previous frame of a stream is closed and its drop flag cleared (R84). -/
def Stream.close (k : Stream) : Stream := { k with frame := none, asm := [], drop := false }

/-- A stream's new frame (R84): its MARK is appended and the frame opened, or the MARK is dropped; nothing for a
frame that is clipped away. The stream k is closed. -/
def State.openFrame (s : State) (p : PortId) (i : Nat) (frame : Half) (size : Size) (k : Stream) : State :=
  if size.width = 0 ∨ size.height = 0 then s.setStream p i k
  else
    let r := s.append (markEntry p i k frame size)
    if r.2 then r.1.setStream p i { k with frame := some size } else r.1.dropMark p i k

/-- The frame start's work on one stream (R84). -/
def State.frameStream (p : PortId) (s : State) (i : Nat) : State :=
  match s.port p with
  | .input q =>
    match q.streams[i]? with
    | some k =>
      match q.geometry with
      | some g =>
        if k.state = .running then s.openFrame p i q.counter (clippedSize k.win g) k.close else s.setStream p i k.close
      | none => s.setStream p i k.close
    | none => s
  | .output _ => s
  | .unused _ => s

/-- The port's geometry, counter and timer move to the new frame. -/
def State.newFrame (s : State) (p : PortId) : State :=
  match s.port p with
  | .input q => s.setPort p (.input q.newFrame)
  | .output _ => s
  | .unused _ => s

/-- An input frame start (R76, R77, R78, R81, R84, R85). -/
def State.inputFrameStart (s : State) (p : PortId) : State :=
  match s.port p with
  | .input q =>
    if s.node.state.full then
      (List.range q.streams.length).foldl (State.frameStream p) (((s.inputLineEnd p).newFrame p).settlePort p)
    else s
  | .output _ => s
  | .unused _ => s

/-- The port has fallen silent: its timer has reached 0 (R77). -/
def InPort.silent (q : InPort) : Bool := q.silence == some 0

/-- The geometry is absent, the measurement discarded, and the timer stopped; nothing is measured until the next frame
start, which finds an empty measurement (R77, log 16). -/
def InPort.forget (q : InPort) : InPort :=
  { q with geometry := none, lines := 0, x := 0, maxW := 0, measuring := false, silence := none }

/-- The silence of an input port (R77), when its timer has reached 0. -/
def State.silenceTimeout (s : State) (p : PortId) : State :=
  match s.port p with
  | .input q => if q.silent && s.node.state.full then (s.setPort p (.input q.forget)).settlePort p else s
  | .output _ => s
  | .unused _ => s

/-- The silence timer at a microsecond tick (R77). -/
def InPort.runTick (q : InPort) : InPort := { q with silence := q.silence.map (· - 1) }

/-! ## The census items and the node's events (R80, R92) -/

/-- The census item of a stream (R80). -/
def Stream.offer (p : PortId) (i : Nat) (k : Stream) : Offer :=
  { index := streamIndex p i, width := k.win.width, height := k.win.height, fmt := k.win.fmt, cls := k.win.cls
    suspended := k.state != .running }

/-- The offered streams of a port from window i on, in order of stream index (R80). -/
def offersFrom (p : PortId) (i : Nat) : List Stream → List Offer
  | [] => []
  | k :: ks => if k.win.enabled then k.offer p i :: offersFrom p (i + 1) ks else offersFrom p (i + 1) ks

/-- The offered streams of this station (R62, R80). -/
def State.offers (s : State) : List Offer := offersFrom .a 0 s.portA.streams ++ offersFrom .b 0 s.portB.streams

/-- A stream at the entry to RUN (R92). -/
def Stream.fresh (w : Window) : Stream :=
  { win := w, state := .idle, frame := none, drop := false, asm := [], lostLines := 0, lostMarks := 0 }

/-- An input port at the entry to RUN (R92): its measurement begins. -/
def InPort.fresh (c : InCfg) (ws : List Window) : InPort :=
  { cfg := c, geometry := none, lines := 0, x := 0, maxW := 0, counter := 0, measuring := true, silence := none
    streams := ws.map Stream.fresh }

/-- A stream at a warm restart, before it is settled (R92). -/
def Stream.restart (k : Stream) : Stream :=
  { k with frame := none, drop := false, asm := [], lostLines := 0, lostMarks := 0 }

/-- A pixel port's streams at a warm restart, before they are settled (R92). -/
def Port.restartStreams (q : Port) : Port :=
  match q with
  | .input i => .input { i with streams := i.streams.map Stream.restart }
  | .output o => .output o
  | .unused k => .unused k

end Sys2Proof.Machine
end

