-- ==== Sys2Proof/Machine/InputCommands.lean ====
section
/-! DEFINITION. Meanings of the input-port commands (5). A silence that is due on the port is taken first (R77, log 2). -/

namespace Sys2Proof.Machine

/-- INPUT_FRAME_START (R84). -/
def execInputFrameStart (p : PortId) (s : State) : Answer :=
  live (fun s => (s.silenceTimeout p).inputFrameStart p) s

/-- ACTIVE_PIXEL (R75). -/
def execActivePixel (p : PortId) (r g b : Component) (s : State) : Answer :=
  live (fun s => (s.silenceTimeout p).activePixel p r g b) s

/-- INPUT_LINE_END (R75, R85). -/
def execInputLineEnd (p : PortId) (s : State) : Answer :=
  live (fun s => (s.silenceTimeout p).inputLineEnd p) s

end Sys2Proof.Machine
end

