-- ==== Sys2Proof/Machine/FrameLock.lean ====
section
/-! DEFINITION. The Frame Lock of an output port (7). -/

namespace Sys2Proof.Machine

/-- The deviation limit DEV (R115). -/
def OutCfg.dev (c : OutCfg) : Nat := c.incNom / 2 ^ c.devShift

/-- The horizontal total HT (R133). -/
def OutCfg.ht (c : OutCfg) : Nat := c.ha + c.hfp + c.hs + c.hbp

/-- The vertical total VT (R133). -/
def OutCfg.vt (c : OutCfg) : Nat := c.va + c.vfp + c.vs + c.vbp

/-- INC_nom as the register holds it. -/
def OutCfg.incWord (c : OutCfg) : Word := BitVec.ofNat 32 c.incNom

/-- A stretch in progress is to end at the end of its added line (R129). -/
def Stretch.stop (s : Stretch) : Stretch := { s with ending := true }

/-- Entry to FREE (R116, R129, R130): INC_nom, integrator 0, LIMITED, LOCKED and counts clear; a stretch ends. That the
holdover frame count is 0 also after a subscription change in HOLDOVER is a DESIGN CHOICE (log 57). -/
def FrameLock.enterFree (c : OutCfg) (l : FrameLock) : FrameLock :=
  { l with state := .free, inc := c.incWord, integ := 0, limited := .clear, locked := false, inWin := 0, outWin := 0
           holdCount := 0, stretch := l.stretch.map Stretch.stop }

/-- Entry to ACQUIRE (R116): as FREE, with the integrator as given; a stretch goes on as a hold (R129). The holdover frame
count is 0 after a marker accepted in HOLDOVER, as 7.11 shows; that it is 0 also after a subscription change there is a DESIGN
CHOICE (log 57). -/
def FrameLock.enterAcquire (c : OutCfg) (integ : Int) (l : FrameLock) : FrameLock :=
  { l with state := .acquire, inc := c.incWord, integ := integ, limited := .clear, locked := false, inWin := 0
           outWin := 0, holdCount := 0, stretch := l.stretch.map (fun s => { s with limit := false }) }

/-- Entry to HOLDOVER (R116, R119, R129): INC, integrator and LIMITED stay; a stretch ends. -/
def FrameLock.enterHoldover (l : FrameLock) : FrameLock :=
  { l with state := .holdover, locked := false, inWin := 0, outWin := 0, holdCount := 0
           stretch := l.stretch.map Stretch.stop }

/-- The integrator an entry to ACQUIRE keeps from HOLDOVER (R116). -/
def FrameLock.keptInteg (l : FrameLock) : Int := if l.state = .holdover then l.integ else 0

/-- A subscription change of the MAIN record (R117): to ACQUIRE for a stream, to FREE for none. A direct write of
Camera Priority starts with the integrator at 0 (R154); a take-over keeps it from HOLDOVER alone (R116, log 12). The
holdover frame count becomes 0 (DESIGN CHOICE, log 57). -/
def FrameLock.onSubscribe (c : OutCfg) (direct : Bool) (sub : Option StreamId) (l : FrameLock) : FrameLock :=
  match sub with
  | some _ => l.enterAcquire c (if direct then 0 else l.keptInteg)
  | none => l.enterFree c

/-- Holdover has run out (R130). -/
def FrameLock.runOut (c : OutCfg) (l : FrameLock) : Bool := l.state == .holdover && decide (c.holdFrames ≤ l.holdCount)

/-- A marker accepted by the MAIN record (R118). -/
def FrameLock.onMarker (c : OutCfg) (sub : Option StreamId) (l : FrameLock) : FrameLock :=
  match l.state with
  | .free => if sub.isSome then l.enterAcquire c 0 else l
  | .holdover => l.enterAcquire c l.integ
  | .acquire => l
  | .track => l

/-- A loss of source reported by the MAIN record (R119). -/
def FrameLock.onLoss (l : FrameLock) : FrameLock :=
  match l.state with
  | .track => l.enterHoldover
  | .free => l
  | .acquire => l
  | .holdover => l

/-- Entry to TRACK (R123). -/
def FrameLock.enterTrack (l : FrameLock) : FrameLock :=
  { l with state := .track, limited := .clear, locked := false, inWin := 0, outWin := 0 }

/-- A value clamped to a range (Conventions, Numbers). -/
def clampInt (lo hi v : Int) : Int := max lo (min hi v)

/-- The error of a lead (R124). -/
def lockError (c : OutCfg) (lead : Nat) : Int := clampInt (-255) 255 ((lead : Int) - c.t)

/-- The new integrator (R124): anti-windup, else the clamped sum. -/
def nextInteg (limited : Limited) (integ e : Int) : Int :=
  if (limited = .upper ∧ 0 < e) ∨ (limited = .lower ∧ e < 0) then integ
  else clampInt (-1048576) 1048575 (integ + e)

/-- The deviation D before clamping (R125); the quotient rounds toward minus infinity. -/
def steering (c : OutCfg) (e integ : Int) : Int := (c.kp * e + c.ki * integ / 64) * 2 ^ c.gx

/-- LIMITED after the clamp of R125. -/
def limitedOf (dev : Nat) (d : Int) : Limited :=
  if (dev : Int) < d then .upper else if d < -(dev : Int) then .lower else .clear

/-- The new INC (R125). -/
def nextInc (c : OutCfg) (d : Int) : Word :=
  BitVec.ofInt 32 (clampInt ((c.incNom : Int) - c.dev) ((c.incNom : Int) + c.dev) (c.incNom + d))

/-- The error lies within the lock window (R126). -/
def inWindow (c : OutCfg) (e : Int) : Bool := e.natAbs ≤ c.w

/-- The lock judgement (R126), with the cause it raises. -/
def FrameLock.judge (c : OutCfg) (e : Int) (l : FrameLock) : FrameLock × Half :=
  if l.locked then
    if inWindow c e then ({ l with outWin := 0 }, noCause)
    else if 2 ≤ l.outWin + 1 then ({ l with locked := false, outWin := 0 }, Cause.lockLost.bit)
    else ({ l with outWin := l.outWin + 1 }, noCause)
  else if inWindow c e then
    if 4 ≤ l.inWin + 1 then ({ l with locked := true, inWin := 0 }, Cause.lockAcquired.bit)
    else ({ l with inWin := l.inWin + 1 }, noCause)
  else ({ l with inWin := 0 }, noCause)

/-- The steering of a computation (R124, R125), before its lock judgement. -/
def FrameLock.steer (c : OutCfg) (lead : Nat) (l : FrameLock) : FrameLock :=
  let e := lockError c lead
  let i := nextInteg l.limited l.integ e
  let d := steering c e i
  { l with inc := nextInc c d, integ := i, limited := limitedOf c.dev d, lastLead := lead, lastError := e }

/-- The computation in TRACK (R124, R125, R126). -/
def FrameLock.compute (c : OutCfg) (lead : Nat) (l : FrameLock) : FrameLock × Half :=
  (l.steer c lead).judge c (lockError c lead)

/-- A Frame Lock at the entry to RUN, before its MAIN subscription is looked at (R131). -/
def FrameLock.fresh (c : OutCfg) : FrameLock :=
  { state := .free, inc := c.incWord, acc := 0, integ := 0, limited := .clear, locked := false, inWin := 0
    outWin := 0, holdCount := 0, stretch := none, lastLead := 0, lastError := 0, linesAdded := 0 }

/-- FREE, then ACQUIRE when the MAIN subscription is a stream (R131, wake and entry to RUN). -/
def FrameLock.freeOrAcquire (c : OutCfg) (sub : Option StreamId) (l : FrameLock) : FrameLock :=
  match sub with
  | some _ => (l.enterFree c).enterAcquire c 0
  | none => l.enterFree c

/-- Warm restart (R131): FREE then ACQUIRE, the figures of the last computation back to 0; the accumulator runs on. -/
def FrameLock.restart (c : OutCfg) (sub : Option StreamId) (l : FrameLock) : FrameLock :=
  { l.freeOrAcquire c sub with lastLead := 0, lastError := 0, linesAdded := 0 }

end Sys2Proof.Machine
end

