-- ==== Sys2Proof/Machine/Sinks.lean ====
section
/-! DEFINITION. Sink records and the Line Store (6). Functions on one record take its height limit or the panel
where the rule asks for it; what reaches the Frame Lock or Camera Priority is done on the whole port. -/

namespace Sys2Proof.Machine

/-! ## One record -/

/-- The slots a record has in use: its queue's records and its detached ones (R95). -/
def Sink.usedSlots (k : Sink) : List Nat := k.queue.map LineRec.slot ++ k.detached.map LineRec.slot

/-- The lowest free slot of the allotment (R95). -/
def Sink.freeSlot (k : Sink) : Option Nat :=
  (List.range' k.cfg.first k.cfg.count).find? (fun n => !k.usedSlots.contains n)

/-- The lead: FULL records of the presented frame in the queue (R104). -/
def Sink.lead (k : Sink) : Nat :=
  match k.presented with
  | none => 0
  | some f => (k.queue.filter (fun r => r.full && r.frame == f.no)).length

/-- A set torn flag is counted, and the torn and overrun flags are cleared (R97, R103, R107, R111). -/
def Sink.closeTorn (k : Sink) : Sink :=
  { k with tornCount := if k.torn then holdInc k.tornCount else k.tornCount, torn := false, overrun := false }

/-- The record forgets its frame (R107): queue emptied, current frame absent, torn frame counted. -/
def Sink.forget (k : Sink) : Sink := { k.closeTorn with queue := [], cur := none, last := none }

/-- The source station of a stream id (R107). -/
def sourceOf (s : StreamId) : StationNo := s.extractLsb' 3 4

/-- The stream index of a stream id (R107). -/
def indexOf (s : StreamId) : BitVec 3 := s.extractLsb' 0 3

/-- The station table's entry for a station. -/
def entryFor (t : List TableEntry) (st : StationNo) : Option TableEntry := t.find? (fun e => e.station = st)

/-- The table shows a stream present (R107). -/
def showsPresent (t : List TableEntry) (s : StreamId) : Bool :=
  match entryFor t (sourceOf s) with
  | none => false
  | some e => e.state == .run && e.offers.any (fun o => o.index == indexOf s && !o.suspended)

/-- The nonce the table holds for a stream's source. -/
def tableNonce (t : List TableEntry) (s : StreamId) : Option Half := (entryFor t (sourceOf s)).map TableEntry.nonce

/-- The table shows the record's stream present; false without a subscription. -/
def Sink.shown (t : List TableEntry) (k : Sink) : Bool :=
  match k.active with
  | none => false
  | some s => showsPresent t s

/-- The source's nonce differs from the one last seen: it has started RUN again (R107). -/
def Sink.nonceChanged (t : List TableEntry) (s : StreamId) (k : Sink) : Bool :=
  match tableNonce t s, k.nonce with
  | some n, some m => n != m
  | _, _ => false

/-- The first judgement of R107: the nonce. -/
def Sink.judgeNonce (t : List TableEntry) (s : StreamId) (k : Sink) : Sink :=
  let k1 := if k.nonceChanged t s then k.forget else k
  match tableNonce t s with
  | some n => { k1 with nonce := some n }
  | none => k1

/-- The effects of a loss on the record itself (R109). -/
def Sink.lose (k : Sink) : Sink := { k.forget with source := .lost, silent := 0 }

/-- A subscription change of the record (R97), with the source judged anew from the table (R107). -/
def Sink.change (t : List TableEntry) (sub : Option StreamId) (k : Sink) : Sink :=
  let k1 := k.closeTorn
  { k1 with
    active := sub
    detached := k.detached ++ k.queue.filter (fun r => !r.full)
    queue := []
    cur := none
    last := none
    presented := none
    silent := 0
    markerSeen := false
    mismatch := false
    nonce := sub.bind (tableNonce t)
    source :=
      match sub with
      | none => .absent
      | some s => if showsPresent t s then .present else .absent }

/-- The write of a shadow by SHOW, INSET or a release (R96): nothing when it names what the record holds and no
shadow is present. -/
def Sink.writeShadow (role : Role) (v : Placed) (k : Sink) : Sink :=
  let same := v.sub == k.active && (role == .main || (v.x == k.x && v.y == k.y))
  if k.shadow.isNone && same then k else { k with shadow := some v }

/-- A write of a shadow leaves the record unchanged (R96). -/
def Sink.writeIdle (role : Role) (v : Placed) (k : Sink) : Bool :=
  k.shadow.isNone && v.sub == k.active && (role == .main || (v.x == k.x && v.y == k.y))

/-- The tests of R100 that refuse a line. -/
def Sink.refuses (limit : Nat) (frame : Half) (line : Nat) (k : Sink) : Bool :=
  (match k.cur with
    | none => true
    | some f => f.no != frame) ||
  (match k.last with
    | none => false
    | some n => decide (line ≤ n)) ||
  decide (limit ≤ line)

/-- The line number expected next (R100). -/
def Sink.expected (k : Sink) : Nat :=
  match k.last with
  | none => 0
  | some n => n + 1

/-- What a record does with a line offered to it. -/
inductive Taken where
  | refused
  | overrun
  | accepted
deriving DecidableEq, Repr

/-- A line offered at its header event (R100, R101): the record after it, and what became of the line. -/
def Sink.offer (limit : Nat) (frame : Half) (line width : Nat) (fmt : RingFormat) (k : Sink) : Sink × Taken :=
  if k.refuses limit frame line then (k, .refused)
  else
    match k.freeSlot with
    | none =>
      ({ k with last := some line, torn := true, overrun := true, overrunCount := holdInc k.overrunCount }, .overrun)
    | some n =>
      ({ k with
          last := some line
          torn := k.torn || line != k.expected
          queue :=
            k.queue ++ [{ slot := n, frame := frame, line := line, width := width, fmt := fmt, full := false
                          pixels := [] }] },
        .accepted)

/-- STORE_OVERRUN, raised once for each frame (R101). -/
def Sink.offerCause (k : Sink) (t : Taken) : Half :=
  match t with
  | .overrun => Cause.storeOverrun.when (!k.overrun)
  | .refused => noCause
  | .accepted => noCause

/-- Pixels join a FILLING record, up to its width (R102, R144). -/
def LineRec.write (ps : List Pixel) (r : LineRec) : LineRec :=
  if r.full then r else { r with pixels := (r.pixels ++ ps).take r.width }

/-- A payload word's pixels are written to the record's FILLING lines (R102). -/
def Sink.write (ps : List Pixel) (k : Sink) : Sink :=
  { k with queue := k.queue.map (LineRec.write ps), detached := k.detached.map (LineRec.write ps) }

/-- The FILLING line is of the current frame. -/
def Sink.fillingCurrent (k : Sink) : Bool :=
  match k.cur with
  | none => false
  | some f => k.queue.any (fun r => !r.full && r.frame == f.no)

/-- The end event of an accepted line (R97, R102): FULL at a good end; removed at a bad one; a detached record
goes at either. -/
def Sink.finish (good : Bool) (k : Sink) : Sink :=
  if good then
    { k with queue := k.queue.map (fun r => { r with full := true }), detached := [] }
  else
    { k with queue := k.queue.filter LineRec.full, detached := [], torn := k.torn || k.fillingCurrent }

/-- A marker is accepted: its frame is later than the current one, or there is none (R103). -/
def Sink.acceptsMarker (frame : Half) (k : Sink) : Bool :=
  match k.cur with
  | none => true
  | some f => laterFrame frame f.no

/-- Lines at the end of the current frame never arrived (R103). -/
def Sink.tailMissing (limit : Nat) (k : Sink) : Bool :=
  match k.cur with
  | none => false
  | some f =>
    match k.last with
    | none => true
    | some n => decide (n + 1 < min f.height limit)

/-- The acceptance of a marker on the record itself (R103): the old frame is closed, the new one becomes current. -/
def Sink.openFrame (limit : Nat) (f : FrameInfo) (k : Sink) : Sink :=
  let k1 := ({ k with torn := k.torn || k.tailMissing limit } : Sink).closeTorn
  { k1 with cur := some f, last := none, markerSeen := true }

/-- The source after an accepted marker (R109). -/
def Sink.sourceAfterMarker (t : List TableEntry) (k : Sink) : SourceState :=
  if k.source = .lost ∧ k.shown t = true then .present else k.source

/-- The purge of an output frame start (R105): records of other frames go, the current frame is presented. -/
def Sink.purge (k : Sink) : Sink :=
  { k with
    queue :=
      match k.cur with
      | none => []
      | some f => k.queue.filter (fun r => r.frame == f.no)
    presented := k.cur }

/-- The silence judgement of an output frame start (R108), up to the count; at 3 the loss is due. -/
def Sink.judgeSilence (watched : Bool) (k : Sink) : Sink :=
  { k with
    silent := if watched then (if k.markerSeen then 0 else k.silent + 1) else k.silent
    markerSeen := false }

/-- The loss of source by silence is due (R108). -/
def Sink.silenceDue (k : Sink) : Bool := decide (Config.silentFrames ≤ k.silent)

/-- A head record is late for line y of the presented frame (R106). -/
def lateFor (frame : Half) (y : Nat) (r : LineRec) : Bool := r.frame == frame && decide (r.line < y)

/-- The queue after the removal of late records (R106, step 1). -/
def dropLate (frame : Half) (y : Nat) (q : List LineRec) : List LineRec := q.dropWhile (lateFor frame y)

/-- The head is consumed for line y (R106, step 2). -/
def consumes (frame : Half) (y : Nat) (r : LineRec) : Bool := r.full && r.frame == frame && r.line == y

/-- A read of line y (R106): the record after it, and the line record consumed, if any. -/
def Sink.read (frame : Half) (y : Nat) (k : Sink) : Sink × Option LineRec :=
  match dropLate frame y k.queue with
  | [] => ({ k with queue := [] }, none)
  | r :: rest =>
    if consumes frame y r then ({ k with queue := rest }, some r) else ({ k with queue := r :: rest }, none)

/-- Entry to STANDBY (R111). -/
def Sink.standby (k : Sink) : Sink := { k.forget with detached := [], silent := 0, markerSeen := false }

/-- A record at the entry to RUN (R94, R112). -/
def Sink.fresh (c : SinkCfg) : Sink :=
  { cfg := c, active := c.initSub, shadow := none, x := c.initX, y := c.initY, cur := none, last := none
    torn := false, overrun := false, presented := none, source := .absent, nonce := none, silent := 0
    markerSeen := false, mismatch := false, tornCount := 0, overrunCount := 0, queue := [], detached := [] }

/-! ## On the port -/

/-- The height limit of the MAIN record (6.1). -/
def OutPort.mainLimit (o : OutPort) : Nat := o.cfg.va

/-- The height limit of an OVERLAY record (6.1). -/
def overlayLimit (c : OutCfg) (k : Sink) : Nat := c.va - k.y

/-- The record of a role. -/
def OutPort.sink (o : OutPort) : Role → Option Sink
  | .main => some o.main
  | .overlay => o.overlay

/-- The height limit of the record of a role. -/
def OutPort.limit (o : OutPort) (role : Role) (k : Sink) : Nat :=
  match role with
  | .main => o.mainLimit
  | .overlay => overlayLimit o.cfg k

/-- The record of a role replaced by its image under f. -/
def OutPort.mapSink (o : OutPort) (role : Role) (f : Sink → Sink) : OutPort :=
  match role with
  | .main => { o with main := f o.main }
  | .overlay => { o with overlay := o.overlay.map f }

/-- Both records of the port. -/
def OutPort.mapSinks (o : OutPort) (f : Sink → Sink) : OutPort :=
  { o with main := f o.main, overlay := o.overlay.map f }

/-- The camera record of a port in SHOWING is gone: LATE and CAMERA_LATE (R156). -/
def OutPort.cameraGone (o : OutPort) (b : Bool) : OutPort × Half :=
  if b && o.cam.state == .showing then ({ o with cam.state := .late }, Cause.cameraLate.bit) else (o, noCause)

/-- The loss of a record's source (R109), with what it does to the Frame Lock (R119) and the camera state (R156). -/
def OutPort.loseSource (o : OutPort) (role : Role) : OutPort × Half :=
  match role with
  | .main =>
    let o1 : OutPort := { o with main := o.main.lose, lock := o.lock.onLoss }
    let r := o1.cameraGone (o.lock.state == .track && o.cfg.camMode == .full)
    (r.1, r.2 ||| Cause.sourceLost.bit)
  | .overlay =>
    let o1 : OutPort := { o with overlay := o.overlay.map Sink.lose }
    let r := o1.cameraGone (o.cfg.camMode == .inset)
    (r.1, r.2 ||| Cause.sourceLost.bit)

/-- The record of a role judges its source after its nonce judgement (R107, second table). -/
def OutPort.judgeSource (t : List TableEntry) (role : Role) (o : OutPort) : OutPort × Half :=
  match o.sink role with
  | none => (o, noCause)
  | some k =>
    match k.source with
    | .absent => (o.mapSink role (fun k => { k with source := if k.shown t then .present else .absent }), noCause)
    | .present => if k.shown t then (o, noCause) else o.loseSource role
    | .lost => (o, noCause)

/-- The record of a role is subscribed to a stream of this station. -/
def OutPort.watches (o : OutPort) (role : Role) (st : StationNo) : Option StreamId :=
  match o.sink role with
  | none => none
  | some k =>
    match k.active with
    | none => none
    | some s => if sourceOf s = st then some s else none

/-- A table report about a station, for the record of one role (R107). -/
def OutPort.tableReport1 (t : List TableEntry) (st : StationNo) (role : Role) (o : OutPort) : OutPort × Half :=
  match o.watches role st with
  | none => (o, noCause)
  | some s => (o.mapSink role (Sink.judgeNonce t s)).judgeSource t role

/-- A table report about a station (R69, R70, R107): MAIN, then OVERLAY. -/
def OutPort.tableReport (t : List TableEntry) (st : StationNo) (o : OutPort) : OutPort × Half :=
  let r1 := o.tableReport1 t st .main
  let r2 := r1.1.tableReport1 t st .overlay
  (r2.1, r1.2 ||| r2.2)

/-- A value is written as the active subscription of a record, and whether that was a subscription change (R97,
R117). -/
def OutPort.subscribe (t : List TableEntry) (direct : Bool) (role : Role) (sub : Option StreamId) (o : OutPort) :
    OutPort × Bool :=
  match role with
  | .main =>
    if o.main.active = sub then (o, false)
    else ({ o with main := o.main.change t sub, lock := o.lock.onSubscribe o.cfg direct sub }, true)
  | .overlay =>
    match o.overlay with
    | none => (o, false)
    | some k => if k.active = sub then (o, false) else ({ o with overlay := some (k.change t sub) }, true)

/-- The marked size disagrees with the panel (R110). -/
def sizeMismatch (c : OutCfg) (role : Role) (k : Sink) (f : FrameInfo) : Bool :=
  match role with
  | .main => f.width != c.ha || f.height != c.va
  | .overlay => decide (c.ha < k.x + f.width) || decide (c.va < k.y + f.height)

/-- A marker delivered to the record of a role that still names its stream (R103, R109, R110, R118). A record fixed at the
header event that has lost the stream since and names it again at the good end is given the marker, as R103 reads; R29 and R97
offer a stream gained only from its next header event (DESIGN CHOICE, log 56). -/
def OutPort.marker (t : List TableEntry) (stream : StreamId) (f : FrameInfo) (role : Role) (o : OutPort) :
    OutPort × Half :=
  match o.sink role with
  | none => (o, noCause)
  | some k =>
    if k.active = some stream ∧ k.acceptsMarker f.no = true then
      let bad := !k.mismatch && sizeMismatch o.cfg role k f
      let k1 := k.openFrame (o.limit role k) f
      let k2 : Sink := { k1 with source := k.sourceAfterMarker t, mismatch := k.mismatch || bad }
      let o1 := o.mapSink role (fun _ => k2)
      let o2 : OutPort :=
        match role with
        | .main => { o1 with lock := o1.lock.onMarker o.cfg k.active }
        | .overlay => o1
      (o2, Cause.geometryMismatch.when bad)
    else (o, noCause)

/-- A line offered to the record of a role (R28, R100, R101), and whether it took it. -/
def OutPort.offerLine (stream : StreamId) (frame : Half) (line width : Nat) (fmt : RingFormat) (role : Role)
    (o : OutPort) : OutPort × Half × Bool :=
  match o.sink role with
  | none => (o, noCause, false)
  | some k =>
    if k.active = some stream then
      let r := k.offer (o.limit role k) frame line width fmt
      (o.mapSink role (fun _ => r.1), k.offerCause r.2, r.2 == .accepted)
    else (o, noCause, false)

end Sys2Proof.Machine
end

