-- ==== Sys2Proof/Machine/Presenter.lean ====
section
/-! DEFINITION. The Presenter of an output port (8), and the port's output frame start, added lines and active
lines with the Frame Lock (7). -/

namespace Sys2Proof.Machine

/-! ## Pixels to the panel (R145, R146) -/

/-- Bits a component loses on its way to the panel. -/
def OutCfg.k (c : OutCfg) : Nat := 10 - c.depth

/-- The rounding of R145: half of what is dropped. -/
def OutCfg.rounding (c : OutCfg) : Nat := if c.k = 0 then 0 else 2 ^ (c.k - 1)

/-- One component on the panel, the given value added before the division (R145, R146). -/
def reduceTo (c : OutCfg) (add : Nat) (v : Component) : Component :=
  BitVec.ofNat 10 (min (2 ^ c.depth - 1) ((v.toNat + add) / 2 ^ c.k))

/-- Dither is applied: static or temporal, with bits to drop (R145, R146). -/
def OutCfg.dithers (c : OutCfg) : Bool := c.dither != .off && c.k != 0

/-- The dither field number i of a generator value (R146). -/
def ditherField (c : OutCfg) (r : Half) (i : Nat) : Nat := (r.toNat / 2 ^ (i * c.k)) % 2 ^ c.k

/-- A pixel reduced to panel depth, r being the dither value for it (R145, R146). -/
def reducePixel (c : OutCfg) (r : Half) (p : Pixel) : Pixel :=
  if c.dithers then
    { r := reduceTo c (ditherField c r 0) p.r, g := reduceTo c (ditherField c r 1) p.g
      b := reduceTo c (ditherField c r 2) p.b }
  else
    { r := reduceTo c c.rounding p.r, g := reduceTo c c.rounding p.g, b := reduceTo c c.rounding p.b }

/-- A line of pixels as driven, the generator advancing once before each (R146). -/
def driveLine (c : OutCfg) : Half → List Pixel → List Pixel × Half
  | g, [] => ([], g)
  | g, p :: ps => (reducePixel c (advance g) p :: (driveLine c (advance g) ps).1, (driveLine c (advance g) ps).2)

/-- The dither seed, or FFFFh when it is 0 (R146). -/
def OutCfg.seed (c : OutCfg) : Half := if c.ditherSeed = 0 then 0xFFFF#16 else c.ditherSeed

/-- A line of fill colour at panel width. -/
def OutCfg.fillLine (c : OutCfg) : List Pixel := List.replicate c.ha c.fill

/-- The main line of a consumed record: cropped or filled to the panel (R141). -/
def mainLineOf (c : OutCfg) (r : LineRec) : List Pixel :=
  r.pixels.take c.ha ++ List.replicate (c.ha - r.pixels.length) c.fill

/-- Overlay pixels over main pixels, column by column; a pixel of the key colour is transparent (R143). -/
def overlayOn (key : Option Pixel) : List Pixel → List Pixel → List Pixel
  | m :: ms, o :: os => (if key = some o then m else o) :: overlayOn key ms os
  | ms, [] => ms
  | [], _ :: _ => []

/-- An overlay line placed from column ix on (R142, R143). -/
def merge (key : Option Pixel) (ix : Nat) (main ov : List Pixel) : List Pixel :=
  main.take ix ++ overlayOn key (main.drop ix) ov

/-- The key colour while key compare is on (R143). -/
def OutPort.keyColour (o : OutPort) : Option Pixel :=
  if o.cfg.keyEnable && !o.cam.insetHold then some o.cfg.key else none

/-! ## The timing position (R134, log 15) -/

/-- Pixel periods of the vertical blanking (R134). -/
def OutCfg.blankPixels (c : OutCfg) : Nat := c.ht * (c.vfp + c.vs + c.vbp)

/-- The next n active pixels of the line in progress are driven, the generator advancing before each (R146). -/
def Presenter.drive (c : OutCfg) (n : Nat) (p : Presenter) : Presenter :=
  { p with
    driven := p.driven ++ (driveLine c p.gen (p.ahead.take n)).1
    gen := (driveLine c p.gen (p.ahead.take n)).2
    ahead := p.ahead.drop n }

/-- After the last active line the blanking begins (R134, R138), as soon as the line's pixel periods have been given (log 15). -/
def Presenter.roll (c : OutCfg) (p : Presenter) : Presenter :=
  if p.pos = .active ∧ c.va ≤ p.nextLine ∧ c.ht ≤ p.pixel then
    { p with pos := .blanking, pixel := p.pixel - c.ht, driven := [], ahead := [] }
  else p

/-- The timing position after n more pixel periods (R134), of which an active line drives one pixel each (R146). A line event
that the periods have brought about comes with its command (log 15); the periods beyond it count toward what follows. -/
def Presenter.run (c : OutCfg) (n : Nat) (p : Presenter) : Presenter :=
  match p.pos with
  | .stopped => p
  | .added => { p with pixel := p.pixel + n }
  | .active => (({ p with pixel := p.pixel + n } : Presenter).drive c n).roll c
  | .blanking => { p with pixel := p.pixel + n }

/-- The line in progress is over: its HT pixel periods have passed (R134). -/
def OutPort.lineOver (o : OutPort) : Bool := decide (o.cfg.ht ≤ o.pres.pixel)

/-- The line that is over gives way to what follows it. -/
def OutPort.passLine (o : OutPort) : OutPort := { o with pres.pixel := o.pres.pixel - o.cfg.ht }

/-- The frame is over: the last back-porch line has ended (R134). -/
def OutPort.frameOver (o : OutPort) : Bool := o.pres.pos == .blanking && decide (o.cfg.blankPixels ≤ o.pres.pixel)

/-! ## The output frame start -/

/-- The shadow of a record is taken over (R98), and whether that was a subscription change. -/
def OutPort.takeOver (t : List TableEntry) (role : Role) (o : OutPort) : OutPort × Bool :=
  match o.sink role with
  | none => (o, false)
  | some k =>
    match k.shadow with
    | none => (o, false)
    | some v =>
      let r := o.subscribe t false role v.sub
      (r.1.mapSink role (fun k =>
        match role with
        | .main => { k with shadow := none }
        | .overlay => { k with shadow := none, x := v.x, y := v.y }), r.2)

/-- The switch-blank count at an output frame start (R137). -/
def blankAfter (swb : Nat) (changed : Bool) (blank : Nat) : Nat := if changed then swb else blank - 1

/-- The records purged, presented and judged for silence (R105, R108). -/
def OutPort.purge (o : OutPort) : OutPort :=
  { o with
    main := o.main.purge.judgeSilence (o.lock.state == .track)
    overlay := o.overlay.map (fun k => k.purge.judgeSilence (k.source == .present)) }

/-- The fourth and fifth duties of R135, and the camera inset hold of a released port (R157). -/
def OutPort.beginFrame (o : OutPort) : OutPort :=
  { o with
    pres :=
      { o.pres with
        fillFrame := false
        cutDone := false
        lastLine := o.cfg.fillLine
        gen := if o.cfg.dither = .fixed then o.cfg.seed else o.pres.gen
        line := 0
        nextLine := 0
        pixel := o.pres.pixel - o.cfg.blankPixels
        driven := []
        ahead := [] }
    cam := { o.cam with insetHold := o.cam.insetHold && o.cam.state != .idle } }

/-- The frame goes on to its active lines (R136). -/
def Presenter.toActive (p : Presenter) : Presenter := { p with pos := .active, line := 0, nextLine := 0 }

/-- A stretch or hold begins with its first added line (R120, R127). -/
def OutPort.beginStretch (o : OutPort) : OutPort :=
  { o with
    lock := { o.lock with stretch := some { added := 0, ending := false, limit := false } }
    pres := { o.pres with pos := .added } }

/-- The stretch ends with this many added lines, and the frame goes on to its active lines (R128, R136). -/
def OutPort.endStretch (added : Nat) (o : OutPort) : OutPort :=
  { o with lock := { o.lock with stretch := none, linesAdded := added }, pres := o.pres.toActive }

/-- The computation of TRACK on the port's Frame Lock (R124 to R126). -/
def OutPort.compute (lead : Nat) (o : OutPort) : OutPort × Half :=
  let r := o.lock.compute o.cfg lead
  ({ o with lock := r.1 }, r.2)

/-- The Frame Lock enters TRACK with this lead (R123). -/
def OutPort.acquireTrack (lead : Nat) (o : OutPort) : OutPort × Half :=
  ({ o with lock := o.lock.enterTrack } : OutPort).compute lead

/-- The holdover frame count rises (R130). -/
def FrameLock.countHoldover (l : FrameLock) : FrameLock := { l with holdCount := l.holdCount + 1 }

/-- The sixth duty: the Frame Lock is consulted (R120, R127, R130, R135). With a loss of the MAIN source due, the
lock is about to be in HOLDOVER and neither stretches nor computes (R119). -/
def OutPort.consult (o : OutPort) : OutPort × Half :=
  let none' := o.endStretch 0
  match o.lock.state with
  | .free => (none', noCause)
  | .holdover => ({ none' with lock := none'.lock.countHoldover }, noCause)
  | .acquire => if o.cfg.t ≤ o.main.lead then none'.acquireTrack o.main.lead else (o.beginStretch, noCause)
  | .track =>
    if o.main.silenceDue then (none', noCause)
    else if o.main.lead = 0 ∧ 0 < o.cfg.vStretchMax then (o.beginStretch, noCause)
    else none'.compute o.main.lead

/-- An output frame start (R135). -/
def OutPort.frameStart (t : List TableEntry) (o : OutPort) : OutPort × Half :=
  let r1 := o.takeOver t .main
  let r2 := r1.1.takeOver t .overlay
  let o3 : OutPort := { r2.1 with pres.blank := blankAfter o.cfg.swb (r1.2 || r2.2) r2.1.pres.blank }
  o3.purge.beginFrame.consult

/-- The port takes an output frame start: its frame is over (R134), no stop is pending (R148), and no hold or stretch
is in progress (R136). -/
def OutPort.canStart (o : OutPort) : Bool := o.frameOver && !o.pres.stopPending && o.lock.stretch.isNone

/-! ## Added lines -/

/-- The re-take of R121: the current frame becomes the presented one, other frames' records go. -/
def Sink.retake (k : Sink) : Sink :=
  match k.cur with
  | none => k
  | some f =>
    if k.presented.map FrameInfo.no = some f.no then k
    else { k with queue := k.queue.filter (fun r => r.frame == f.no), presented := some f }

/-- The added-line count at which a stretch in this lock state has reached its limit (R122, R127). -/
def OutPort.stretchLimit (o : OutPort) : Nat :=
  match o.lock.state with
  | .acquire => 2 * o.cfg.vt
  | .track => o.cfg.vStretchMax
  | .free => 0
  | .holdover => 0

/-- The lead that ends a stretch in this lock state (R123, R127). -/
def OutPort.stretchGoal (o : OutPort) : Nat :=
  match o.lock.state with
  | .acquire => o.cfg.t
  | .track => 1
  | .free => 0
  | .holdover => 0

/-- The end of an added line of a stretch that is judged (R121, R122, R123, R127). Success comes before the limit
(log 14); reaching the limit without success leaves the stretch to HOLD_GIVE_UP or STRETCH_LIMIT. -/
def OutPort.judgeAdded (added : Nat) (o : OutPort) : OutPort × Half :=
  let o1 : OutPort := { o with main := o.main.retake }
  if o.stretchGoal ≤ o1.main.lead then
    match o.lock.state with
    | .acquire => (o1.endStretch added).acquireTrack o1.main.lead
    | .track => (o1.endStretch added).compute o1.main.lead
    | .free => (o1.endStretch added, noCause)
    | .holdover => (o1.endStretch added, noCause)
  else
    ({ o1 with
        lock.stretch := some { added := added, ending := false, limit := decide (o.stretchLimit ≤ added) } }, noCause)

/-- The cut of an added line: no active line is drawn, and the next output frame start follows at once (R138). -/
def OutPort.endCut (added : Nat) (o : OutPort) : OutPort :=
  { o with
    lock := { o.lock with stretch := none, linesAdded := added }
    pres := { o.pres with pos := .blanking, nextLine := o.cfg.va, pixel := o.pres.pixel + o.cfg.blankPixels } }

/-- What the end of an added line brings (R121, R129, R138), the line being past. An added line whose stretch a wake has
ended (log 46) gives way to the active lines, or to the cut. -/
def OutPort.afterAdded (o : OutPort) : OutPort × Half :=
  match o.lock.stretch with
  | none =>
    if o.pres.cutDone then (o.endCut o.lock.linesAdded, noCause) else (o.endStretch o.lock.linesAdded, noCause)
  | some st =>
    if o.pres.cutDone then (o.endCut (st.added + 1), noCause)
    else if st.ending then (o.endStretch (st.added + 1), noCause)
    else o.judgeAdded (st.added + 1)

/-- The end of an added line (R121, R129, R134, R138), when the line in progress is one and is over. -/
def OutPort.addedLineEnd (o : OutPort) : OutPort × Half :=
  if o.pres.pos = .added ∧ o.lineOver = true then o.passLine.afterAdded else (o, noCause)

/-- A stretch whose last line reached its limit, in this lock state. -/
def OutPort.limitReached (o : OutPort) (st : LockState) : Bool :=
  match o.lock.stretch with
  | none => false
  | some s => s.limit && !s.ending && o.lock.state == st

/-- The lines the stretch in progress has added. -/
def OutPort.addedLines (o : OutPort) : Nat :=
  match o.lock.stretch with
  | none => 0
  | some s => s.added

/-- An acquisition hold gives up (R122): the frame is drawn as fill. -/
def OutPort.holdGiveUp (o : OutPort) : OutPort × Half :=
  if o.limitReached .acquire then
    let o1 := o.endStretch o.addedLines
    ({ o1 with pres.fillFrame := true }, noCause)
  else (o, noCause)

/-- A stretch in TRACK ends at its limit (R127): the computation is made with the lead 0. -/
def OutPort.stretchEnd (o : OutPort) : OutPort × Half :=
  if o.limitReached .track then (o.endStretch o.addedLines).compute 0 else (o, noCause)

/-- Holdover has run out (R130). -/
def OutPort.holdoverEnd (o : OutPort) : OutPort × Half :=
  if o.lock.runOut o.cfg then
    ({ o with lock := o.lock.enterFree o.cfg }, noCause)
  else (o, noCause)

/-- The loss of a record's source by silence (R108, R109), when it is due. -/
def OutPort.silentLoss (role : Role) (o : OutPort) : OutPort × Half :=
  match o.sink role with
  | none => (o, noCause)
  | some k => if k.silenceDue then o.loseSource role else (o, noCause)

/-- What an output frame start or an added line left due on the port, taken before the port's next event (log 2). -/
def OutPort.settle (o : OutPort) : OutPort × Half :=
  let r1 := o.silentLoss .main
  let r2 := r1.1.silentLoss .overlay
  let r3 := r2.1.holdoverEnd
  let r4 := r3.1.holdGiveUp
  let r5 := r4.1.stretchEnd
  (r5.1, r1.2 ||| r2.2 ||| r3.2 ||| r4.2 ||| r5.2)

/-- An event that reaches the port's records, Frame Lock or Presenter: what an earlier event left due there is taken before
it (log 2). -/
def OutPort.dueFirst (f : OutPort → OutPort × Half) (o : OutPort) : OutPort × Half :=
  let r := o.settle
  let q := f r.1
  (q.1, r.2 ||| q.2)

/-! ## Active lines -/

/-- The read of the MAIN record for active line y (R139): the record after it, the line consumed, and whether a
read was made at all. -/
def OutPort.readMain (o : OutPort) (y : Nat) : Sink × Option LineRec × Bool :=
  match o.main.presented with
  | none => (o.main, none, false)
  | some f =>
    if y < f.height then
      let r := o.main.read f.no y
      (r.1, r.2, true)
    else (o.main, none, false)

/-- The read of the OVERLAY record for active line y (R142). -/
def OutPort.readOverlay (o : OutPort) (y : Nat) : Option Sink × Option LineRec :=
  match o.overlay with
  | none => (none, none)
  | some k =>
    match k.presented with
    | none => (some k, none)
    | some f =>
      if k.y ≤ y ∧ y - k.y < f.height then
        let r := k.read f.no (y - k.y)
        (some r.1, r.2)
      else (some k, none)

/-- The main line of y (R139). -/
def OutPort.mainLine (o : OutPort) (line : Option LineRec) (made : Bool) : List Pixel :=
  match line with
  | some r => mainLineOf o.cfg r
  | none => if made then o.pres.lastLine else o.cfg.fillLine

/-- The merged line of y (R143, R147). Whether key compare is on is found at the start of the line, for all of it: an INSET
engage within the line turns it off from the next line on (DESIGN CHOICE, log 54). -/
def OutPort.merged (o : OutPort) (main : List Pixel) (ov : Option LineRec) : List Pixel :=
  match o.overlay, ov with
  | some k, some r => merge o.keyColour k.x main r.pixels
  | _, _ => main

/-- Nothing of the picture is shown: fill frame or switch-blank frame (R147). -/
def OutPort.blanked (o : OutPort) : Bool := o.pres.fillFrame || o.pres.blank != 0

/-- A camera line is presented by these reads (R156). -/
def OutPort.cameraLine (o : OutPort) (main ov : Option LineRec) : Bool :=
  (o.cam.state == .switching || o.cam.state == .late) && !o.blanked &&
    ((o.cfg.camMode == .full && main.isSome) || (o.cfg.camMode == .inset && ov.isSome))

/-- The timing position moves to an active line of these pixels (R134, R138), and those of the periods given to it so far, the
one in progress among them, are driven (R145, R146). Where it is the last of its frame and its periods have all been given, the
blanking has begun (R134). The choice of R147 for every column has been made: an event within the
line changes none of it (DESIGN CHOICE, log 54), but for a warm restart (R149). -/
def OutPort.drive (o : OutPort) (line : List Pixel) : OutPort :=
  let pixel := if o.pres.nextLine = 0 then o.pres.pixel else o.pres.pixel - o.cfg.ht
  { o with
    pres :=
      (({ o.pres with
          driven := []
          ahead := line
          pos := .active
          line := o.pres.nextLine
          nextLine := if o.pres.cutDone then o.cfg.va else o.pres.nextLine + 1
          pixel := pixel } : Presenter).drive o.cfg (pixel + 1)).roll o.cfg }

/-- An active line may start: the frame is at its active lines, one is left, and the one before it, if any, is over
(R134, R138). -/
def OutPort.lineReady (o : OutPort) : Bool :=
  o.pres.pos == .active && o.lock.stretch.isNone && decide (o.pres.nextLine < o.cfg.va) &&
    (o.pres.nextLine == 0 || o.lineOver)

/-- The start of the next active line (R139 to R147, R156). -/
def OutPort.activeLine (o : OutPort) : OutPort :=
  if o.lineReady then
    if o.pres.fillFrame then o.drive o.cfg.fillLine
    else
      let m := o.readMain o.pres.nextLine
      let v := o.readOverlay o.pres.nextLine
      let missed := m.2.2 && m.2.1.isNone
      let main := o.mainLine m.2.1 m.2.2
      let shown := if o.blanked then o.cfg.fillLine else o.merged main v.2
      let o1 : OutPort :=
        { o with
          main := m.1
          overlay := v.1
          pres :=
            { o.pres with
              lastLine := if m.2.1.isSome then main else o.pres.lastLine
              repeated := if missed then holdInc o.pres.repeated else o.pres.repeated
              underrun := if missed && m.1.queue.isEmpty then holdInc o.pres.underrun else o.pres.underrun }
          cam := { o.cam with state := if o.cameraLine m.2.1 v.2 then .showing else o.cam.state } }
      o1.drive shown
  else o

/-! ## Cut, stop, node events -/

/-- The frame is to be ended early (R138): the active line in progress, if there is one, is its last, and where that line is
over the blanking begins (R134). -/
def OutPort.cut (o : OutPort) : OutPort :=
  if o.pres.pos = .stopped ∨ o.pres.cutDone = true then o
  else
    let p : Presenter := { o.pres with cutDone := true }
    { o with
      pres :=
        if o.pres.pos = .active ∧ 0 < o.pres.nextLine then
          ({ p with nextLine := o.cfg.va } : Presenter).roll o.cfg
        else p }

/-- No frame is presented. -/
def Sink.unpresent (k : Sink) : Sink := { k with presented := none }

/-- The port stops at the end of its last back-porch line (R134, R148): outputs low, and the presented frames, kept to
the stop (R111), absent. That the fill-frame and cut-done flags, kept to the stop (R149), are clear after it is a DESIGN
CHOICE (log 45). -/
def OutPort.stop (o : OutPort) : OutPort :=
  if o.pres.stopPending = true ∧ o.frameOver = true ∧ o.lock.stretch = none then
    { o.mapSinks Sink.unpresent with
      pres := { o.pres with pos := .stopped, stopPending := false, fillFrame := false, cutDone := false, driven := [], ahead := []
                            pixel := 0 } }
  else o

/-- The camera state at the entry to STANDBY (R158, R161): IDLE, with nothing to return to and no deadline; the camera inset
hold stays to the next output frame start. -/
def CameraPort.standby (c : CameraPort) : CameraPort := { c with state := .idle, deadline := none, resume := none }

/-- Entry to STANDBY at an output port (R111, R131, R148, R161). -/
def OutPort.standby (o : OutPort) : OutPort :=
  let o1 := o.mapSinks Sink.standby
  { o1 with
    cam := o1.cam.standby
    lock := o1.lock.enterFree o1.cfg
    pres.stopPending := o1.pres.stopPending || o1.pres.pos != .stopped }

/-- A stretch in progress is over now; the lines-added figure is kept (R131). -/
def FrameLock.dropStretch (l : FrameLock) : FrameLock := { l with stretch := none }

/-- The number of the added line in progress: of the stretch, or as a wake that ended it left it (log 46). -/
def OutPort.addedNumber (o : OutPort) : Nat :=
  match o.lock.stretch with
  | none => o.pres.line
  | some s => s.added + 1

/-- Wake at an output port (R131, R148, R149): the lock by its MAIN subscription, no stretch in progress, flags clear;
a stopped port restarts with an output frame start at once. A wake within the added line that an entry to STANDBY left
to end leaves no stretch, and the active lines follow that line (DESIGN CHOICE, log 46). A cut that still waits, for the end
of an added line or for active line 0, is forgotten with the cut-done flag (DESIGN CHOICE, log 49). -/
def OutPort.wake (t : List TableEntry) (o : OutPort) : OutPort × Half :=
  let o1 : OutPort :=
    { o with
      lock := o.lock.dropStretch.freeOrAcquire o.cfg o.main.active
      pres := { o.pres with line := o.addedNumber, fillFrame := false, cutDone := false, stopPending := false } }
  if o.pres.pos = .stopped then ({ o1 with pres.pos := .blanking } : OutPort).frameStart t
  else (o1, noCause)

/-- The Presenter at a warm restart (R146, R149). With the cut-done flag a cut that still waits for the end of an added line,
or for active line 0, is forgotten; one made at an active line stands (DESIGN CHOICE, log 49). The pixels still to come of an
active line in progress are fill, as the rest of the frame is (R149; DEDUCED, log 50), and the generator, seeded anew with
temporal dither, advances before each of them. -/
def Presenter.restart (c : OutCfg) (p : Presenter) : Presenter :=
  { p with lastLine := c.fillLine, gen := if c.dither = .temporal then c.seed else p.gen, blank := 0
           ahead := List.replicate p.ahead.length c.fill
           fillFrame := false, cutDone := false, stopPending := false, repeated := 0, underrun := 0 }

/-- No camera state (R161). -/
def CameraPort.fresh : CameraPort := { state := .idle, deadline := none, resume := none, insetHold := false }

/-- Warm restart at an output port (R112, R131, R148, R149, R161): a stopped port restarts. -/
def OutPort.restart (o : OutPort) : OutPort × Half :=
  let main := Sink.fresh o.main.cfg
  let lock := o.lock.restart o.cfg main.active
  let o1 : OutPort :=
    { o with
      main := main
      overlay := o.overlay.map (fun k => Sink.fresh k.cfg)
      lock := { lock with stretch := lock.stretch.map Stretch.stop }
      pres := o.pres.restart o.cfg
      cam := CameraPort.fresh }
  if o.pres.pos = .stopped then
    ({ o1 with lock.stretch := none, pres.pos := .blanking } : OutPort).frameStart []
  else (o1, noCause)

/-- An output port at the entry to RUN, before its first output frame start (R94, R131, R149). -/
def OutPort.fresh (c : OutCfg) (main : SinkCfg) (overlay : Option SinkCfg) : OutPort :=
  { cfg := c
    main := Sink.fresh main
    overlay := overlay.map Sink.fresh
    lock := (FrameLock.fresh c).freeOrAcquire c main.initSub
    pres :=
      { pos := .blanking, line := 0, nextLine := c.va, pixel := 0, lastLine := c.fillLine, gen := c.seed, blank := 0
        fillFrame := false, cutDone := false, stopPending := false, repeated := 0, underrun := 0, driven := []
        ahead := [] }
    cam := CameraPort.fresh }

/-! ## Time between the line events (R114, R134, log 15) -/

/-- Pixel clock periods the oscillator gives in one microsecond: its carries in 400 reference cycles (R114). -/
def FrameLock.carries (l : FrameLock) : Nat := (l.acc.toNat + Config.cyclesPerTick * l.inc.toNat) / 2 ^ 32

/-- The accumulator after one microsecond (R114). -/
def FrameLock.runTick (l : FrameLock) : FrameLock :=
  { l with acc := BitVec.ofNat 32 (l.acc.toNat + Config.cyclesPerTick * l.inc.toNat) }

/-- A microsecond of an output port's oscillator and timing (R114, R134). -/
def OutPort.runTick (o : OutPort) : OutPort :=
  { o with lock := o.lock.runTick, pres := o.pres.run o.cfg o.lock.carries }

/-- No colour: 0 on every component. -/
def Pixel.black : Pixel := { r := 0, g := 0, b := 0 }

/-- What an output port's pins carry (R134, R148, R150). -/
structure PinLevels where
  /-- a pixel clock is given; false for a pin held low -/
  clock : Bool
  hsync : Bool
  vsync : Bool
  enable : Bool
  data : Pixel
deriving DecidableEq, Repr

/-- Every output held low (R148). -/
def PinLevels.low : PinLevels := { clock := false, hsync := false, vsync := false, enable := false, data := Pixel.black }

/-- The pixel period in progress, counted from the start of the line or of the blanking: its last one until the event
that ends it is taken (log 15). -/
def OutPort.period (o : OutPort) : Nat :=
  match o.pres.pos with
  | .stopped => 0
  | .added => min (o.cfg.ht - 1) o.pres.pixel
  | .active => min (o.cfg.ht - 1) o.pres.pixel
  | .blanking => min (o.cfg.blankPixels - 1) o.pres.pixel

/-- The horizontal position within the line in progress. -/
def OutPort.column (o : OutPort) : Nat := o.period % o.cfg.ht

/-- An active pixel of an active line is in progress (R134). -/
def OutPort.drawing (o : OutPort) : Bool :=
  o.pres.pos == .active && o.pres.nextLine != 0 && decide (o.column < o.cfg.ha)

/-- The pins of the port at its timing position (R134, R150): the syncs, the data enable, and pixel data that is 0
outside the active pixels; everything low when stopped (R148). -/
def OutPort.pins (o : OutPort) : PinLevels :=
  if o.pres.pos = .stopped then PinLevels.low
  else
    { clock := true
      hsync := within (o.cfg.ha + o.cfg.hfp) (o.cfg.ha + o.cfg.hfp + o.cfg.hs - 1) o.column == o.cfg.hsHigh
      vsync :=
        (o.pres.pos == .blanking && within o.cfg.vfp (o.cfg.vfp + o.cfg.vs - 1) (o.period / o.cfg.ht)) == o.cfg.vsHigh
      enable := o.drawing == o.cfg.deHigh
      data := if o.drawing then o.pres.driven.getD o.column Pixel.black else Pixel.black }
where
  /-- A value lies in a range that includes both ends. -/
  within (lo hi v : Nat) : Bool := lo ≤ v && v ≤ hi

/-- The pins of a pixel port that is driven; none where the part drives none: an input, or a port without a direction
(R149). -/
def Port.pins : Port → Option PinLevels
  | .output o => some o.pins
  | .input _ => none
  | .unused _ => none

end Sys2Proof.Machine
end

