-- ==== Sys2Proof/Machine/StationView.lean ====
section
/-! DEFINITION. The Station View (4): ring generator, census, ring judgement, station table, published demand; and the node's
entries to MUTE and STANDBY (11), which a conflict report may bring. -/

namespace Sys2Proof.Machine

/-! ## Generator, nonce, timer (R59, R60, R61) -/

/-- A seed combined with the station number × 4097; FFFFh in place of 0 (R59). -/
def seedFor (base : Half) (station : StationNo) : Half :=
  let v := base ^^^ BitVec.ofNat 16 (station.toNat * 4097)
  if v = 0 then 0xFFFF#16 else v

/-- The first census period after a start, from the value drawn (R61). -/
def firstPeriod (v : Half) : Nat := (v &&& 63#16).toNat + 1

/-- A census period, from the value drawn (R61). -/
def nextPeriod (v : Half) : Nat := 1000 + (v &&& 63#16).toNat

/-- The Station View at a start (R59 to R61, R65, R72): seeded, nonce drawn, then the first period; the table empty. -/
def StationView.start (seed : Half) (retired : Option Half) (demand : Bool) : StationView :=
  { gen := advance (advance seed)
    nonce := some (advance seed)
    retired := retired
    retiredSends := 0
    timer := some (firstPeriod (advance (advance seed)))
    ring := .forming
    outstanding := false
    missed := 0
    table := []
    mutePending := false
    demand := demand }

/-! ## Demand (R71, R82, R159) -/

/-- The output port has a camera mode. -/
def OutPort.hasCamera (o : OutPort) : Bool := o.cfg.camMode != .none

/-- A camera-mode port whose camera state is not IDLE. -/
def OutPort.engaged (o : OutPort) : Bool := o.hasCamera && o.cam.state != .idle

/-- The station has a camera-mode port. -/
def State.hasCamera (s : State) : Bool := s.portA.outAnd OutPort.hasCamera || s.portB.outAnd OutPort.hasCamera

/-- The own demand (R159). -/
def State.ownDemand (s : State) : Bool := s.portA.outAnd OutPort.engaged || s.portB.outAnd OutPort.engaged

/-- The published demand as its sources give it (R71). -/
def State.demandOf (s : State) : Bool := s.ownDemand || s.view.table.any TableEntry.demand

/-- The published demand is recomputed, and a change reported to the Source Cutter (R71, R82). -/
def State.recomputeDemand (s : State) : State :=
  if s.demandOf = s.view.demand then s else ({ s with view.demand := s.demandOf } : State).settleStreams

/-! ## Census (R61, R62, R44) -/

/-- The payload of a census built now (R62). -/
def State.censusPayload (s : State) : List Word :=
  if s.node.state = .fallback then censusWords (s.view.nonce.getD 0) .fallback false []
  else censusWords (s.view.nonce.getD 0) s.node.state s.ownDemand s.offers

/-- The census timer has run out (R61). -/
def State.censusDue (s : State) : Bool := s.view.timer == some 0 && s.node.state != .loading

/-- The census timer's expiry (R61, R62, R44): a census takes its place in the CONTROL queue, and the next period is
drawn. -/
def State.censusExpiry (s : State) : State :=
  if s.censusDue then
    { s with
      sched := { s.sched with census := some s.censusPayload }
      view := { s.view with gen := advance s.view.gen, timer := some (nextPeriod (advance s.view.gen)) } }
  else s

/-! ## Ring judgement (R63, R64, R17) -/

/-- The missed count after an own census send (R63). -/
def missedAfterSend (v : StationView) : Nat := if v.outstanding then min 3 (v.missed + 1) else v.missed

/-- The ring breaks at this own census send (R63). -/
def breaksAtSend (v : StationView) : Bool := v.outstanding && missedAfterSend v == 3 && v.missed != 3 && v.ring != .broken

/-- The Station View after an own census send (R63), the retired nonce forgotten at the second (R60). -/
def StationView.afterSend (v : StationView) : StationView :=
  { v with
    missed := missedAfterSend v
    ring := if breaksAtSend v then .broken else v.ring
    outstanding := true
    retired := if v.retired.isSome && 1 ≤ v.retiredSends then none else v.retired
    retiredSends := if v.retired.isSome then v.retiredSends + 1 else v.retiredSends }

/-- The sum of the three link error counts (R17). -/
def RingPort.errors (l : RingPort) : Nat := l.hdrErr + l.payErr + l.ovf

/-- An own census send (R17, R63): the counting period ends and the census before is judged. -/
def State.ownCensusSend (s : State) : State :=
  ({ s with
      link := { s.link with hdrErr := 0, payErr := 0, ovf := 0 }
      view := s.view.afterSend } : State).raise
    (Cause.linkDegraded.when (decide (8 ≤ s.link.errors)) ||| Cause.ringBroken.when (breaksAtSend s.view))

/-- An own census return (R64). -/
def State.censusReturn (s : State) : State :=
  ({ s with view := { s.view with outstanding := false, missed := 0, ring := .closed } } : State).raise
    (Cause.ringHealed.when (s.view.ring == .broken))

/-! ## The station table (R68, R69, R70) -/

/-- An entry takes its place in the table, in order of station number (4.5). -/
def insertEntry (e : TableEntry) : List TableEntry → List TableEntry
  | [] => [e]
  | x :: xs =>
    if e.station.toNat < x.station.toNat then e :: x :: xs
    else if e.station = x.station then e :: xs
    else x :: insertEntry e xs

/-- A change of the table is reported to the sink records, after what was due on their ports (log 2), and the published
demand recomputed (R69, R71, R107). -/
def State.tableReport (s : State) (st : StationNo) : State :=
  (s.onOuts (OutPort.dueFirst (OutPort.tableReport s.view.table st))).recomputeDemand

/-- The entry a census copy makes (R68, R69). -/
def copyEntry (st : StationNo) (hop : BitVec 4) (now : Word) (c : CensusContent) : TableEntry :=
  { station := st, nonce := c.nonce, state := c.state, hops := hop.toNat + 1, demand := c.demand, offers := c.offers
    seen := now }

/-- A census copy (R68): ignored when it is not well formed. -/
def State.censusCopy (s : State) (st : StationNo) (hop : BitVec 4) (payload : List Word) : State :=
  match censusOf payload with
  | none => s
  | some c =>
    ({ s with view := { s.view with table := insertEntry (copyEntry st hop s.tick c) s.view.table } } :
      State).tableReport st

/-- The age of an entry. -/
def TableEntry.age (now : Word) (e : TableEntry) : Nat := elapsed now e.seen

/-- An entry has expired (R70). -/
def TableEntry.expired (now : Word) (e : TableEntry) : Bool := decide (Config.tableAge ≤ e.age now)

/-- A station's entry is removed from the table and the removal reported (R69, R70). -/
def State.removeEntry (s : State) (st : StationNo) : State :=
  ({ s with view := { s.view with table := s.view.table.filter (fun e => e.station != st) } } : State).tableReport st

/-- The expiry of a station's entry (R70), when it has expired. -/
def State.entryExpiry (s : State) (st : StationNo) : State :=
  match entryFor s.view.table st with
  | none => s
  | some e => if e.expired s.tick then s.removeEntry st else s

/-- The stations of the table, in order. -/
def State.tableStations (s : State) : List StationNo := s.view.table.map TableEntry.station

/-! ## Entries to MUTE and STANDBY (R53, R54, R177, R178) -/

/-- An entry to MUTE or STANDBY waits and may be taken: no own LINE or MARK is being transmitted (R54). -/
def State.entryDue (s : State) (e : Entry) : Bool :=
  s.node.waiting == some e && s.node.state == .run && !s.link.sendingPicture

/-- The node's part of an entry (R53, R83): the picture queues are purged and the streams settled. -/
def State.enterState (s : State) (st : NodeState) : State :=
  ({ s with node := { s.node with state := st, waiting := none } } : State).purgePictures.settleStreams

/-- Entry to MUTE (R177), when it is due. -/
def State.enterMute (s : State) : State := if s.entryDue .mute then s.enterState .mute else s

/-- The picture copies of the parcel in reception end (R30). -/
def Stage.dropCopies : Stage → Stage
  | .body r => .body { r with lineTo := [], markTo := [], carry := [] }
  | .header ws => .header ws
  | .outside => .outside

/-- Entry to STANDBY (R178), when it is due: queues, streams, picture copies, sinks, Frame Locks, Presenters; on a port,
after what was due there (log 2). -/
def State.enterStandby (s : State) : State :=
  if s.entryDue .standby then
    let s1 := s.enterState .standby
    ({ s1 with link.stage := s1.link.stage.dropCopies } : State).onOuts
      (OutPort.dueFirst (fun o => (o.standby, noCause)))
  else s

/-- The entry that may be taken is taken (R54): at its cause, or before an event that asks for the node state. -/
def State.takeEntry (s : State) : State := s.enterMute.enterStandby

/-! ## Identity conflict (R66, R67) -/

/-- A node in RUN is to enter a state: at once, or at the end symbol of the own LINE or MARK in transmission (R54). An entry
to MUTE takes the place of a waiting STANDBY (R178). -/
def State.askEntry (s : State) (e : Entry) : State := ({ s with node.waiting := some e } : State).takeEntry

/-- ID_CONFLICT at a node in this state: in RUN it is to enter MUTE, in STANDBY the mute-pending flag is set (R66, R67). -/
def State.conflictFound (s : State) : State :=
  match s.node.state with
  | .run => (s.raise Cause.idConflict.bit).askEntry .mute
  | .mute => s.raise Cause.idConflict.bit
  | .standby => ({ s with view.mutePending := true } : State).raise Cause.idConflict.bit
  | .fallback => s
  | .loading => s

/-- An identity conflict report (R66, R67), an entry whose end symbol has come being taken before it (R54, log 2). -/
def State.conflict (s : State) : State := s.takeEntry.conflictFound

/-- A stripped census that ended good, under the full decision (R25, R60). One whose nonce is the current one is an own
return even where the retired nonce is the same (DESIGN CHOICE, log 40). -/
def State.strippedCensus (s : State) (payload : List Word) : State :=
  let n := (payload.headD 0).extractLsb' 16 16
  if payload.isEmpty then s
  else if s.view.nonce = some n then s.censusReturn
  else if s.view.retired = some n then s
  else s.conflict

/-- A stripped census that ended good, under the repeater decision (R18). -/
def State.strippedCensusFallback (s : State) (payload : List Word) : State :=
  if s.node.state = .fallback ∧ payload ≠ [] ∧ s.view.nonce = some ((payload.headD 0).extractLsb' 16 16) then
    s.censusReturn
  else s

end Sys2Proof.Machine
end

