-- ==== Sys2Proof/Machine/Camera.lean ====
section
/-! DEFINITION. The node's wake (11), and Camera Priority (9). -/

namespace Sys2Proof.Machine

/-! ## Wake (R57, R67, R179) -/

/-- The state a wake leads to (R67, R179). -/
def State.wakeState (s : State) : NodeState := if s.view.mutePending then .mute else .run

/-- A wake (R179): nothing outside STANDBY. -/
def State.wakeNode (s : State) : State :=
  if s.node.state = .standby then
    let s1 : State :=
      { s with
        node := { s.node with state := s.wakeState, wakeFound := false }
        sched.credit := s.cap
        view.mutePending := false }
    s1.settleStreams.onOuts (OutPort.wake s1.view.table)
  else s

/-! ## One port (R154 to R157) -/

/-- What a record holds for Camera Priority's keeping (R99, R154, R155): its shadow, else its active value. -/
def Sink.held (k : Sink) : Placed :=
  match k.shadow with
  | some v => v
  | none => { sub := k.active, x := k.x, y := k.y }

/-- The deadline of an engage (R154). -/
def OutCfg.deadline (c : OutCfg) (now : Word) : Word := now + BitVec.ofNat 32 (c.deadlineUnits * 10000)

/-- SWITCHING, with its deadline and what the port returns to (R154, R155). -/
def OutPort.switching (now : Word) (resume : Placed) (hold : Bool) (o : OutPort) : OutPort :=
  { o with cam := { state := .switching, deadline := some (o.cfg.deadline now), resume := some resume, insetHold := hold } }

/-- A FULL port is engaged (R154, R137, R138). -/
def OutPort.engageFull (t : List TableEntry) (now : Word) (o : OutPort) : OutPort :=
  let resume : Placed := { sub := o.main.held.sub, x := o.main.x, y := o.main.y }
  let r := ({ o with main := { o.main with shadow := none } } : OutPort).subscribe t true .main (some o.cfg.camStream)
  let o1 : OutPort := { r.1 with pres.blank := 0 }
  (if r.2 then o1.cut else o1).switching now resume o.cam.insetHold

/-- An INSET port is engaged (R155). -/
def OutPort.engageInset (t : List TableEntry) (now : Word) (o : OutPort) : OutPort :=
  match o.overlay with
  | none => o
  | some k =>
    let o1 := o.mapSink .overlay (fun k => { k with shadow := none })
    let o2 := (o1.subscribe t true .overlay (some o.cfg.camStream)).1
    (o2.mapSink .overlay (fun k => { k with x := o.cfg.camX, y := o.cfg.camY })).switching now k.held true

/-- A port is engaged by its camera mode (R154, R155). -/
def OutPort.engageMode (t : List TableEntry) (now : Word) (o : OutPort) : OutPort × Half :=
  match o.cfg.camMode with
  | .none => (o, noCause)
  | .full => (o.engageFull t now, noCause)
  | .inset => (o.engageInset t now, noCause)

/-- A camera-mode port is engaged (R152), after what was due on it (log 2). -/
def OutPort.engage (t : List TableEntry) (now : Word) (o : OutPort) : OutPort × Half :=
  if o.hasCamera then o.dueFirst (OutPort.engageMode t now) else (o, noCause)

/-- IDLE, with nothing kept to return to (R157); the camera inset hold stays to the next output frame start. -/
def OutPort.toIdle (o : OutPort) : OutPort := { o with cam := { o.cam with state := .idle, resume := none } }

/-- A port is released by its camera mode (R157): the resume value is written to the shadow as a request would write it. -/
def OutPort.releaseMode (o : OutPort) : OutPort × Half :=
  match o.cfg.camMode, o.cam.resume with
  | .full, some v =>
    if o.cam.state = .idle then (o, noCause)
    else ((o.mapSink .main (Sink.writeShadow .main v)).toIdle, noCause)
  | .inset, some v =>
    if o.cam.state = .idle then (o, noCause)
    else ((o.mapSink .overlay (Sink.writeShadow .overlay v)).toIdle, noCause)
  | .full, none => (o.toIdle, noCause)
  | .inset, none => (o.toIdle, noCause)
  | .none, _ => (o, noCause)

/-- A camera-mode port is released (R157), after what was due on it (log 2). -/
def OutPort.release (o : OutPort) : OutPort × Half :=
  if o.hasCamera then o.dueFirst OutPort.releaseMode else (o, noCause)

/-- The deadline has passed: there is one, and it is not later than the tick count (R156). -/
def CameraPort.passed (now : Word) (c : CameraPort) : Bool :=
  match c.deadline with
  | some d => !laterTime d now
  | none => false

/-- The deadline of a port in SWITCHING has passed (R156). -/
def OutPort.deadlineDue (now : Word) (o : OutPort) : Bool :=
  o.hasCamera && o.cam.state == .switching && o.cam.passed now

/-- The deadline's expiry (R156), when it has passed. -/
def OutPort.deadlineExpiry (now : Word) (o : OutPort) : OutPort × Half :=
  if o.deadlineDue now then ({ o with cam := { o.cam with state := .late } }, Cause.cameraLate.bit) else (o, noCause)

/-! ## The station (R151, R152, R159) -/

/-- The engagement (R152). -/
def CameraControl.engaged (c : CameraControl) : Bool := c.debounced || c.ringLatch || c.localLatch

/-- A waiting entry to STANDBY is dropped (R178). -/
def State.dropStandby (s : State) : State :=
  if s.node.waiting = some .standby then { s with node := { s.node with waiting := none } } else s

/-- The engage event (R152, R159, R178): at a station with a camera-mode port, a station in STANDBY wakes, a STANDBY that
waits for an end symbol is dropped, the ports are engaged, the demand follows, and CAMERA_CHANGE is raised. An entry whose end
symbol has come is taken before it (R54, log 2). -/
def State.engage (s : State) : State :=
  if s.hasCamera then
    let s1 := s.takeEntry.wakeNode.dropStandby
    (s1.onOuts (OutPort.engage s1.view.table s1.tick)).recomputeDemand.raise Cause.cameraChange.bit
  else s

/-- The release event (R152, R157, R159). -/
def State.release (s : State) : State :=
  if s.hasCamera then (s.onOuts OutPort.release).recomputeDemand.raise Cause.cameraChange.bit else s

/-- Camera Priority's sources take new values, and the engage or release event that makes follows (R152). -/
def State.setSources (s : State) (c : CameraControl) : State :=
  let s1 : State := { s with camera := c }
  if !s.camera.engaged && c.engaged then s1.engage
  else if s.camera.engaged && !c.engaged then s1.release
  else s1

/-- The REVERSE pin has been stable for 10,000 ticks at a new level (R151). -/
def State.reverseDue (s : State) : Bool := decide (Config.debounceTicks ≤ s.camera.stability) && s.node.state.full

/-- The debounced level changes (R151), when it is due. -/
def State.reverseDebounced (s : State) : State :=
  if s.reverseDue then s.setSources { s.camera with debounced := !s.camera.debounced, stability := 0 } else s

/-- The stability count at a tick that finds the REVERSE pin at this level (R151). -/
def CameraControl.runTick (level : Bool) (c : CameraControl) : CameraControl :=
  { c with stability := if level = c.debounced then 0 else c.stability + 1 }

/-- The ring latch (R152, R35). -/
def State.setRingLatch (s : State) (b : Bool) : State := s.setSources { s.camera with ringLatch := b }

/-- The local latch (R152, R165). -/
def State.setLocalLatch (s : State) (b : Bool) : State := s.setSources { s.camera with localLatch := b }

/-- The WAKE pin was found high at a tick in STANDBY (R179). -/
def State.wakeDue (s : State) : Bool := s.node.wakeFound && s.node.state == .standby

/-- The WAKE pin wakes the node (R179), when a tick in STANDBY found it high. -/
def State.wakePin (s : State) : State := if s.wakeDue then s.wakeNode else s

/-- A port's camera state is LATE (R160). -/
def OutPort.late (o : OutPort) : Bool := o.hasCamera && o.cam.state == .late

/-- Some camera-mode port is LATE (R160). -/
def State.anyLate (s : State) : Bool := s.portA.outAnd OutPort.late || s.portB.outAnd OutPort.late

end Sys2Proof.Machine
end

