-- ==== Sys2Proof/Machine/Messages.lean ====
section
/-! DEFINITION. Messages: the inbox, outbox and result list (R26, R32 to R35, R168 to R171, R182). -/

namespace Sys2Proof.Machine

/-! ## Results and the outbox (R26, R168, R169, R170) -/

/-- A result joins the list, the oldest leaving when it is full (R170). -/
def joinResult (r : MessageResult) (l : List MessageResult) : List MessageResult :=
  (if l.length < Config.resultCap then l else l.drop 1) ++ [r]

/-- An outbox message leaves with a result, and MESSAGE_RESULT is raised (R169). -/
def State.giveResult (s : State) (r : MessageResult) : State :=
  ({ s with
      svc := { s.svc with
               outbox := s.svc.outbox.filter (fun m => m.tag != r.tag)
               results := joinResult r s.svc.results } } : State).raise Cause.messageResult.bit

/-- The in-flight message of a tag (R169). -/
def inFlight (l : List OutMessage) (tag : Byte) : Option OutMessage :=
  l.find? (fun m => m.tag == tag && m.sent.isSome)

/-- The taken and refused counts in a broadcast's flags (12.1). -/
def flagCounts (f : Byte) : BitVec 4 × BitVec 4 := (f.extractLsb' 4 4, f.extractLsb' 0 4)

/-- The taken flag of a unicast (12.1): bit 31 of header word 3. -/
def takenFlag (f : Byte) : Bool := f.getLsbD 7

/-- The refused flag of a unicast (12.1): bit 30 of header word 3. -/
def refusedFlag (f : Byte) : Bool := f.getLsbD 6

/-- The outcome of a returned message (R26). A unicast with both flags set is taken as DELIVERED (DESIGN CHOICE,
log 38). -/
def returnOutcome (good broadcast : Bool) (f : Byte) : MessageOutcome :=
  if !good then .damaged
  else if broadcast then .delivered
  else if takenFlag f then .delivered
  else if refusedFlag f then .refused
  else .undelivered

/-- The result of a returned message (R26, R169), whose flags are read as the target in its first payload word says
(12.1). -/
def returnResult (tag : Byte) (good broadcast : Bool) (f : Byte) : MessageResult :=
  { tag := tag, outcome := returnOutcome good broadcast f, counts := if broadcast then some (flagCounts f) else none }

/-- A return report (R26): of a stripped own message at its end; discarded without a tag or a match (log 30).
The flags of a return whose target is undefined, 16 to 30, are read as a unicast's (DESIGN CHOICE, log 47). -/
def State.returnReport (s : State) (payload : List Word) (good : Bool) (f : Byte) : State :=
  match payload with
  | [] => s
  | w :: _ =>
    match inFlight s.svc.outbox (messageTag w) with
    | none => s
    | some m => s.giveResult (returnResult m.tag good (messageTarget w == broadcastTarget) f)

/-- A message in flight has run out (R169). -/
def OutMessage.timedOut (now : Word) (m : OutMessage) : Bool :=
  match m.sent with
  | none => false
  | some t => decide (Config.messageTicks ≤ elapsed now t)

/-- The counts of a LOST broadcast: free values, for which the manual gives none (log 7). -/
def lostCounts (n : Nat) (m : OutMessage) : Option (BitVec 4 × BitVec 4) :=
  match m.target with
  | some _ => none
  | none => some (Config.lostCount n, Config.lostCount (n + 1))

/-- The timeout of the message with this tag (R169), when it has run out. -/
def State.messageTimeout (s : State) (tag : Byte) : State :=
  match inFlight s.svc.outbox tag with
  | none => s
  | some m =>
    if m.timedOut s.tick then
      ({ s with free := if m.target.isNone then s.free + 2 else s.free } : State).giveResult
        { tag := tag, outcome := .lost, counts := lostCounts s.free m }
    else s

/-- The next tag: the counter raised past the tags in the outbox (R168). -/
def nextTag (out : List OutMessage) : Nat → Byte → Byte
  | 0, t => t + 1
  | n + 1, t => if out.any (fun m => m.tag == t + 1) then nextTag out n (t + 1) else t + 1

/-- A message is accepted for sending (R168): its tag chosen, the outbox and the CONTROL queue joined. -/
def State.queueMessage (s : State) (target : Option StationNo) (k : MessageKind) (user : List Word) : State :=
  let tag := nextTag s.svc.outbox Config.outboxCap s.svc.tag
  { s with
    svc := { s.svc with
             tag := tag
             outbox := s.svc.outbox ++ [{ tag := tag, target := target, kind := k, sent := none }] }
    sched := { s.sched with msgs := s.sched.msgs ++ [{ tag := tag, words := messageWords target k tag user }] } }

/-- The send time of a message is set at the start of its parcel (R169). -/
def State.markSent (s : State) (tag : Byte) : State :=
  { s with
    svc := { s.svc with
             outbox := s.svc.outbox.map (fun m => if m.tag = tag ∧ m.sent = none then { m with sent := some s.tick } else m) } }

/-! ## The inbox (R33, R34, R35, R171, R182) -/

/-- The inbox has room (R33): every entry counts, a reserved one too. -/
def State.inboxRoom (s : State) : Bool := decide (s.svc.inbox.length < Config.inboxCap)

/-- A reserved entry stands at the tail (R33). -/
def State.reserve (s : State) (e : InMessage) : State := { s with svc := { s.svc with inbox := s.svc.inbox ++ [e] } }

/-- The reserved entry is withdrawn (R35). -/
def State.withdraw (s : State) : State :=
  { s with svc := { s.svc with inbox := s.svc.inbox.filter InMessage.complete } }

/-- The reserved entry is completed with its user words, and MESSAGE_IN raised (R35). -/
def State.completeEntry (s : State) (user : List Word) : State :=
  ({ s with
      svc := { s.svc with
               inbox := s.svc.inbox.map (fun e => if e.complete then e else { e with complete := true, words := user }) } } :
    State).raise Cause.messageIn.bit

/-- How a message's first payload word is decided at this station (R32, R33, R34). -/
structure Decision where
  /-- the flags the forwarded header carries -/
  flags : Byte
  /-- the message acts here at its good end -/
  addressed : Bool
  /-- the entry it reserves -/
  entry : Option InMessage
deriving DecidableEq, Repr

/-- The reserved entry of a message. -/
def reservedEntry (source : StationNo) (k : MessageKind) (w : Word) (broadcast : Bool) : InMessage :=
  { complete := false, source := source, kind := k, tag := messageTag w, words := [], broadcast := broadcast }

/-- A unicast message addressed here (R33). The bits of its flags that 12.1 gives no meaning, 29 to 24 of header word 3, go on
as they arrived (DESIGN CHOICE, log 48). -/
def decideUnicast (room : Bool) (f : Byte) (e : InMessage) : Decision :=
  if takenFlag f || refusedFlag f then { flags := f, addressed := false, entry := none }
  else if room then { flags := f ||| 0x80#8, addressed := true, entry := some e }
  else { flags := f ||| 0x40#8, addressed := true, entry := none }

/-- A count in a broadcast's flags raised by 1; it stays within 0 to 15 (R34, log 20). -/
def raiseCount (c : BitVec 4) : BitVec 4 := if c = 15#4 then c else c + 1

/-- A broadcast message addressed here (R34). -/
def decideBroadcast (room : Bool) (f : Byte) (e : InMessage) : Decision :=
  if room then { flags := raiseCount (flagCounts f).1 ++ (flagCounts f).2, addressed := true, entry := some e }
  else { flags := (flagCounts f).1 ++ raiseCount (flagCounts f).2, addressed := true, entry := none }

/-- The decision at the first payload word (R32): a message with an undefined target or kind, or for another
station, passes as it arrived. -/
def decideMessage (station source : StationNo) (room : Bool) (f : Byte) (w : Word) : Decision :=
  match MessageKind.ofCode (messageKindCode w) with
  | none => { flags := f, addressed := false, entry := none }
  | some k =>
    if messageTarget w = broadcastTarget then decideBroadcast room f (reservedEntry source k w true)
    else if messageTarget w = station.toNat then decideUnicast room f (reservedEntry source k w false)
    else { flags := f, addressed := false, entry := none }

/-- The action of a message at its good end (R35). -/
def State.messageAction (s : State) (k : Option MessageKind) : State :=
  match k with
  | some .cameraOn => s.setRingLatch true
  | some .cameraOff => s.setRingLatch false
  | some .wake => s.wakeNode
  | some .user => s
  | none => s

/-- The user word count of the second payload word fits the payload length (R182). -/
def userCountFits (payload : List Word) : Bool := fieldOf (payload.getD 1 0) 0 5 = payload.length - 2

/-- The end of a message that was forwarded under the full decision (R35, R182). -/
def State.messageEnd (s : State) (payload : List Word) (addressed reserved good : Bool) : State :=
  let act := fun (s : State) =>
    if addressed then s.messageAction (MessageKind.ofCode (messageKindCode (payload.headD 0))) else s
  if reserved then
    if good && userCountFits payload then act (s.completeEntry (payload.drop 2)) else s.withdraw
  else if good then act s
  else s

end Sys2Proof.Machine
end

