-- ==== Sys2Proof/WellFormed.lean ====
section
/-! DEFINITION. When a command can be an event of the part at all, from its operands alone. A command that is not
well formed names nothing that can happen (log 1). -/

namespace Sys2Proof

/-- A unit that can be stray (R6): an IDLE, a data word or an end symbol. -/
def RxUnit.strays : RxUnit → Bool
  | .data _ => true
  | .idle => true
  | .sop => false
  | .eop => true
  | .eopx => true
  | .violation => false

/-- A frame that is no read frame and whose argument bytes do not number its length byte, or that ended before
its length byte (R163). -/
def frameMismatch : List Byte → Bool
  | [] => true
  | [k] => k != 0
  | k :: n :: args => k != 0 && args.length != n.toNat

/-- A request kind of the table of 12.5. -/
def definedKind (k : Byte) : Bool := 1 ≤ k.toNat && k.toNat ≤ 13

/-- The arguments of a frame fit its one length byte (12.5). -/
def argsFit (args : List Byte) : Bool := args.length ≤ 255

/-- The operands are ones the event can carry. -/
def Instr.wf : Instr → Bool
  | .imageAccepted f => f.length ≤ 4 * Config.imageWords
  | .imageRejected f => f.length ≤ 4 * Config.imageWords
  | .strayUnit u => u.strays
  | .requestFrameDiscarded f => frameMismatch f
  | .readFrame n => 1 ≤ n
  | .unknownRequest k args => k != 0 && !definedKind k && argsFit args
  | .showStream args => argsFit args
  | .inset args => argsFit args
  | .probe args => argsFit args
  | .send args => argsFit args
  | .take args => argsFit args
  | .result args => argsFit args
  | .status args => argsFit args
  | .attention args => argsFit args
  | .clear args => argsFit args
  | .camera args => argsFit args
  | .standby args => argsFit args
  | .wake args => argsFit args
  | .restart args => argsFit args
  | .coldReset => true
  | .resetRelease _ => true
  | .signalPresent => true
  | .lossOfSignal => true
  | .alignUnit _ => true
  | .sopReceived => true
  | .codingViolation => true
  | .headerEvent _ => true
  | .payloadWord _ => true
  | .endEvent _ => true
  | .parcelStart => true
  | .cutThroughStart => true
  | .parcelEndSent => true
  | .enterMute => true
  | .enterStandby => true
  | .microsecondTick _ _ => true
  | .starvedSet => true
  | .yieldExpiry => true
  | .censusTimerExpiry => true
  | .tableEntryExpiry _ => true
  | .silenceTimeout _ => true
  | .messageTimeout _ => true
  | .reverseDebounced => true
  | .cameraDeadlineExpiry _ => true
  | .wakePin => true
  | .inputFrameStart _ => true
  | .activePixel _ _ _ _ => true
  | .inputLineEnd _ => true
  | .outputFrameStart _ => true
  | .silentFramesLost _ _ => true
  | .holdoverExpiry _ => true
  | .addedLineEnd _ => true
  | .holdGiveUp _ => true
  | .stretchLimit _ => true
  | .activeLineStart _ => true
  | .portStop _ => true
  | .wordSent => true
  | .headerWord _ => true

end Sys2Proof
end

