-- ==== Sys2Proof/Machine/Receive.lean ====
section
/-! DEFINITION. The receive link (1.2, 1.3), the transit buffer's arrivals (1.4) and the Parcel Filter (2). -/

namespace Sys2Proof.Machine

/-! ## The link (R4) -/

/-- A unit received in UP ages the violations of the history; one 1024 units old is forgotten (R4). -/
def RingPort.countUnit (l : RingPort) : RingPort :=
  { l with violations := (l.violations.map (· + 1)).filter (fun a => decide (a < Config.violationWindow)) }

/-- A unit received in ALIGN (R4). -/
def RingPort.alignUnit (violation : Bool) (l : RingPort) : RingPort :=
  if violation then { l with valid := 0 }
  else if Config.alignUnits ≤ l.valid + 1 then { l with state := .up, valid := Config.alignUnits, violations := [] }
  else { l with valid := l.valid + 1 }

/-- A violation now is the fourth of the window (R4). -/
def RingPort.fourthViolation (l : RingPort) : Bool := decide (Config.violationLimit ≤ l.violations.length + 1)

/-- The receiver goes to another stage. -/
def State.toStage (s : State) (g : Stage) : State := { s with link := { s.link with stage := g } }

/-- The header error count rises (R17). -/
def State.headerError (s : State) : State := { s with link := { s.link with hdrErr := holdInc s.link.hdrErr } }

/-- The payload error count rises (R17). -/
def State.payloadError (s : State) : State := { s with link := { s.link with payErr := holdInc s.link.payErr } }

/-- The overflow count rises (R17). -/
def State.overflow (s : State) : State := { s with link := { s.link with ovf := holdInc s.link.ovf } }

/-! ## The transit entry still arriving (1.4, R10, R12, R32) -/

/-- The newest transit entry, the one still arriving, is changed. -/
def mapNewest (f : TransitEntry → TransitEntry) : List TransitEntry → List TransitEntry
  | [] => []
  | [e] => [f e]
  | e :: es => e :: mapNewest f es

/-- The state with its newest transit entry changed. -/
def State.onNewest (s : State) (f : TransitEntry → TransitEntry) : State :=
  { s with link := { s.link with transit := mapNewest f s.link.transit } }

/-- The held-back header word is released as this word (R32). -/
def TransitEntry.release (w : Word) (e : TransitEntry) : TransitEntry :=
  if e.heldBack.isSome then { e with words := e.words ++ [w], heldBack := none } else e

/-- The held-back header word is released as it stands, with the flags as they arrived (R32). -/
def TransitEntry.releaseHeld (e : TransitEntry) : TransitEntry :=
  match e.heldBack with
  | some w => { e with words := e.words ++ [w], heldBack := none }
  | none => e

/-- A data word joins the entry (R12). -/
def TransitEntry.join (w : Word) (e : TransitEntry) : TransitEntry := { e with words := e.words ++ [w] }

/-- The entry's end is recorded (R10). -/
def TransitEntry.close (good : Bool) (e : TransitEntry) : TransitEntry := { e.releaseHeld with fin := some good }

/-! ## Copies of lines and markers (R28, R29, R30) -/

/-- The four sink records in the order they are offered a parcel. -/
def allSinks : List SinkId := [⟨.a, .main⟩, ⟨.a, .overlay⟩, ⟨.b, .main⟩, ⟨.b, .overlay⟩]

/-- Lines and markers are offered (R30): RUN and MUTE. -/
def NodeState.offers : NodeState → Bool
  | .run => true
  | .mute => true
  | .standby => false
  | .fallback => false
  | .loading => false

/-- A record takes a line offered to it (R28, R100). -/
def State.offerTaken (s : State) (h : Header) (f : RingFormat) (k : SinkId) : Bool :=
  match s.port k.port with
  | .output o => (o.offerLine h.stream h.frame h.line.toNat h.width.toNat f k.role).2.2
  | .input _ => false
  | .unused _ => false

/-- A line is offered to one record (R28, R100, R101). -/
def State.offerTo (h : Header) (f : RingFormat) (s : State) (k : SinkId) : State :=
  s.onOut k.port (fun o =>
    let r := o.offerLine h.stream h.frame h.line.toNat h.width.toNat f k.role
    (r.1, r.2.1))

/-- The ring format of a header; a good LINE or MARK header has one (R181). -/
def Header.fmt (h : Header) : RingFormat := (RingFormat.ofCode h.fmtCode.toNat).getD .p16

/-- The records that take a line offered now (R28). -/
def State.lineTakers (s : State) (h : Header) : List SinkId := allSinks.filter (fun k => s.offerTaken h h.fmt k)

/-- A line is offered to every record (R28). -/
def State.offerLine (s : State) (h : Header) : State := allSinks.foldl (State.offerTo h h.fmt) s

/-- A record's active subscription is this stream. -/
def State.subscribed (s : State) (stream : StreamId) (k : SinkId) : Bool :=
  (s.port k.port).outAnd (fun o => (o.sink k.role).any (fun r => r.active == some stream))

/-- The records a marker is fixed for (R29). -/
def State.markTakers (s : State) (h : Header) : List SinkId := allSinks.filter (s.subscribed h.stream)

/-- A payload word's pixels reach the records that took the line (R28, R102, R144). -/
def State.writeLine (s : State) (ks : List SinkId) (ps : List Pixel) : State :=
  ks.foldl (fun s k => s.onOut k.port (fun o => (o.mapSink k.role (Sink.write ps), noCause))) s

/-- The end of a line reaches the records that took it (R28, R102). -/
def State.finishLine (s : State) (ks : List SinkId) (good : Bool) : State :=
  ks.foldl (fun s k => s.onOut k.port (fun o => (o.mapSink k.role (Sink.finish good), noCause))) s

/-- A marker is delivered to the records fixed for it (R29, R103, R182), each after what was due on its port (R118, R130,
log 2). -/
def State.deliverMark (s : State) (r : Reception) : State :=
  let w := r.payload.headD 0
  if 1 ≤ markHeight w ∧ markHeight w ≤ 2048 ∧ markClass w = r.hdr.clsCode.toNat then
    r.markTo.foldl (fun s k =>
      s.onOut k.port (OutPort.dueFirst (OutPort.marker s.view.table r.hdr.stream
        { no := r.hdr.frame, width := r.hdr.width.toNat, height := markHeight w } k.role))) s
  else s

/-! ## The end of a parcel (R9, R10, R18, R24 to R27, R31, R35) -/

/-- What the end of a parcel brings at this station. -/
def State.filterEnd (s : State) (r : Reception) (good : Bool) : State :=
  match r.course, r.repeater with
  | .orphan, _ => s
  | .forward, true => s
  | .forward, false =>
    match r.kind with
    | .line => s.finishLine r.lineTo good
    | .mark => if good then s.deliverMark r else s
    | .census => if good then s.censusCopy r.hdr.source r.hdr.hop r.payload else s
    | .message => s.messageEnd r.payload r.addressed r.reserved good
  | .strip, false =>
    match r.kind with
    | .line => s
    | .mark => s
    | .census => if good then s.strippedCensus r.payload else s
    | .message => s.returnReport r.payload good r.hdr.flags
  | .strip, true =>
    match r.kind with
    | .census => if good then s.strippedCensusFallback r.payload else s
    | .line => s
    | .mark => s
    | .message => s

/-- A parcel in reception ends (R9, R10): the receiver is outside, the end is recorded for transit, and the Parcel
Filter is told. -/
def State.endParcel (s : State) (r : Reception) (good : Bool) : State :=
  let s1 := s.toStage .outside
  (if r.course = .forward then s1.onNewest (TransitEntry.close good) else s1).filterEnd r good

/-- The link leaves UP (R5). -/
def State.leaveUp (s : State) (st : LinkState) : State :=
  let s1 := ({ s with link := { s.link with state := st, violations := [] } } : State).raise Cause.linkDown.bit
  match s.link.stage with
  | .outside => s1
  | .header _ => s1.toStage .outside
  | .body r => s1.endParcel r false

/-- A break in the framing (R8): an SOP or a violation. -/
def State.breakParcel (s : State) : State :=
  match s.link.stage with
  | .outside => s
  | .header _ => s.headerError.toStage .outside
  | .body r => s.payloadError.endParcel r false

/-! ## Commands of the receive link -/

/-- Signal present at the receiver (R4). -/
def State.signalPresent (s : State) : State :=
  if s.link.state = .down then { s with link := { s.link with state := .align, valid := 0 } } else s

/-- Loss of signal (R4, R5). -/
def State.lossOfSignal (s : State) : State :=
  match s.link.state with
  | .down => s
  | .align => { s with link := { s.link with state := .down } }
  | .up => s.leaveUp .down

/-- A unit received in ALIGN (R4). -/
def State.alignUnit (s : State) (u : RxUnit) : State :=
  if s.link.state = .align then { s with link := s.link.alignUnit (u == .violation) } else s

/-- A unit received in UP (R2, R4), then its effect. -/
def State.unitUp (s : State) (f : State → State) : State :=
  if s.link.state = .up then f { s with link := s.link.countUnit } else s

/-- An SOP in UP (R6, R8). -/
def State.sopReceived (s : State) : State := s.unitUp (fun s => s.breakParcel.toStage (.header []))

/-- The unit is outside a parcel or an IDLE inside one (R6). -/
def Stage.absorbs (u : RxUnit) : Stage → Bool
  | .outside => u.strays
  | .header _ => u == .idle
  | .body _ => u == .idle

/-- A unit absorbed or discarded without count (R6). -/
def State.strayUnit (s : State) (u : RxUnit) : State :=
  if s.link.stage.absorbs u then s.unitUp (fun s => s) else s

/-- A coding violation in UP (R4, R5, R8). -/
def State.codingViolation (s : State) : State :=
  s.unitUp (fun s =>
    if s.link.fourthViolation then ({ s with link := { s.link with valid := 0 } } : State).leaveUp .align
    else ({ s with link := { s.link with violations := 0 :: s.link.violations } } : State).breakParcel)

/-- One of the first three header words (R7). -/
def State.headerWord (s : State) (w : Word) : State :=
  match s.link.stage with
  | .header ws => if ws.length < 3 then s.unitUp (fun s => s.toStage (.header (ws ++ [w]))) else s
  | .outside => s
  | .body _ => s

/-! ## The header event (R7, R11, R12, R18, R20 to R23, R28, R29) -/

/-- The course of a good header (R18, R20). -/
def courseOf (station : StationNo) (h : Header) : Course :=
  if h.source = station then .strip else if h.hop = 15#4 then .orphan else .forward

/-- The pressure a forwarded header leaves with (R22). -/
def pressureOut (station : StationNo) (starved : Bool) (p : BitVec 5) : BitVec 5 :=
  if p = ownMark station then 0
  else if p = 0 then (if starved then ownMark station else 0)
  else p

/-- A foreign mark is sighted (R23). -/
def sights (station : StationNo) (p : BitVec 5) : Bool := p != 0 && p != ownMark station

/-- The header as rewritten (R18, R21, R22). -/
def State.rewrite (s : State) (h : Header) : Header :=
  Header.sealed
    { h with
      hop := h.hop + 1
      pressure := if s.node.state.full then pressureOut s.node.station s.sched.starved h.pressure else h.pressure }

/-- A parcel is cut through (R11): the transmitter between parcels, the transit buffer empty, no SAFE entry. -/
def State.cutsThrough (s : State) : Bool :=
  (match s.link.tx with
    | .between _ => true
    | .transit => false
    | .sending _ => false) && s.link.transit.isEmpty && s.sched.safeQ.isEmpty

/-- The transit entry of a forwarded header (R11, R32): the last word of a MESSAGE is held back under the full
decision. -/
def transitEntry (h : Header) (hold cut : Bool) : TransitEntry :=
  if hold then
    { words := [h.word0, h.word1, h.word2], heldBack := some h.word3, fin := none, cut := cut }
  else { words := [h.word0, h.word1, h.word2, h.word3], heldBack := none, fin := none, cut := cut }

/-- The parcel in reception after its header event. -/
def State.reception (s : State) (h : Header) (k : ParcelKind) : Reception :=
  let course := courseOf s.node.station h
  let copies := course == .forward && s.node.state.offers
  { hdr := h
    kind := k
    course := course
    repeater := !s.node.state.full
    fwd := s.rewrite h
    got := 0
    crc := crc32Init
    checkOk := false
    payload := []
    lineTo := if copies && k == .line then s.lineTakers h else []
    markTo := if copies && k == .mark then s.markTakers h else []
    carry := []
    addressed := false
    reserved := false }

/-- A good header is decided (R11, R12, R18, R20, R23, R28, R29). A forwarded header that finds the fill above 4092
discards the parcel whole, after its offer (log 10). -/
def State.decideHeader (s : State) (h : Header) (k : ParcelKind) : State :=
  let r := s.reception h k
  let s1 := if s.node.state.full && sights s.node.station h.pressure then s.sighting else s
  let s2 := if r.course = .forward ∧ s.node.state.offers = true ∧ k = .line then s1.offerLine h else s1
  if r.course = .forward then
    if Config.transitWords < fillOf s.link.transit + 4 then
      (s2.overflow.toStage .outside).filterEnd r false
    else
      ({ s2 with
          link := { s2.link with
                    transit := s2.link.transit ++
                      [transitEntry r.fwd (k == .message && !r.repeater) s.cutsThrough] } } : State).toStage (.body r)
  else s2.toStage (.body r)

/-- The fourth header word (R7, R181). -/
def State.headerEvent (s : State) (w : Word) : State :=
  match s.link.stage with
  | .header [w0, w1, w2] =>
    s.unitUp (fun s =>
      if headerGood w0 w1 w2 w then
        match (Header.ofWords w0 w1 w2 w).kind with
        | some k => s.decideHeader (Header.ofWords w0 w1 w2 w) k
        | none => s.headerError.toStage .outside
      else s.headerError.toStage .outside)
  | .header _ => s
  | .outside => s
  | .body _ => s

/-! ## Payload words (R9, R12, R28, R32 to R34) -/

/-- The first payload word of a forwarded message is decided (R32 to R34): the held header word is released with its
final flags, and an entry may be reserved. -/
def State.decideFirst (s : State) (r : Reception) (w : Word) : State × Reception :=
  let d := decideMessage s.node.station r.hdr.source s.inboxRoom r.fwd.flags w
  let fwd := Header.sealed { r.fwd with flags := d.flags }
  let s1 := s.onNewest (TransitEntry.release fwd.word3)
  let s2 :=
    match d.entry with
    | some e => s1.reserve e
    | none => s1
  (s2, { r with fwd := fwd, addressed := d.addressed, reserved := d.entry.isSome })

/-- The message decision is due at this word: the first of a message forwarded under the full decision. -/
def Reception.decides (r : Reception) : Bool :=
  r.course == .forward && !r.repeater && r.kind == .message && r.got == 0

/-- The decision at a word, when it is due. -/
def State.maybeDecide (s : State) (r : Reception) (w : Word) : State × Reception :=
  if r.decides then s.decideFirst r w else (s, r)

/-- The parcel's own bookkeeping of a data word after the header (R9): payload into the running CRC, or the check
word compared; the payload of kinds other than LINE is kept. -/
def Reception.count (r : Reception) (w : Word) : Reception :=
  if r.got < r.hdr.len.toNat then
    { r with got := r.got + 1, crc := crc32Word r.crc w
             payload := if r.kind = .line then r.payload else r.payload ++ [w] }
  else { r with got := r.got + 1, checkOk := w == r.crc }

/-- A payload word of a LINE gives pixels to the records that took it (R102, R144). -/
def State.copyWord (s : State) (r : Reception) (w : Word) : State × Reception :=
  if r.kind = .line ∧ r.got < r.hdr.len.toNat then
    let u := unpackWord r.hdr.fmt r.carry w
    (s.writeLine r.lineTo u.1, { r with carry := u.2 })
  else (s, r)

/-- A data word that is neither in excess nor lost to a full buffer (R9, R12). -/
def State.takeWord (s : State) (r : Reception) (w : Word) : State :=
  let s1 := if r.course = .forward then s.onNewest (TransitEntry.join w) else s
  let c := s1.copyWord r w
  c.1.toStage (.body (c.2.count w))

/-- A data word after the header (R9, R12, R32): one in excess ends the parcel bad; one that finds the fill at 4096
truncates a forwarded parcel; a message's first is decided in either case (log 10). A word in excess that finds the fill
at 4096 counts a payload error alone (DESIGN CHOICE, log 37). -/
def State.bodyWord (s : State) (r : Reception) (w : Word) : State :=
  if r.hdr.len.toNat + 1 ≤ r.got then s.payloadError.endParcel r false
  else
    let d := s.maybeDecide r w
    if r.course = .forward ∧ Config.transitWords ≤ fillOf s.link.transit then d.1.overflow.endParcel d.2 false
    else d.1.takeWord d.2 w

/-- A data word after the header event. -/
def State.payloadWord (s : State) (w : Word) : State :=
  match s.link.stage with
  | .body r => s.unitUp (fun s => s.bodyWord r w)
  | .header _ => s
  | .outside => s

/-! ## The end symbol (R8, R9) -/

/-- The parcel ends good with an EOP (R9). -/
def Reception.endsGood (r : Reception) : Bool := r.got == r.hdr.len.toNat + 1 && r.checkOk

/-- The end of a parcel by an end symbol (R9). -/
def State.bodyEnd (s : State) (r : Reception) (e : EndSymbol) : State :=
  match e with
  | .eopx => s.endParcel r false
  | .eop => if r.endsGood then s.endParcel r true else s.payloadError.endParcel r false

/-- An end symbol inside a parcel (R8, R9). -/
def State.endEvent (s : State) (e : EndSymbol) : State :=
  match s.link.stage with
  | .outside => s
  | .header _ => s.unitUp (fun s => s.headerError.toStage .outside)
  | .body r => s.unitUp (fun s => s.bodyEnd r e)

end Sys2Proof.Machine
end

