-- ==== Sys2Proof/Machine/LinkCommands.lean ====
section
/-! DEFINITION. Meanings of the receive-link commands (1.2, 1.3, 2). -/

namespace Sys2Proof.Machine

/-- SIGNAL_PRESENT (R4). -/
def execSignalPresent (s : State) : Answer :=
  live State.signalPresent s

/-- LOSS_OF_SIGNAL (R4, R5). -/
def execLossOfSignal (s : State) : Answer :=
  live State.lossOfSignal s

/-- ALIGN_UNIT (R4). -/
def execAlignUnit (u : RxUnit) (s : State) : Answer :=
  live (fun s => s.alignUnit u) s

/-- SOP_RECEIVED (R6, R8). -/
def execSopReceived (s : State) : Answer :=
  live State.sopReceived s

/-- STRAY_UNIT (R6). -/
def execStrayUnit (u : RxUnit) (s : State) : Answer :=
  live (fun s => s.strayUnit u) s

/-- CODING_VIOLATION (R4, R5, R8). -/
def execCodingViolation (s : State) : Answer :=
  live State.codingViolation s

/-- HEADER_EVENT (R7, R181, and the decision of R18 or R20). -/
def execHeaderEvent (w : Word) (s : State) : Answer :=
  live (fun s => s.headerEvent w) s

/-- PAYLOAD_WORD (R9, R12, R32). -/
def execPayloadWord (w : Word) (s : State) : Answer :=
  live (fun s => s.payloadWord w) s

/-- END_EVENT (R8, R9, R10). -/
def execEndEvent (e : EndSymbol) (s : State) : Answer :=
  live (fun s => s.endEvent e) s

/-- HEADER_WORD (R7). -/
def execHeaderWord (w : Word) (s : State) : Answer :=
  live (fun s => s.headerWord w) s

end Sys2Proof.Machine
end

