-- ==== Sys2Proof/Machine/Image.lean ====
section
/-! DEFINITION. The configuration image: its layout (12.7), its checks (R176, R184, R79, R94, R115, R133, R153)
and the verdict of the image read (R176). -/

namespace Sys2Proof.Machine

/-- A configured port, before its run-time state. -/
inductive PortCfg where
  | unused
  | input (c : InCfg) (windows : List Window)
  | output (c : OutCfg) (main : SinkCfg) (overlay : Option SinkCfg)
deriving DecidableEq, Repr

/-- An accepted image. -/
structure Image where
  ring : RingCfg
  portA : PortCfg
  portB : PortCfg
  enable : Half
deriving DecidableEq, Repr

/-- A section: its kind, index and the words that follow its section word. -/
structure Section where
  kind : Nat
  index : Nat
  body : List Word
deriving DecidableEq, Repr

/-- The sections of the words between header and check word; none when one runs past them (R184). -/
def sectionsOf : Nat → List Word → Option (List Section)
  | _, [] => some []
  | 0, _ :: _ => none
  | n + 1, w :: rest =>
    if fieldOf w 0 16 ≤ rest.length then
      match sectionsOf n (rest.drop (fieldOf w 0 16)) with
      | some ss =>
        some ({ kind := fieldOf w 24 8, index := fieldOf w 16 8, body := rest.take (fieldOf w 0 16) } :: ss)
      | none => none
    else none

/-- Word i of a section's body. -/
def Section.word (s : Section) (i : Nat) : Word := s.body.getD i 0

/-- The direction code of a port section (12.7). -/
def Section.direction (s : Section) : Nat := fieldOf (s.word 0) 24 8

/-- Kind, index and word count fit the table of 12.7 (R184). -/
def Section.shapeOk (s : Section) : Bool :=
  match s.kind with
  | 1 => s.index = 0 && s.body.length = 4
  | 2 => s.index ≤ 1 && s.body.length = (if s.direction = 2 then 14 else 1)
  | 3 => s.index ≤ 7 && s.body.length = 3
  | 4 => s.index ≤ 3 && s.body.length = 3
  | 5 => s.index = 0 && s.body.length = 1
  | _ => false

/-- The section of a kind and index. -/
def findSection (ss : List Section) (kind index : Nat) : Option Section :=
  ss.find? (fun s => s.kind = kind && s.index = index)

/-- The ring section (R176). -/
def ringOf (s : Section) : Option RingCfg :=
  if 2053 ≤ (s.word 0).toNat && (s.word 0).toNat ≤ 16384 && (s.word 1).toNat ≤ 400 && 20 ≤ (s.word 2).toNat &&
      (s.word 2).toNat ≤ 2000 && 1 ≤ (s.word 3).toNat && (s.word 3).toNat ≤ 65535 then
    some { cap := (s.word 0).toNat, refill := (s.word 1).toNat, patience := (s.word 2).toNat
           seed := (s.word 3).extractLsb' 0 16 }
  else none

/-- A window that no section gives: not enabled (R184). -/
def Window.disabled : Window :=
  { enabled := false, x0 := 0, y0 := 0, width := 1, height := 1, step := 1, phase := 0, fmt := .p16, cls := .normal
    shed := false }

/-- The SAFE or NORMAL class of a window (R79); CONTROL and the undefined code are refused (R184). -/
def windowClass (c : Nat) : Option ParcelClass :=
  match c with
  | 0 => some .safe
  | 1 => some .normal
  | _ => none

/-- A window section within the ranges of 5.2 (R79, R184). -/
def windowOf (s : Section) : Option Window :=
  match RingFormat.ofCode (fieldOf (s.word 2) 8 8), windowClass (fieldOf (s.word 2) 6 2) with
  | some f, some c =>
    if fieldOf (s.word 0) 16 16 ≤ 4095 && fieldOf (s.word 0) 0 16 ≤ 2047 && 1 ≤ fieldOf (s.word 1) 16 16 &&
        fieldOf (s.word 1) 16 16 ≤ 2048 && 1 ≤ fieldOf (s.word 1) 0 16 && fieldOf (s.word 1) 0 16 ≤ 2048 &&
        1 ≤ fieldOf (s.word 2) 24 8 && fieldOf (s.word 2) 24 8 ≤ 2 && fieldOf (s.word 2) 16 8 ≤ 1 then
      some { enabled := (s.word 2).getLsbD 1, x0 := fieldOf (s.word 0) 16 16, y0 := fieldOf (s.word 0) 0 16
             width := fieldOf (s.word 1) 16 16, height := fieldOf (s.word 1) 0 16, step := fieldOf (s.word 2) 24 8
             phase := fieldOf (s.word 2) 16 8, fmt := f, cls := c, shed := (s.word 2).getLsbD 0 }
    else none
  | _, _ => none

/-- The checks of R79 on an enabled window beyond its ranges. -/
def Window.enabledOk (w : Window) (isInput : Bool) : Bool :=
  !w.enabled ||
    (isInput && !(w.step == 1 && w.phase == 1) && !(w.cls == .safe && w.shed))

/-- A subscription byte: a stream id, or FFh for none. -/
def subOf (b : Nat) : Option (Option StreamId) :=
  if b ≤ 127 then some (some (BitVec.ofNat 7 b)) else if b = 255 then some none else none

/-- A sink record section (R94), less the checks against its port. -/
def sinkOf (s : Section) : Option SinkCfg :=
  match subOf (fieldOf (s.word 1) 0 8) with
  | some sub =>
    if fieldOf (s.word 0) 16 16 ≤ 47 && 2 ≤ fieldOf (s.word 0) 0 16 &&
        fieldOf (s.word 0) 16 16 + fieldOf (s.word 0) 0 16 ≤ Config.lineSlots then
      some { first := fieldOf (s.word 0) 16 16, count := fieldOf (s.word 0) 0 16, initSub := sub
             initX := fieldOf (s.word 2) 16 16, initY := fieldOf (s.word 2) 0 16 }
    else none
  | none => none

/-- Two allotments share no slot (R94). -/
def SinkCfg.apart (a b : SinkCfg) : Bool := a.first + a.count ≤ b.first || b.first + b.count ≤ a.first

/-- The input port section (R176). -/
def inCfgOf (s : Section) : Option InCfg :=
  if fieldOf (s.word 0) 16 8 = 8 || fieldOf (s.word 0) 16 8 = 10 then
    some { tenBit := fieldOf (s.word 0) 16 8 = 10, frameHigh := (s.word 0).getLsbD 2
           lineHigh := (s.word 0).getLsbD 1, enableHigh := (s.word 0).getLsbD 0 }
  else none

/-- A value lies in a range that includes both ends. -/
def within (lo hi v : Nat) : Bool := lo ≤ v && v ≤ hi

/-- The timing, porch and panel ranges of R133. -/
def OutCfg.timingOk (c : OutCfg) : Bool :=
  within 1 4096 c.ha && within 1 1023 c.hfp && within 1 1023 c.hs && within 1 1023 c.hbp && within 1 2048 c.va &&
    within 1 1023 c.vfp && within 1 1023 c.vs && within 1 1023 c.vbp && (c.depth = 6 || c.depth = 8 || c.depth = 10)

/-- The frame-lock ranges of R115. -/
def OutCfg.lockOk (c : OutCfg) : Bool :=
  within 268435456 2147483647 c.incNom && within 2 32 c.t && within 1 16 c.w && c.kp ≤ 255 && c.ki ≤ 255 &&
    c.gx ≤ 12 && within 8 14 c.devShift && c.vStretchMax ≤ 255 && within 1 255 c.holdFrames

/-- The camera and switch-blank ranges of R133, R153 and R184. -/
def OutCfg.cameraOk (c : OutCfg) : Bool :=
  c.swb ≤ 3 && within 5 100 c.deadlineUnits && c.camX < c.ha && c.camY < c.va

/-- The output port section (12.7), with its own ranges (R115, R133, R153, R184). The items of words 12 and 13 lie in one byte
each from bit 31 down, as 12.7 says of word 11 (DEDUCED, log 52). The dither seed's limit is judged on the whole of its word,
and bits 31 and 30 of a colour's word are not looked at (DESIGN CHOICE, log 55). -/
def outCfgOf (s : Section) : Option OutCfg :=
  match DitherMode.ofCode (fieldOf (s.word 5) 16 8), CameraMode.ofCode (fieldOf (s.word 12) 16 8) with
  | some d, some m =>
    let c : OutCfg :=
      { ha := fieldOf (s.word 1) 16 16, va := fieldOf (s.word 1) 0 16
        hfp := fieldOf (s.word 2) 16 16, hs := fieldOf (s.word 2) 0 16
        hbp := fieldOf (s.word 3) 16 16, vfp := fieldOf (s.word 3) 0 16
        vs := fieldOf (s.word 4) 16 16, vbp := fieldOf (s.word 4) 0 16
        depth := fieldOf (s.word 5) 24 8, dither := d, keyEnable := (s.word 5).getLsbD 3
        hsHigh := (s.word 5).getLsbD 2, vsHigh := (s.word 5).getLsbD 1, deHigh := (s.word 5).getLsbD 0
        incNom := (s.word 6).toNat, ditherSeed := (s.word 7).extractLsb' 0 16
        fill := unpackP30 (s.word 8), key := unpackP30 (s.word 9)
        t := fieldOf (s.word 10) 24 8, w := fieldOf (s.word 10) 16 8
        kp := fieldOf (s.word 10) 8 8, ki := fieldOf (s.word 10) 0 8
        gx := fieldOf (s.word 11) 24 8, devShift := fieldOf (s.word 11) 16 8
        vStretchMax := fieldOf (s.word 11) 8 8, holdFrames := fieldOf (s.word 11) 0 8
        swb := fieldOf (s.word 12) 24 8, camMode := m, camStream := (s.word 12).extractLsb' 8 7
        deadlineUnits := fieldOf (s.word 12) 0 8
        camX := fieldOf (s.word 13) 16 16, camY := fieldOf (s.word 13) 0 16 }
    if c.timingOk && c.lockOk && c.cameraOk && fieldOf (s.word 12) 8 8 ≤ 127 && (s.word 7).toNat ≤ 65535 then some c
    else none
  | _, _ => none

/-- A section that may be missing: parsed when present, and then required to parse. -/
def parseOpt {α : Type} (f : Section → Option α) : Option Section → Option (Option α)
  | none => some none
  | some s => (f s).map some

/-- The four windows of a port; a window with no section is not enabled (R184). -/
def windowsOf (ss : List Section) (port : Nat) : Option (List Window) :=
  (List.range 4).foldr
    (fun i acc =>
      match parseOpt windowOf (findSection ss 3 (4 * port + i)), acc with
      | some w, some ws => some (w.getD Window.disabled :: ws)
      | _, _ => none)
    (some [])

/-- An output port's sink records against its section (R94, R115, R153). R94 gives an inset position to an OVERLAY record alone,
while 12.7 gives every sink record section the word: that a MAIN section's is not looked at is a DESIGN CHOICE (log 58). -/
def outputOk (c : OutCfg) (main : SinkCfg) (overlay : Option SinkCfg) : Bool :=
  c.t ≤ main.count &&
    match overlay with
    | none => c.camMode != .inset
    | some o => o.initX < c.ha && o.initY < c.va

/-- A port of the image (R94, R176, R184). -/
def portOf (ss : List Section) (port : Nat) : Option PortCfg :=
  match windowsOf ss port, parseOpt sinkOf (findSection ss 4 (2 * port)),
      parseOpt sinkOf (findSection ss 4 (2 * port + 1)) with
  | some ws, some main, some overlay =>
    match findSection ss 2 port with
    | none =>
      if main.isNone && overlay.isNone && ws.all (·.enabledOk false) then some .unused else none
    | some s =>
      match s.direction with
      | 0 => if main.isNone && overlay.isNone && ws.all (·.enabledOk false) then some .unused else none
      | 1 =>
        match inCfgOf s with
        | some c =>
          if main.isNone && overlay.isNone && ws.all (·.enabledOk true) then some (.input c ws) else none
        | none => none
      | 2 =>
        match outCfgOf s, main with
        | some c, some m =>
          if outputOk c m overlay && ws.all (·.enabledOk false) then some (.output c m overlay) else none
        | _, _ => none
      | _ => none
  | _, _, _ => none

/-- The allotments of a port. -/
def PortCfg.allotments : PortCfg → List SinkCfg
  | .output _ m (some o) => [m, o]
  | .output _ m none => [m]
  | .input _ _ => []
  | .unused => []

/-- The enabled SAFE windows of a port. -/
def PortCfg.safeWindows : PortCfg → Nat
  | .input _ ws => (ws.filter (fun w => w.enabled && w.cls == .safe)).length
  | .output _ _ _ => 0
  | .unused => 0

/-- The enable set; an enable for a code outside 1 to 16 is refused (R176). -/
def enableOf : Option Section → Option Half
  | none => some 0
  | some s => if (s.word 0).toNat ≤ 65535 then some ((s.word 0).extractLsb' 0 16) else none

/-- The image of its sections (R176, R184, R94, R79). -/
def imageOf (ss : List Section) : Option Image :=
  if ss.all Section.shapeOk && (ss.map (fun s => (s.kind, s.index))).Nodup then
    match findSection ss 1 0 with
    | some rs =>
      match ringOf rs, portOf ss 0, portOf ss 1, enableOf (findSection ss 5 0) with
      | some r, some a, some b, some e =>
        if (a.allotments ++ b.allotments).Pairwise (fun x y => x.apart y = true) ∧
            a.safeWindows + b.safeWindows ≤ 1 then
          some { ring := r, portA := a, portB := b, enable := e }
        else none
      | _, _, _, _ => none
    | none => none
  else none

/-- The sum of words modulo 2^32 (R176). -/
def wordSum (ws : List Word) : Word := ws.foldl (· + ·) 0

/-- What the bytes taken so far make of the image read (R176). -/
inductive Verdict where
  | reading
  | rejected
  | accepted (i : Image)
deriving DecidableEq, Repr

/-- The version field of the header word (12.7). -/
def imageVersion (w : Word) : Nat := fieldOf w 24 8

/-- The length field of the header word (12.7). -/
def imageLength (w : Word) : Nat := fieldOf w 0 16

/-- Header, ring section and check word: the least length an image can have (R176). -/
def minImageWords : Nat := 7

/-- The judgement of an image whose words have all been read. -/
def judgeWords (ws : List Word) : Verdict :=
  if wordSum ws = 0 then
    match sectionsOf ws.length (ws.drop 1).dropLast with
    | some ss =>
      match imageOf ss with
      | some i => .accepted i
      | none => .rejected
    | none => .rejected
  else .rejected

/-- The verdict on the bytes taken from the flash: the header may reject early; the read ends at its length
(R176). -/
def judgeFlash (bytes : List Byte) : Verdict :=
  match wordsOfBytes bytes with
  | [] => .reading
  | w :: rest =>
    if imageVersion w ≠ 1 ∨ Config.imageWords < imageLength w ∨ imageLength w < minImageWords then .rejected
    else if (w :: rest).length < imageLength w then .reading
    else judgeWords ((w :: rest).take (imageLength w))

end Sys2Proof.Machine
end

