-- ==== Sys2Proof/Machine/Transmit.lean ====
section
/-! DEFINITION. The transmit link (R3, R13, R14) and the scheduler's choice at a free link (R37 to R40). -/

namespace Sys2Proof.Machine

/-! ## Local parcels (R14) -/

/-- The header of a local LINE or MARK (R14, R41, 12.1). -/
def PicEntry.header (station : StationNo) (e : PicEntry) : Header :=
  Header.sealed
    { kindCode := (if e.isMark then ParcelKind.mark else ParcelKind.line).code, clsCode := e.cls.code
      source := station, hop := 0, pressure := 0, index := e.index, fmtCode := e.fmt.code, frame := e.frame
      len := BitVec.ofNat 12 e.len, line := BitVec.ofNat 11 e.line, width := BitVec.ofNat 12 e.width, flags := 0
      crc := 0 }

/-- The header of a local CENSUS or MESSAGE with this many payload words (R14, 12.1). -/
def controlHeader (station : StationNo) (k : ParcelKind) (len : Nat) : Header :=
  Header.sealed
    { kindCode := k.code, clsCode := ParcelClass.control.code, source := station, hop := 0, pressure := 0, index := 0
      fmtCode := 0, frame := 0, len := BitVec.ofNat 12 len, line := 0, width := 0, flags := 0, crc := 0 }

/-- The data words of a local parcel (R14): header, payload, check word. -/
def parcelWords (h : Header) (payload : List Word) : List Word :=
  [h.word0, h.word1, h.word2, h.word3] ++ payload ++ [crc32 payload]

/-- The kind of a picture entry. -/
def PicEntry.kind (e : PicEntry) : ParcelKind := if e.isMark then .mark else .line

/-- The payload of a picture entry: the slot's words of a LINE, the one word of a MARK. -/
def PicEntry.payload (store : List SendSlot) (e : PicEntry) : List Word :=
  if e.isMark then [markWord e.height e.cls] else slotWords store e.slot

/-- A picture entry in transmission. -/
def PicEntry.tx (station : StationNo) (store : List SendSlot) (e : PicEntry) : LocalTx :=
  { kind := e.kind, slot := if e.isMark then none else some e.slot
    left := parcelWords (e.header station) (e.payload store) }

/-- A control parcel in transmission. -/
def controlTx (station : StationNo) (k : ParcelKind) (payload : List Word) : LocalTx :=
  { kind := k, slot := none, left := parcelWords (controlHeader station k payload.length) payload }

/-! ## The choice (R37, R38, R39) -/

/-- A committed cut-through parcel waits for its SOP (R11). -/
def RingPort.cutCommitted (l : RingPort) : Bool :=
  match l.tx, l.transit with
  | .between _, e :: _ => e.cut
  | .between _, [] => false
  | .transit, _ => false
  | .sending _, _ => false

/-- The gap is complete (R3). -/
def RingPort.gapDone (l : RingPort) : Bool :=
  match l.tx with
  | .between g => decide (Config.gapWords ≤ g)
  | .transit => false
  | .sending _ => false

/-- The transmit link is free (R37). -/
def RingPort.free (l : RingPort) : Bool := l.gapDone && !l.cutCommitted

/-- What the scheduler may start. -/
inductive Choice where
  | none
  | safe (e : PicEntry) (rest : List PicEntry)
  | transit
  | census (ws : List Word)
  | message (m : MessageEntry) (rest : List MessageEntry)
  | normal (e : PicEntry) (rest : List PicEntry)
deriving DecidableEq, Repr

/-- The free space of the transit buffer (R37). -/
def RingPort.space (l : RingPort) : Nat := Config.transitWords - fillOf l.transit

/-- Step 1 of R37: the SAFE head, when LINE and MARK may start and the space allows it. -/
def State.safeChoice (s : State) : Choice :=
  match s.sched.safeQ with
  | e :: rest =>
    if s.pictureAllowed && decide (e.length + Config.safeMargin ≤ s.link.space) then .safe e rest else .none
  | [] => .none

/-- Step 4 of R37: the NORMAL head, when LINE and MARK may start and the credit covers it. -/
def State.normalChoice (s : State) : Choice :=
  match s.sched.normalQ with
  | e :: rest => if s.pictureAllowed && decide (e.length ≤ s.sched.credit) then .normal e rest else .none
  | [] => .none

/-- Steps 3 and 4 of R37, with no transit entry: the CONTROL head, else the NORMAL head. -/
def State.localChoice (s : State) : Choice :=
  match s.sched.census with
  | some ws => .census ws
  | none =>
    match s.sched.msgs with
    | m :: rest => .message m rest
    | [] => s.normalChoice

/-- The choice at a free link (R37). -/
def State.choice (s : State) : Choice :=
  match s.safeChoice with
  | .safe e rest => .safe e rest
  | _ => if s.link.transit.isEmpty then s.localChoice else .transit

/-- The transmitter sends an SOP and is inside a parcel. -/
def State.begin (s : State) (t : Tx) : State := { s with link := { s.link with tx := t, out := .sop } }

/-- The chosen parcel starts (R37, R40, R47, R50, R63, R169). -/
def State.start (s : State) (c : Choice) : State :=
  match c with
  | .none => s
  | .safe e rest =>
    ({ s with sched := { s.sched with safeQ := rest } } : State).begin (.sending (e.tx s.node.station s.store))
  | .transit => s.begin .transit
  | .census ws =>
    (({ s with sched := { s.sched with census := none } } : State).begin
      (.sending (controlTx s.node.station .census ws))).ownCensusSend
  | .message m rest =>
    (({ s with sched := { s.sched with msgs := rest } } : State).begin
      (.sending (controlTx s.node.station .message m.words))).markSent m.tag
  | .normal e rest =>
    (({ s with sched := { s.sched with normalQ := rest, credit := s.sched.credit - e.length } } : State).begin
      (.sending (e.tx s.node.station s.store))).judgeStarved

/-- The scheduler's choice at a free link, and its start (R37). -/
def State.parcelStart (s : State) : State := if s.link.free then s.start s.choice else s

/-- The SOP of a committed cut-through parcel, once the gap is complete (R11). -/
def State.cutThroughStart (s : State) : State := if s.link.gapDone && s.link.cutCommitted then s.begin .transit else s

/-! ## Words and ends (R3, R13, R14) -/

/-- A word of the head transit entry, an IDLE while it waits for more; nothing when its end symbol is due (R13). -/
def RingPort.transitWord (l : RingPort) : RingPort :=
  match l.transit with
  | [] => l
  | e :: es =>
    match e.words with
    | w :: ws => { l with transit := { e with words := ws } :: es, out := .data w }
    | [] => if e.fin.isSome && e.heldBack.isNone then l else { l with out := .idle }

/-- One word of the transmit stream (R3, R13, R14). -/
def RingPort.wordSent (l : RingPort) : RingPort :=
  match l.tx with
  | .between g => { l with tx := .between (min Config.gapWords (g + 1)), out := .idle }
  | .transit => l.transitWord
  | .sending p =>
    match p.left with
    | w :: ws => { l with tx := .sending { p with left := ws }, out := .data w }
    | [] => l

/-- One word of the transmit stream is sent. -/
def State.wordSent (s : State) : State := { s with link := s.link.wordSent }

/-- The end symbol of a transit entry (R10). -/
def endUnit (good : Bool) : TxUnit := if good then .eop else .eopx

/-- The transmitter is between parcels, its gap beginning (R3). -/
def RingPort.ended (u : TxUnit) (l : RingPort) : RingPort := { l with tx := .between 0, out := u }

/-- The end symbol of the parcel in transmission, when all its words are sent (R10, R13, R14, R40): a transit entry
leaves the list; a local LINE's slot is returned. -/
def State.parcelEndSent (s : State) : State :=
  match s.link.tx with
  | .between _ => s
  | .transit =>
    match s.link.transit with
    | [] => s
    | e :: es =>
      match e.fin with
      | none => s
      | some good =>
        if e.words.isEmpty && e.heldBack.isNone then
          { s with link := RingPort.ended (endUnit good) { s.link with transit := es } }
        else s
  | .sending p =>
    if p.left.isEmpty then
      ({ s with link := s.link.ended .eop } : State).returnSlots p.slot.toList
    else s

/-- The transmitter at a warm restart (R15): inside a parcel it sends EOPX at once. A committed cut-through parcel whose SOP
still waits for the gap (R11) is lost with the transit buffer, with no EOPX, since nothing of it has been sent (DESIGN CHOICE,
log 53). -/
def RingPort.abort (l : RingPort) : RingPort :=
  match l.tx with
  | .between _ => l
  | .transit => l.ended .eopx
  | .sending _ => l.ended .eopx

end Sys2Proof.Machine
end

