-- ==== Sys2Proof/Machine/Loader.lean ====
section
/-! DEFINITION. The Start-up Loader (11): cold reset, the image, warm restart. -/

namespace Sys2Proof.Machine

/-! ## Cold reset (R175) -/

/-- Cold reset (R175): every block at its cold-reset values; what waits outside the part and the levels on its input
pins are not the part's. -/
def State.coldReset (s : State) : State := { State.reset with pending := s.pending, pins := s.pins, free := s.free }

/-- The bytes the flash port sends (R176): the read command and a 3-byte address of 0. -/
def flashRead : List Byte := [0x03#8, 0#8, 0#8, 0#8]

/-- RESET_N goes high (R175): the straps are read, the node is LOADING, IDLE is sent and the image read begins. -/
def State.resetRelease (s : State) (straps : StationNo) : State :=
  if s.node.held then
    { s with
      node := { s.node with held := false, state := .loading, station := straps
                            flash := { selected := true, sent := flashRead } }
      link := { s.link with out := .idle } }
  else s

/-! ## The image (R176, R92, R94, R112, R131, R149, R172) -/

/-- The flash port is released at the end of the read (R176). -/
def Node.endRead (n : Node) : Node := { n with flash := { n.flash with selected := false } }

/-- An output port at the entry to RUN: the accumulator runs on from what it was held at (R131). -/
def OutPort.begin (k : AtRest) (c : OutCfg) (main : SinkCfg) (overlay : Option SinkCfg) : OutPort :=
  { OutPort.fresh c main overlay with lock.acc := k.acc }

/-- A port at the entry to RUN (R92, R94, R131, R149, R161). -/
def PortCfg.port (k : AtRest) : PortCfg → Port
  | .unused => .unused k
  | .input c ws => .input (InPort.fresh c ws)
  | .output c m o => .output (OutPort.begin k c m o)

/-- The entry to RUN from LOADING (R176). -/
def State.takeImage (s : State) (i : Image) : State :=
  let s1 : State :=
    { s with
      node := { s.node.endRead with state := .run, ring := some i.ring }
      sched := { s.sched with credit := i.ring.cap }
      view := StationView.start (seedFor i.ring.seed s.node.station) none false
      portA := i.portA.port s.portA.rest
      portB := i.portB.port s.portB.rest
      att := { s.att with enable := i.enable } }
  s1.settleStreams.onOuts (OutPort.frameStart s1.view.table)

/-- The image read ends with a good image (R176). -/
def State.imageAccepted (s : State) (bytes : List Byte) : State :=
  if s.node.state = .loading then
    match judgeFlash bytes with
    | .accepted i => s.takeImage i
    | .rejected => s
    | .reading => s
  else s

/-- The entry to FALLBACK (R59, R60, R61, R176). -/
def State.toFallback (s : State) : State :=
  { s with
    node := { s.node.endRead with state := .fallback }
    view := StationView.start (seedFor 0xFFFF#16 s.node.station) none false }

/-- The image read stops with a bad image (R176). -/
def State.imageRejected (s : State) (bytes : List Byte) : State :=
  if s.node.state = .loading ∧ judgeFlash bytes = .rejected then s.toFallback else s

/-! ## Warm restart (R180) -/

/-- Step 1 (R15): the Ring Port. The parcel arriving ends bad, and every unit to the next SOP is discarded. -/
def State.restartRing (s : State) : State :=
  let s1 :=
    match s.link.stage with
    | .outside => s
    | .header _ => s.toStage .outside
    | .body r => s.endParcel r false
  { s1 with link := { s1.link.abort with transit := [], hdrErr := 0, payErr := 0, ovf := 0 } }

/-- Step 2 (R55, R92): queues, credit, send store, streams. -/
def State.restartSources (s : State) : State :=
  ({ s with
      node := { s.node with state := .run, waiting := none, wakeFound := false }
      sched := { safeQ := [], normalQ := [], census := none, msgs := [], credit := s.cap, starved := false
                 yield := false, yieldTime := 0 }
      store := []
      portA := s.portA.restartStreams
      portB := s.portB.restartStreams } : State).settleStreams

/-- Step 3 (R112, R131, R148, R149, R161): sink records, Frame Locks, ports that had stopped; what was due on a port is
taken before (log 2). -/
def State.restartOuts (s : State) : State := s.onOuts (OutPort.dueFirst OutPort.restart)

/-- Step 4 (R59, R60, R61, R65, R72): the Station View, each removed entry reported. -/
def State.restartView (s : State) : State :=
  let seed := (s.node.ring.map RingCfg.seed).getD 0
  let s1 : State :=
    { s with view := StationView.start (seedFor seed s.node.station) s.view.nonce s.view.demand }
  (s.tableStations.foldl State.tableReport s1).recomputeDemand

/-- Step 5 (R174): outbox, result list, inbox; the pending set but CAMERA_LATE, which step 6 judges (R160). -/
def State.restartService (s : State) : State :=
  { s with
    svc := { s.svc with request := [], outbox := [], results := [], inbox := [] }
    att := { s.att with pending := s.att.pending &&& Cause.cameraLate.bit } }

/-- CAMERA_LATE is cleared at the restart when the engagement is no (R160). -/
def State.judgeLate (s : State) : State :=
  if s.camera.engaged then s
  else { s with att := { s.att with pending := s.att.pending &&& ~~~Cause.cameraLate.bit } }

/-- Step 6 (R151, R160, R161): Camera Priority takes the REVERSE level at once, and engages when that is high. -/
def State.restartCamera (s : State) : State :=
  let s1 : State :=
    { s with camera := { debounced := s.pins.reverse, stability := 0, ringLatch := false, localLatch := false } }
  if s1.camera.engaged then s1.judgeLate.engage else s1.judgeLate

/-- A warm restart (R180), in the order of its steps; the DONE response is the request's. -/
def State.warmRestart (s : State) : State :=
  s.restartRing.restartSources.restartOuts.restartView.restartService.restartCamera

end Sys2Proof.Machine
end

