-- ==== Sys2Proof/Machine/NodeCommands.lean ====
section
/-! DEFINITION. Meanings of the reset, image and node-state commands (11). -/

namespace Sys2Proof.Machine

/-- COLD_RESET (R175). -/
def execColdReset (s : State) : Answer :=
  .next s.coldReset

/-- RESET_RELEASE (R175): with RESET_N high already, nothing is read again. -/
def execResetRelease (straps : StationNo) (s : State) : Answer :=
  .next (s.resetRelease straps)

/-- IMAGE_ACCEPTED (R176). -/
def execImageAccepted (flash : List Byte) (s : State) : Answer :=
  live (fun s => s.imageAccepted flash) s

/-- IMAGE_REJECTED (R176). -/
def execImageRejected (flash : List Byte) (s : State) : Answer :=
  live (fun s => s.imageRejected flash) s

/-- ENTER_MUTE (R53, R54, R177). -/
def execEnterMute (s : State) : Answer :=
  live State.enterMute s

/-- ENTER_STANDBY (R53, R54, R178). -/
def execEnterStandby (s : State) : Answer :=
  live State.enterStandby s

/-- WAKE_PIN (R179). -/
def execWakePin (s : State) : Answer :=
  live State.wakePin s

end Sys2Proof.Machine
end

