-- ==== Sys2Proof/Machine/OutputCommands.lean ====
section
/-! DEFINITION. Meanings of the output-port commands (7, 8). What an earlier event left due on the port is taken before its
next frame, added line or active line (log 2). -/

namespace Sys2Proof.Machine

/-- OUTPUT_FRAME_START (R135): of a port that takes one (R136, R148). -/
def execOutputFrameStart (p : PortId) (s : State) : Answer :=
  live (fun s => (s.onOut p OutPort.settle).onOut p (fun o =>
    if o.canStart then o.frameStart s.view.table else (o, noCause))) s

/-- SILENT_FRAMES_LOST (R108, R109). -/
def execSilentFramesLost (p : PortId) (role : Role) (s : State) : Answer :=
  live (fun s => s.onOut p (OutPort.silentLoss role)) s

/-- HOLDOVER_EXPIRY (R130). -/
def execHoldoverExpiry (p : PortId) (s : State) : Answer :=
  live (fun s => s.onOut p OutPort.holdoverEnd) s

/-- ADDED_LINE_END (R121). -/
def execAddedLineEnd (p : PortId) (s : State) : Answer :=
  live (fun s => (s.onOut p OutPort.settle).onOut p OutPort.addedLineEnd) s

/-- HOLD_GIVE_UP (R122). -/
def execHoldGiveUp (p : PortId) (s : State) : Answer :=
  live (fun s => s.onOut p OutPort.holdGiveUp) s

/-- STRETCH_LIMIT (R127). -/
def execStretchLimit (p : PortId) (s : State) : Answer :=
  live (fun s => s.onOut p OutPort.stretchEnd) s

/-- ACTIVE_LINE_START (R139 to R147). -/
def execActiveLineStart (p : PortId) (s : State) : Answer :=
  live (fun s => (s.onOut p OutPort.settle).onOut p (fun o => (o.activeLine, noCause))) s

/-- PORT_STOP (R148). -/
def execPortStop (p : PortId) (s : State) : Answer :=
  live (fun s => s.onOut p (fun o => (o.stop, noCause))) s

end Sys2Proof.Machine
end

