-- ==== Sys2Proof/Machine/Answers.lean ====
section
/-! DEFINITION. Answer data of the service port, byte by byte (12.5): records, results, messages. What 12.5 leaves to
the reader of a field list is fixed as log 11 says. -/

namespace Sys2Proof.Machine

/-- One byte holding a small number. -/
def byte1 (n : Nat) : List Byte := beBytes 1 n

/-- Two bytes holding a number. -/
def byte2 (n : Nat) : List Byte := beBytes 2 n

/-- A frame's width and height. -/
def Size.bytes (z : Size) : List Byte := byte2 z.width ++ byte2 z.height

/-- A subscription value: a stream id, or absent. -/
def subBytes (s : Option StreamId) : List Byte := optBytes (fun v => byte1 v.toNat) s

/-- An inset position. -/
def posBytes (x y : Nat) : List Byte := byte2 x ++ byte2 y

/-! ## The node and link records (R167) -/

/-- Entries in the CONTROL queue. -/
def Scheduler.controlCount (q : Scheduler) : Nat := (if q.census.isSome then 1 else 0) + q.msgs.length

/-- The node record (R167). -/
def State.nodeRecord (s : State) : List Byte :=
  byte1 s.node.state.code ++ byte1 s.node.station.toNat ++ byte1 s.view.ring.code ++ byte1 s.view.missed ++
    optBytes (fun n => byte2 n.toNat) s.view.nonce ++ flagByte s.view.demand ++ byte1 s.view.table.length ++
    byte1 s.sched.safeQ.length ++ byte1 s.sched.normalQ.length ++ byte1 s.sched.controlCount ++
    byte2 s.sched.credit ++ flagByte s.sched.starved ++ flagByte s.sched.yield ++ flagByte s.camera.debounced ++
    flagByte s.camera.ringLatch ++ flagByte s.camera.localLatch ++ flagByte s.camera.engaged ++
    flagByte s.ownDemand ++ byte1 s.svc.inbox.length ++ byte1 s.svc.outbox.length ++ byte1 s.svc.results.length ++
    [s.svc.tag]

/-- The link record (R17, R167). -/
def State.linkRecord (s : State) : List Byte :=
  byte1 s.link.state.code ++ byte2 (fillOf s.link.transit) ++ byte2 s.link.hdrErr ++ byte2 s.link.payErr ++
    byte2 s.link.ovf

/-! ## The station entry record (R73, R167) -/

/-- An offered stream of an entry. -/
def Offer.bytes (o : Offer) : List Byte :=
  byte1 o.index.toNat ++ byte2 o.width ++ byte2 o.height ++ byte1 o.fmt.code.toNat ++ byte1 o.cls.code.toNat ++
    flagByte o.suspended

/-- An offered stream takes its place in order of stream index. -/
def insertOffer (o : Offer) : List Offer → List Offer
  | [] => [o]
  | x :: xs => if o.index.toNat ≤ x.index.toNat then o :: x :: xs else x :: insertOffer o xs

/-- Offered streams in order of stream index (12.5); a census may list them in any order (R68). -/
def sortOffers : List Offer → List Offer
  | [] => []
  | o :: os => insertOffer o (sortOffers os)

/-- An entry, every field of 4.5 with the last-seen time at its end, and then its age (R73, R167; the age's place is a DESIGN
CHOICE, log 42). -/
def TableEntry.bytes (now : Word) (e : TableEntry) : List Byte :=
  byte1 e.station.toNat ++ byte2 e.nonce.toNat ++ byte1 e.state.code ++ byte1 e.hops ++ flagByte e.demand ++
    listBytes Offer.bytes (sortOffers e.offers) ++ beBytes 4 e.seen.toNat ++ beBytes 4 (e.age now)

/-- The station entry record: absent, or every field. -/
def State.entryRecord (s : State) (st : StationNo) : List Byte :=
  optBytes (TableEntry.bytes s.tick) (entryFor s.view.table st)

/-! ## The port record of an input (R91) -/

/-- A window's stream: dropped lines and MARKs, state, frame open, marked size. R91 names the two counts and the state before
the geometry, and the state, open frame and size again for each window; R93 names the counts last. That the counts stand at the
head of each window's item is a DESIGN CHOICE (log 11). -/
def Stream.bytes (k : Stream) : List Byte :=
  byte2 k.lostLines ++ byte2 k.lostMarks ++ byte1 k.state.code ++ flagByte k.frame.isSome ++
    optBytes Size.bytes k.frame

/-- The record of an input port (R91): the geometry, the frame counter, the windows' items, the free slots (the order: log 11). -/
def InPort.bytes (freeSlots : Nat) (q : InPort) : List Byte :=
  optBytes Size.bytes q.geometry ++ byte2 q.counter.toNat ++ listBytes Stream.bytes q.streams ++ byte1 freeSlots

/-! ## The port record of an output (R113, R132, R150, R162) -/

/-- A shadow: its value, and its position on an OVERLAY record. -/
def shadowBytes (role : Role) (v : Placed) : List Byte :=
  subBytes v.sub ++
    match role with
    | .main => []
    | .overlay => posBytes v.x v.y

/-- The frame number of a frame. -/
def FrameInfo.noBytes (f : FrameInfo) : List Byte := byte2 f.no.toNat

/-- The marked size of a frame. -/
def FrameInfo.sizeBytes (f : FrameInfo) : List Byte := byte2 f.width ++ byte2 f.height

/-- The code of a role: 12.6 lists none, and the order of 12.7's record indices is taken (DESIGN CHOICE, log 43). -/
def roleCode : Role → Nat
  | .main => 0
  | .overlay => 1

/-- The record of a sink record (R113). -/
def Sink.bytes (role : Role) (k : Sink) : List Byte :=
  byte1 (roleCode role) ++ subBytes k.active ++ optBytes (shadowBytes role) k.shadow ++
    optBytes (fun (p : Nat × Nat) => posBytes p.1 p.2) (if role = .overlay then some (k.x, k.y) else none) ++
    optBytes FrameInfo.noBytes k.cur ++ optBytes FrameInfo.sizeBytes k.cur ++
    optBytes FrameInfo.noBytes k.presented ++ byte1 k.queue.length ++ byte1 k.source.code ++ byte1 k.silent ++
    flagByte k.torn ++ byte2 k.tornCount ++ byte2 k.overrunCount ++
    optBytes byte1 (if role = .main then some k.lead else none)

/-- The sink records of a port, MAIN first. -/
def OutPort.sinkBytes (o : OutPort) : List Byte :=
  match o.overlay with
  | none => byte1 1 ++ o.main.bytes .main
  | some k => byte1 2 ++ o.main.bytes .main ++ k.bytes .overlay

/-- The Frame Lock's part (R132). -/
def FrameLock.bytes (l : FrameLock) : List Byte :=
  byte1 l.state.code ++ flagByte l.locked ++ byte1 l.limited.code ++ beBytes 4 l.inc.toNat ++ beInt 3 l.integ ++
    byte1 l.lastLead ++ beInt 2 l.lastError ++ byte2 l.linesAdded ++ byte1 l.holdCount ++ byte1 l.inWin ++
    byte1 l.outWin

/-- The active or added line in progress, 0 in blanking and while stopped (12.5). -/
def OutPort.lineNumber (o : OutPort) : Nat :=
  match o.pres.pos with
  | .stopped => 0
  | .blanking => 0
  | .active => o.pres.line
  | .added => o.addedNumber

/-- The Presenter's part (R150). -/
def OutPort.presBytes (o : OutPort) : List Byte :=
  byte1 o.pres.pos.code ++ byte2 o.lineNumber ++ byte1 o.pres.blank ++ flagByte o.pres.fillFrame ++
    byte2 o.pres.repeated ++ byte2 o.pres.underrun ++ byte1 o.cfg.dither.code

/-- The time left to the deadline, present in SWITCHING (R162). -/
def OutPort.timeLeft (now : Word) (o : OutPort) : Option Nat :=
  if o.cam.state = .switching then o.cam.deadline.map (fun d => if laterTime d now then elapsed d now else 0) else none

/-- The camera part of a camera-mode port (R162). -/
def OutPort.camBytes (now : Word) (o : OutPort) : List Byte :=
  byte1 o.cam.state.code ++ optBytes (fun (v : Placed) => subBytes v.sub) o.cam.resume ++
    optBytes (fun (v : Placed) => posBytes v.x v.y) (if o.cfg.camMode = .inset then o.cam.resume else none) ++
    flagByte o.cam.insetHold ++ optBytes (beBytes 4) (o.timeLeft now)

/-- The record of an output port (R113, R132, R150, R162). A presence byte tells whether the camera part of a camera-mode
port follows (DESIGN CHOICE, log 44). -/
def OutPort.bytes (now : Word) (o : OutPort) : List Byte :=
  o.sinkBytes ++ o.lock.bytes ++ o.presBytes ++
    (if o.hasCamera then 1#8 :: o.camBytes now else [0#8])

/-- The port record (R167): unconfigured, or the record of its kind. -/
def State.portRecord (s : State) (p : PortId) : List Byte :=
  match s.port p with
  | .unused _ => [0#8]
  | .input q => 1#8 :: q.bytes (freeSlotCount s.store)
  | .output o => 1#8 :: o.bytes s.tick

/-! ## PROBE, TAKE, RESULT (R166, R170, R171) -/

/-- PROBE's judgements on an output port (R166): size agrees, allotment room. -/
def OutPort.probeBytes (f : Offer) (o : OutPort) : List Byte :=
  flagByte (f.width == o.cfg.ha && f.height == o.cfg.va) ++ flagByte (decide (o.cfg.t + 2 ≤ o.main.cfg.count))

/-- The output ports of this station, A first. -/
def State.outPorts (s : State) : List OutPort :=
  [s.portA, s.portB].filterMap (fun q =>
    match q with
    | .output o => some o
    | .input _ => none
    | .unused _ => none)

/-- The table's item for a stream (R166). -/
def probeItem (t : List TableEntry) (st : StreamId) : Option (TableEntry × Offer) :=
  match entryFor t (sourceOf st) with
  | none => none
  | some e => (e.offers.find? (fun o => o.index == indexOf st)).map (fun o => (e, o))

/-- The answer to PROBE (R166). -/
def State.probeAnswer (s : State) (st : StreamId) : List Byte :=
  match probeItem s.view.table st with
  | none => flagByte false
  | some (e, o) =>
    flagByte true ++ byte2 o.width ++ byte2 o.height ++ byte1 o.fmt.code.toNat ++ byte1 o.cls.code.toNat ++
      flagByte o.suspended ++ byte1 e.state.code ++ byte1 e.hops ++ listBytes (OutPort.probeBytes o) s.outPorts

/-- The answer to TAKE (R171). -/
def InMessage.bytes (m : InMessage) : List Byte :=
  byte1 m.source.toNat ++ byte1 m.kind.code.toNat ++ [m.tag] ++ listBytes wordBytes m.words ++ flagByte m.broadcast

/-- The answer to RESULT (R170). -/
def MessageResult.bytes (r : MessageResult) : List Byte :=
  [r.tag] ++ byte1 r.outcome.code ++
    optBytes (fun (c : BitVec 4 × BitVec 4) => byte1 c.1.toNat ++ byte1 c.2.toNat) r.counts

/-- The bytes of a response (12.5); the empty response when none is held. -/
def responseBytes : Option Response → List Byte
  | none => [0#8, 0#8]
  | some r => r.code.code :: BitVec.ofNat 8 r.data.length :: r.data

end Sys2Proof.Machine
end

