-- ==== Sys2Proof/Machine/Requests.lean ====
section
/-! DEFINITION. The requests of the service port (10, 12.5). -/

namespace Sys2Proof.Machine

/-- The checks of R164 before a request is carried out. `early` says that the request is allowed in the present
LOADING or FALLBACK; where it is not, the answer is STATE without a look at the arguments. -/
def State.serve (s : State) (early argsOk : Bool) (f : State → State) : State :=
  if !s.node.state.full && !early then s.respond .state []
  else if argsOk then f s
  else s.respond .badArg []

/-! ## Arguments -/

/-- A port argument (12.5). -/
def portArg (b : Byte) : Option PortId := if b = 0 then some .a else if b = 1 then some .b else none

/-- A stream argument: an id, or FFh for none (12.5). -/
def streamArg (b : Byte) : Option (Option StreamId) :=
  if b.toNat ≤ 127 then some (some (BitVec.ofNat 7 b.toNat)) else if b = 0xFF#8 then some none else none

/-- The port is an output that passes the test. -/
def State.outIs (s : State) (p : PortId) (f : OutPort → Bool) : Bool := (s.port p).outAnd f

/-! ## SHOW and INSET (R96, R158, R165) -/

/-- A camera-mode port of this mode holds its record (R158). -/
def OutPort.holds (m : CameraMode) (o : OutPort) : Bool := o.cfg.camMode == m && o.cam.state != .idle

/-- A request's value is taken into Camera Priority's keeping (R158). -/
def OutPort.keep (v : Placed) (o : OutPort) : OutPort := { o with cam := { o.cam with resume := some v } }

/-- A request's value reaches the record of a role, or Camera Priority (R96, R158). -/
def OutPort.request (m : CameraMode) (role : Role) (v : Placed) (o : OutPort) : OutPort :=
  if o.holds m then o.keep v else o.mapSink role (Sink.writeShadow role v)

/-- The answer to SHOW or INSET (R165). -/
def OutPort.requestCode (m : CameraMode) (role : Role) (v : Placed) (o : OutPort) : ResponseCode :=
  if o.holds m then .held
  else if (o.sink role).any (Sink.writeIdle role v) then .done
  else .accepted

/-- The code of a request at a port; an output port has one. -/
def State.codeAt (s : State) (p : PortId) (f : OutPort → ResponseCode) : ResponseCode :=
  match s.port p with
  | .output o => f o
  | .input _ => .badArg
  | .unused _ => .badArg

/-- A SHOW or INSET carried out (R165). -/
def State.placeRequest (s : State) (p : PortId) (m : CameraMode) (role : Role) (v : Placed) : State :=
  (s.onOut p (fun o => (o.request m role v, noCause))).respond (s.codeAt p (OutPort.requestCode m role v)) []

/-- The arguments of a SHOW: an output port and a stream or none (R165). -/
def State.showArgs (s : State) (args : List Byte) : Option (PortId × Option StreamId) :=
  match args with
  | [p, t] =>
    match portArg p, streamArg t with
    | some p, some t => if s.outIs p (fun _ => true) then some (p, t) else none
    | _, _ => none
  | _ => none

/-- SHOW (R165). The position of a MAIN record has no meaning and stays as it is. -/
def State.showStream (s : State) (args : List Byte) : State :=
  s.serve false (s.showArgs args).isSome (fun s =>
    match s.showArgs args with
    | some (p, t) => s.placeRequest p .full .main { sub := t, x := 0, y := 0 }
    | none => s)

/-- The OVERLAY record stands and the position is inside the panel (R165). -/
def OutPort.insetOk (x y : Nat) (o : OutPort) : Bool := o.overlay.isSome && decide (x < o.cfg.ha) && decide (y < o.cfg.va)

/-- The arguments of an INSET (R165). -/
def State.insetArgs (s : State) (args : List Byte) : Option (PortId × Placed) :=
  match args with
  | [p, t, xh, xl, yh, yl] =>
    match portArg p, streamArg t with
    | some p, some t =>
      if s.outIs p (OutPort.insetOk (ofBytes [xh, xl]) (ofBytes [yh, yl])) then
        some (p, { sub := t, x := ofBytes [xh, xl], y := ofBytes [yh, yl] })
      else none
    | _, _ => none
  | _ => none

/-- INSET (R165). -/
def State.inset (s : State) (args : List Byte) : State :=
  s.serve false (s.insetArgs args).isSome (fun s =>
    match s.insetArgs args with
    | some (p, v) => s.placeRequest p .inset .overlay v
    | none => s)

/-! ## PROBE and STATUS (R166, R167) -/

/-- The argument of a PROBE: a stream id (R166). -/
def probeArg : List Byte → Option StreamId
  | [t] => if t.toNat ≤ 127 then some (BitVec.ofNat 7 t.toNat) else none
  | _ => none

/-- PROBE (R166). -/
def State.probe (s : State) (args : List Byte) : State :=
  s.serve false (probeArg args).isSome (fun s =>
    match probeArg args with
    | some st => s.respond .done (s.probeAnswer st)
    | none => s)

/-- The records STATUS selects (12.5). -/
inductive Selector where
  | node
  | link
  | entry (st : StationNo)
  | port (p : PortId)
deriving DecidableEq, Repr

/-- The selector byte (12.5). -/
def selectorOf (b : Nat) : Option Selector :=
  if b = 0x00 then some .node
  else if b = 0x01 then some .link
  else if 0x10 ≤ b ∧ b ≤ 0x1F then some (.entry (BitVec.ofNat 4 (b - 0x10)))
  else if b = 0x20 then some (.port .a)
  else if b = 0x21 then some (.port .b)
  else none

/-- The argument of a STATUS. -/
def statusArg : List Byte → Option Selector
  | [b] => selectorOf b.toNat
  | _ => none

/-- The record of a selector (R167). -/
def State.record (s : State) : Selector → List Byte
  | .node => s.nodeRecord
  | .link => s.linkRecord
  | .entry st => s.entryRecord st
  | .port p => s.portRecord p

/-- STATUS (R167), allowed in every node state. -/
def State.status (s : State) (args : List Byte) : State :=
  s.serve true (statusArg args).isSome (fun s =>
    match statusArg args with
    | some r => s.respond .done (s.record r)
    | none => s)

/-! ## Messages (R168, R170, R171) -/

/-- What a SEND asks for. -/
structure SendArgs where
  target : Option StationNo
  kind : MessageKind
  user : List Word
deriving DecidableEq, Repr

/-- A target argument: another station, or FFh for broadcast (R168). -/
def targetArg (own : StationNo) (b : Byte) : Option (Option StationNo) :=
  if b = 0xFF#8 then some none
  else if b.toNat ≤ 15 ∧ b.toNat ≠ own.toNat then some (some (BitVec.ofNat 4 b.toNat))
  else none

/-- The arguments of a SEND (R168). -/
def sendArgs (own : StationNo) (args : List Byte) : Option SendArgs :=
  match args with
  | t :: k :: words =>
    match targetArg own t, MessageKind.ofCode k.toNat with
    | some t, some k =>
      if words.length % 4 = 0 ∧ words.length ≤ 64 then some { target := t, kind := k, user := wordsOfBytes words }
      else none
    | _, _ => none
  | _ => none

/-- A message is sent, or BUSY answered (R168). -/
def State.sendMessage (s : State) (a : SendArgs) : State :=
  if Config.outboxCap ≤ s.svc.outbox.length then s.respond .busy []
  else
    let s1 := s.queueMessage a.target a.kind a.user
    s1.respond .done [s1.svc.tag]

/-- SEND (R168). -/
def State.send (s : State) (args : List Byte) : State :=
  s.serve false (sendArgs s.node.station args).isSome (fun s =>
    match sendArgs s.node.station args with
    | some a => s.sendMessage a
    | none => s)

/-- TAKE (R171): the oldest complete entry. -/
def State.take (s : State) (args : List Byte) : State :=
  s.serve false args.isEmpty (fun s =>
    match s.svc.inbox.find? InMessage.complete with
    | some m =>
      ({ s with svc := { s.svc with inbox := s.svc.inbox.eraseP InMessage.complete } } : State).respond .done m.bytes
    | none => s.respond .empty [])

/-- RESULT (R170): the oldest result. -/
def State.result (s : State) (args : List Byte) : State :=
  s.serve false args.isEmpty (fun s =>
    match s.svc.results with
    | r :: rest => ({ s with svc := { s.svc with results := rest } } : State).respond .done r.bytes
    | [] => s.respond .empty [])

/-! ## Attention (R160, R172, R173) -/

/-- ATTENTION (R173): pending set, enable set, first code. -/
def State.attention (s : State) (args : List Byte) : State :=
  s.serve (s.node.state == .fallback) args.isEmpty (fun s =>
    s.respond .done (byte2 s.att.pending.toNat ++ byte2 s.att.enabled.toNat ++ byte1 s.firstCode))

/-- The causes a CLEAR naming this set removes (R160, R173). -/
def State.clearable (s : State) (m : Half) : Half :=
  s.att.pending &&& m &&& (if s.anyLate then ~~~Cause.cameraLate.bit else 0xFFFF#16)

/-- The set of two argument bytes (12.5). -/
def setArg : List Byte → Option Half
  | [h, l] => some (h ++ l)
  | _ => none

/-- CLEAR (R173). -/
def State.clear (s : State) (args : List Byte) : State :=
  s.serve (s.node.state == .fallback) (setArg args).isSome (fun s =>
    match setArg args with
    | some m =>
      ({ s with att := { s.att with pending := s.att.pending &&& ~~~s.clearable m } } : State).respond .done
        (byte2 (s.clearable m).toNat)
    | none => s)

/-! ## CAMERA, STANDBY, WAKE, RESTART (R158, R165, R178, R179, R180) -/

/-- The argument of a CAMERA: off or on. -/
def onOffArg : List Byte → Option Bool
  | [b] => if b = 0 then some false else if b = 1 then some true else none
  | _ => none

/-- CAMERA (R165). -/
def State.cameraRequest (s : State) (args : List Byte) : State :=
  s.serve false (onOffArg args).isSome (fun s =>
    match onOffArg args with
    | some b => (s.setLocalLatch b).respond .done []
    | none => s)

/-- STANDBY (R54, R158, R164, R165, R178): RUN only, and not while an entry to MUTE waits; the node enters STANDBY at once, or
at the end symbol of the own LINE or MARK in transmission. -/
def State.standbyRequest (s : State) (args : List Byte) : State :=
  s.serve false args.isEmpty (fun s =>
    if s.node.state ≠ .run ∨ s.node.waiting = some .mute then s.respond .state []
    else if s.ownDemand then s.respond .held []
    else (s.askEntry .standby).respond .accepted [])

/-- The argument of a WAKE: a station number. -/
def wakeArg : List Byte → Option StationNo
  | [b] => if b.toNat ≤ 15 then some (BitVec.ofNat 4 b.toNat) else none
  | _ => none

/-- WAKE (R164, R165): of this station, in STANDBY alone; of another, a WAKE message. -/
def State.wakeRequest (s : State) (args : List Byte) : State :=
  s.serve false (wakeArg args).isSome (fun s =>
    match wakeArg args with
    | some st =>
      if st = s.node.station then
        if s.node.state = .standby then s.wakeNode.respond .done [] else s.respond .state []
      else s.sendMessage { target := some st, kind := .wake, user := [] }
    | none => s)

/-- RESTART (R165, R180): the response is placed once the restart has emptied everything else. -/
def State.restartRequest (s : State) (args : List Byte) : State :=
  s.serve false args.isEmpty (fun s => s.warmRestart.respond .done [])

/-! ## Frames that are no request of a defined kind (R163, R164, R183) -/

/-- A frame that is discarded: the response stands (R163). -/
def State.discardFrame (s : State) : State := { s with svc := { s.svc with request := [] } }

/-- The bytes a read frame drives on SDO from its second byte: the response, and 0 beyond its end (R183). -/
def drivenBytes (r : Option Response) (clocked : Nat) : List Byte :=
  (responseBytes r).take (clocked - 1) ++ List.replicate (clocked - 1 - (responseBytes r).length) 0#8

/-- A read frame of this many bytes (R163, R183). -/
def State.readFrame (s : State) (clocked : Nat) : State :=
  { s with
    svc := { s.svc with request := [], sdo := drivenBytes s.svc.response clocked, response := none } }

end Sys2Proof.Machine
end

