-- ==== Sys2Proof/Machine/ServiceCommands.lean ====
section
/-! DEFINITION. Meanings of the service-port commands (10). -/

namespace Sys2Proof.Machine

/-- REQUEST_FRAME_DISCARDED (R163): of a frame whose bytes do not match its length. -/
def execRequestFrameDiscarded (frame : List Byte) (s : State) : Answer :=
  live (fun s => if frameMismatch frame then s.discardFrame else s) s

/-- READ_FRAME (R163, R183): of one byte or more. -/
def execReadFrame (clocked : Nat) (s : State) : Answer :=
  live (fun s => if 1 ≤ clocked then s.readFrame clocked else s) s

/-- UNKNOWN_REQUEST (R164, R183). -/
def execUnknownRequest (kind : Byte) (args : List Byte) (s : State) : Answer :=
  live (fun s => if Instr.wf (.unknownRequest kind args) then s.respond .unknown [] else s) s

/-- SHOW (R165). A frame holds at most 255 argument bytes. -/
def execShowStream (args : List Byte) (s : State) : Answer :=
  live (fun s => if argsFit args then s.showStream args else s) s

/-- INSET (R165). -/
def execInset (args : List Byte) (s : State) : Answer :=
  live (fun s => if argsFit args then s.inset args else s) s

/-- PROBE (R166). -/
def execProbe (args : List Byte) (s : State) : Answer :=
  live (fun s => if argsFit args then s.probe args else s) s

/-- SEND (R168). -/
def execSend (args : List Byte) (s : State) : Answer :=
  live (fun s => if argsFit args then s.send args else s) s

/-- TAKE (R171). -/
def execTake (args : List Byte) (s : State) : Answer :=
  live (fun s => if argsFit args then s.take args else s) s

/-- RESULT (R170). -/
def execResult (args : List Byte) (s : State) : Answer :=
  live (fun s => if argsFit args then s.result args else s) s

/-- STATUS (R167). -/
def execStatus (args : List Byte) (s : State) : Answer :=
  live (fun s => if argsFit args then s.status args else s) s

/-- ATTENTION (R173). -/
def execAttention (args : List Byte) (s : State) : Answer :=
  live (fun s => if argsFit args then s.attention args else s) s

/-- CLEAR (R173). -/
def execClear (args : List Byte) (s : State) : Answer :=
  live (fun s => if argsFit args then s.clear args else s) s

/-- CAMERA (R165). -/
def execCamera (args : List Byte) (s : State) : Answer :=
  live (fun s => if argsFit args then s.cameraRequest args else s) s

/-- STANDBY (R165, R178). -/
def execStandby (args : List Byte) (s : State) : Answer :=
  live (fun s => if argsFit args then s.standbyRequest args else s) s

/-- WAKE (R165, R179). -/
def execWake (args : List Byte) (s : State) : Answer :=
  live (fun s => if argsFit args then s.wakeRequest args else s) s

/-- RESTART (R165, R180). -/
def execRestart (args : List Byte) (s : State) : Answer :=
  live (fun s => if argsFit args then s.restartRequest args else s) s

end Sys2Proof.Machine
end

