-- ==== Sys2Proof/Machine/Tick.lean ====
section
/-! DEFINITION. The microsecond tick (R1) and the events it makes due. -/

namespace Sys2Proof.Machine

/-- What each port left due (log 2). -/
def State.settleOuts (s : State) : State := s.onOuts OutPort.settle

/-- Every event that is due and not yet taken is taken, in the order of the table (log 2). Of one kind, what is due at one tick
goes by station number, by port, or by the order of the outbox, which is then that of the results (DESIGN CHOICE, log 51). -/
def State.takeDue (s : State) : State :=
  let s1 := s.takeEntry.setStarved.clearYield.censusExpiry
  let s2 := s1.tableStations.foldl State.entryExpiry s1
  let s3 := (s2.silenceTimeout .a).silenceTimeout .b
  let s4 := (s3.svc.outbox.map OutMessage.tag).foldl State.messageTimeout s3
  let s5 := s4.reverseDebounced
  (s5.onOuts (OutPort.deadlineExpiry s5.tick)).wakePin.settleOuts

/-- A pixel port at a tick (R77, R114, R134). -/
def Port.runTick : Port → Port
  | .unused k => .unused k
  | .input q => .input q.runTick
  | .output o => .output o.runTick

/-- The counters a tick moves (R1, R46, R51, R61, R77, R114, R151, R179). -/
def State.countTick (s : State) (reverse wake : Bool) : State :=
  { s with
    tick := s.tick + 1
    pins := { reverse := reverse, wake := wake }
    sched := { s.sched with credit := creditAfterTick s
                            yieldTime := if s.sched.yield then s.sched.yieldTime - 1 else s.sched.yieldTime }
    view := { s.view with timer := s.view.timer.map (· - 1) }
    portA := s.portA.runTick
    portB := s.portB.runTick
    camera := if s.node.state.full then s.camera.runTick reverse else s.camera
    node := { s.node with wakeFound := s.node.wakeFound || (wake && s.node.state == .standby) } }

/-- A microsecond tick (R1): what was due is taken first, and the tick then moves the counters. -/
def State.microsecondTick (s : State) (reverse wake : Bool) : State := s.takeDue.countTick reverse wake

end Sys2Proof.Machine
end

