-- ==== Sys2Proof/Machine/TickCommands.lean ====
section
/-! DEFINITION. Meanings of the microsecond tick and of the events of the tick-driven timers. -/

namespace Sys2Proof.Machine

/-- MICROSECOND_TICK (R1). -/
def execMicrosecondTick (reverse wake : Bool) (s : State) : Answer :=
  live (fun s => s.microsecondTick reverse wake) s

/-- STARVED_SET (R49). -/
def execStarvedSet (s : State) : Answer :=
  live State.setStarved s

/-- YIELD_EXPIRY (R51). -/
def execYieldExpiry (s : State) : Answer :=
  live State.clearYield s

/-- CENSUS_TIMER_EXPIRY (R61, R62). -/
def execCensusTimerExpiry (s : State) : Answer :=
  live State.censusExpiry s

/-- TABLE_ENTRY_EXPIRY (R70). -/
def execTableEntryExpiry (station : StationNo) (s : State) : Answer :=
  live (fun s => s.entryExpiry station) s

/-- SILENCE_TIMEOUT (R77). -/
def execSilenceTimeout (p : PortId) (s : State) : Answer :=
  live (fun s => s.silenceTimeout p) s

/-- MESSAGE_TIMEOUT (R169). -/
def execMessageTimeout (tag : Byte) (s : State) : Answer :=
  live (fun s => s.messageTimeout tag) s

/-- REVERSE_DEBOUNCED (R151). -/
def execReverseDebounced (s : State) : Answer :=
  live State.reverseDebounced s

/-- CAMERA_DEADLINE_EXPIRY (R156). -/
def execCameraDeadlineExpiry (p : PortId) (s : State) : Answer :=
  live (fun s => s.onOut p (OutPort.deadlineExpiry s.tick)) s

end Sys2Proof.Machine
end

