-- ==== Sys2Proof/Machine/TransmitCommands.lean ====
section
/-! DEFINITION. Meanings of the transmit-link commands (1.4, 1.5, 3.1). -/

namespace Sys2Proof.Machine

/-- PARCEL_START (R37 to R40). -/
def execParcelStart (s : State) : Answer :=
  live State.parcelStart s

/-- CUT_THROUGH_START (R11). -/
def execCutThroughStart (s : State) : Answer :=
  live State.cutThroughStart s

/-- PARCEL_END_SENT (R10, R13, R14, R40). -/
def execParcelEndSent (s : State) : Answer :=
  live State.parcelEndSent s

/-- WORD_SENT (R3, R13, R14). -/
def execWordSent (s : State) : Answer :=
  live State.wordSent s

end Sys2Proof.Machine
end

