-- ==== Sys2Proof/Machine/Dispatch.lean ====
section
/-! DEFINITION. The dispatch: each command to its meaning. -/

namespace Sys2Proof.Machine

open Sys2Proof

def exec (i : Instr) (s : State) : Host.Outcome State Fault Refusal :=
  match i with
  | .coldReset => Sys2Proof.Machine.execColdReset s
  | .resetRelease straps => Sys2Proof.Machine.execResetRelease straps s
  | .imageAccepted flash => Sys2Proof.Machine.execImageAccepted flash s
  | .imageRejected flash => Sys2Proof.Machine.execImageRejected flash s
  | .signalPresent => Sys2Proof.Machine.execSignalPresent s
  | .lossOfSignal => Sys2Proof.Machine.execLossOfSignal s
  | .alignUnit u => Sys2Proof.Machine.execAlignUnit u s
  | .sopReceived => Sys2Proof.Machine.execSopReceived s
  | .strayUnit u => Sys2Proof.Machine.execStrayUnit u s
  | .codingViolation => Sys2Proof.Machine.execCodingViolation s
  | .headerEvent w => Sys2Proof.Machine.execHeaderEvent w s
  | .payloadWord w => Sys2Proof.Machine.execPayloadWord w s
  | .endEvent e => Sys2Proof.Machine.execEndEvent e s
  | .parcelStart => Sys2Proof.Machine.execParcelStart s
  | .cutThroughStart => Sys2Proof.Machine.execCutThroughStart s
  | .parcelEndSent => Sys2Proof.Machine.execParcelEndSent s
  | .enterMute => Sys2Proof.Machine.execEnterMute s
  | .enterStandby => Sys2Proof.Machine.execEnterStandby s
  | .microsecondTick reverse wake => Sys2Proof.Machine.execMicrosecondTick reverse wake s
  | .starvedSet => Sys2Proof.Machine.execStarvedSet s
  | .yieldExpiry => Sys2Proof.Machine.execYieldExpiry s
  | .censusTimerExpiry => Sys2Proof.Machine.execCensusTimerExpiry s
  | .tableEntryExpiry station => Sys2Proof.Machine.execTableEntryExpiry station s
  | .silenceTimeout p => Sys2Proof.Machine.execSilenceTimeout p s
  | .messageTimeout tag => Sys2Proof.Machine.execMessageTimeout tag s
  | .reverseDebounced => Sys2Proof.Machine.execReverseDebounced s
  | .cameraDeadlineExpiry p => Sys2Proof.Machine.execCameraDeadlineExpiry p s
  | .wakePin => Sys2Proof.Machine.execWakePin s
  | .inputFrameStart p => Sys2Proof.Machine.execInputFrameStart p s
  | .activePixel p r g b => Sys2Proof.Machine.execActivePixel p r g b s
  | .inputLineEnd p => Sys2Proof.Machine.execInputLineEnd p s
  | .outputFrameStart p => Sys2Proof.Machine.execOutputFrameStart p s
  | .silentFramesLost p role => Sys2Proof.Machine.execSilentFramesLost p role s
  | .holdoverExpiry p => Sys2Proof.Machine.execHoldoverExpiry p s
  | .addedLineEnd p => Sys2Proof.Machine.execAddedLineEnd p s
  | .holdGiveUp p => Sys2Proof.Machine.execHoldGiveUp p s
  | .stretchLimit p => Sys2Proof.Machine.execStretchLimit p s
  | .activeLineStart p => Sys2Proof.Machine.execActiveLineStart p s
  | .portStop p => Sys2Proof.Machine.execPortStop p s
  | .requestFrameDiscarded frame => Sys2Proof.Machine.execRequestFrameDiscarded frame s
  | .readFrame clocked => Sys2Proof.Machine.execReadFrame clocked s
  | .unknownRequest kind args => Sys2Proof.Machine.execUnknownRequest kind args s
  | .showStream args => Sys2Proof.Machine.execShowStream args s
  | .inset args => Sys2Proof.Machine.execInset args s
  | .probe args => Sys2Proof.Machine.execProbe args s
  | .send args => Sys2Proof.Machine.execSend args s
  | .take args => Sys2Proof.Machine.execTake args s
  | .result args => Sys2Proof.Machine.execResult args s
  | .status args => Sys2Proof.Machine.execStatus args s
  | .attention args => Sys2Proof.Machine.execAttention args s
  | .clear args => Sys2Proof.Machine.execClear args s
  | .camera args => Sys2Proof.Machine.execCamera args s
  | .standby args => Sys2Proof.Machine.execStandby args s
  | .wake args => Sys2Proof.Machine.execWake args s
  | .restart args => Sys2Proof.Machine.execRestart args s
  | .wordSent => Sys2Proof.Machine.execWordSent s
  | .headerWord w => Sys2Proof.Machine.execHeaderWord w s

end Sys2Proof.Machine
end

