-- ==== Sys2Proof/Safety.lean ====
section
/-! DEFINITION. What counts as a sound state of the part: the bounds and orders the manual says always hold. -/

namespace Sys2Proof.Machine

/-- The sink records of a pixel port: MAIN, then OVERLAY (R94). -/
def Port.sinks : Port → List Sink
  | .output o => o.main :: o.overlay.toList
  | .input _ => []
  | .unused _ => []

/-- The sink records of the station (R94). -/
def State.sinks (s : State) : List Sink := s.portA.sinks ++ s.portB.sinks

/-- The slots of a record (R95): no slot twice, each inside the allotment, which lies inside the Line Store. -/
structure Sink.Stored (k : Sink) : Prop where
  once : k.usedSlots.Nodup
  inside : ∀ n ∈ k.usedSlots, k.cfg.first ≤ n ∧ n < k.cfg.first + k.cfg.count
  allotted : k.cfg.first + k.cfg.count ≤ Config.lineSlots

/-- The capacities that the manual says are never passed: SAFE, NORMAL and CONTROL queues (R42, R43, R44), credit (R47),
send store (R89), transit fill (R12), alignment count (R4), link error counts (R17), missed count (R63), station table
(R68), outbox, results and inbox (R168, R170, R171), Line Store (R95); and what keeps them. -/
structure State.Bounded (s : State) : Prop where
  safeQ : s.sched.safeQ.length ≤ Config.safeCap
  normalQ : s.sched.normalQ.length ≤ Config.normalCap
  control : s.sched.census.toList.length + s.sched.msgs.length ≤ 5
  credit : s.sched.credit ≤ s.cap
  store : s.store.length ≤ Config.sendSlots
  fill : fillOf s.link.transit ≤ Config.transitWords
  valid : s.link.valid ≤ Config.alignUnits
  hdrErr : s.link.hdrErr ≤ Config.countMax
  payErr : s.link.payErr ≤ Config.countMax
  ovf : s.link.ovf ≤ Config.countMax
  missed : s.view.missed ≤ 3
  table : s.view.table.length ≤ 15
  outbox : s.svc.outbox.length ≤ Config.outboxCap
  results : s.svc.results.length ≤ Config.resultCap
  inbox : s.svc.inbox.length ≤ Config.inboxCap
  lineStore : (s.sinks.map (fun k => k.usedSlots.length)).sum ≤ Config.lineSlots
  /-- no two outbox messages have one tag (R168) -/
  tags : (s.svc.outbox.map OutMessage.tag).Nodup
  /-- the messages of the CONTROL queue are the unsent ones of the outbox, in order (R44) -/
  unsent : s.sched.msgs.map MessageEntry.tag = (s.svc.outbox.filter (fun m => m.sent.isNone)).map OutMessage.tag
  /-- one entry a station (R68) -/
  entries : s.view.table.Pairwise (fun a b => a.station.toNat < b.station.toNat)
  /-- none for this station (R68) -/
  foreign : ∀ e ∈ s.view.table, e.station ≠ s.node.station
  /-- a parcel that is forwarded is another station's (R20) -/
  forwarded : ∀ r, s.link.stage = .body r → r.course = .forward → r.hdr.source ≠ s.node.station
  /-- before the straps are read nothing has been received (R16, R72) -/
  held : s.node.held = true → s.view.table = [] ∧ s.link.stage = .outside
  stored : ∀ k ∈ s.sinks, k.Stored
  /-- a slot belongs to one record alone (R95) -/
  apart : (s.sinks.map Sink.cfg).Pairwise (fun a b => a.apart b = true)

/-- The Frame Lock's bounds: INC between INC_nom − DEV and INC_nom + DEV (R116), the integrator in its range
(R124). -/
structure FrameLock.Steady (c : OutCfg) (l : FrameLock) : Prop where
  low : (c.incNom : Int) - c.dev ≤ l.inc.toNat
  high : (l.inc.toNat : Int) ≤ c.incNom + c.dev
  integLow : -1048576 ≤ l.integ
  integHigh : l.integ ≤ 1048575

/-- An output port whose frame-lock parameters passed the image checks (R115) and whose Frame Lock is steady. -/
structure OutPort.Steady (o : OutPort) : Prop where
  checked : o.cfg.lockOk = true
  lock : o.lock.Steady o.cfg

/-- A pixel port is steady when it is no output, or a steady one. -/
def Port.Steady (q : Port) : Prop :=
  match q with
  | .output o => o.Steady
  | .input _ => True
  | .unused _ => True

/-- Both ports are steady. -/
structure State.Steady (s : State) : Prop where
  portA : s.portA.Steady
  portB : s.portB.Steady

/-- The Station View in order: the table strictly rising by station number (4.5), and a nonce that is never zero
beside a generator that is never zero (R59, R60). -/
structure State.Ordered (s : State) : Prop where
  table : s.view.table.Pairwise (fun a b => a.station.toNat < b.station.toNat)
  nonce : ∀ n, s.view.nonce = some n → n ≠ 0 ∧ s.view.gen ≠ 0

/-! ## What the image check admits -/

/-- The port section of an image. -/
def Image.port (i : Image) : PortId → PortCfg
  | .a => i.portA
  | .b => i.portB

/-- A window entry of an input port that R79 and R184 admit. -/
structure Window.Checked (w : Window) : Prop where
  x0 : w.x0 ≤ 4095
  y0 : w.y0 ≤ 2047
  width : 1 ≤ w.width ∧ w.width ≤ 2048
  height : 1 ≤ w.height ∧ w.height ≤ 2048
  step : w.step = 1 ∨ w.step = 2
  phase : w.phase = 0 ∨ w.phase = 1
  cls : w.cls ≠ .control
  enabled : w.enabled = true → ¬(w.step = 1 ∧ w.phase = 1) ∧ ¬(w.cls = .safe ∧ w.shed = true)

/-- A sink record section that R94 admits. -/
structure SinkCfg.Checked (k : SinkCfg) : Prop where
  first : k.first ≤ 47
  count : 2 ≤ k.count
  last : k.first + k.count ≤ 48

/-- The port section of an output port that R115, R133, R153 and R184 admit. -/
structure OutCfg.Checked (c : OutCfg) : Prop where
  ha : 1 ≤ c.ha ∧ c.ha ≤ 4096
  va : 1 ≤ c.va ∧ c.va ≤ 2048
  hfp : 1 ≤ c.hfp ∧ c.hfp ≤ 1023
  hs : 1 ≤ c.hs ∧ c.hs ≤ 1023
  hbp : 1 ≤ c.hbp ∧ c.hbp ≤ 1023
  vfp : 1 ≤ c.vfp ∧ c.vfp ≤ 1023
  vs : 1 ≤ c.vs ∧ c.vs ≤ 1023
  vbp : 1 ≤ c.vbp ∧ c.vbp ≤ 1023
  depth : c.depth = 6 ∨ c.depth = 8 ∨ c.depth = 10
  incNom : 2 ^ 28 ≤ c.incNom ∧ c.incNom ≤ 2 ^ 31 - 1
  t : 2 ≤ c.t ∧ c.t ≤ 32
  w : 1 ≤ c.w ∧ c.w ≤ 16
  gains : c.kp ≤ 255 ∧ c.ki ≤ 255 ∧ c.gx ≤ 12
  devShift : 8 ≤ c.devShift ∧ c.devShift ≤ 14
  stretch : c.vStretchMax ≤ 255
  hold : 1 ≤ c.holdFrames ∧ c.holdFrames ≤ 255
  swb : c.swb ≤ 3
  deadline : 5 ≤ c.deadlineUnits ∧ c.deadlineUnits ≤ 100
  camera : c.camX < c.ha ∧ c.camY < c.va

/-- A port section, with its windows and sink records, that R79, R94, R115 and R153 admit. -/
def PortCfg.Checked : PortCfg → Prop
  | .unused => True
  | .input _ ws => ws.length = 4 ∧ ∀ w ∈ ws, w.Checked
  | .output c m v => c.Checked ∧ m.Checked ∧ c.t ≤ m.count ∧ (c.camMode = .inset → v.isSome = true) ∧
      ∀ k, v = some k → k.Checked ∧ k.initX < c.ha ∧ k.initY < c.va

/-- An image within every range of R176. -/
structure Image.Checked (i : Image) : Prop where
  cap : 2053 ≤ i.ring.cap ∧ i.ring.cap ≤ 16384
  refill : i.ring.refill ≤ 400
  patience : 20 ≤ i.ring.patience ∧ i.ring.patience ≤ 2000
  seed : i.ring.seed ≠ 0
  portA : i.portA.Checked
  portB : i.portB.Checked
  /-- two allotments share no slot (R94) -/
  apart : (i.portA.allotments ++ i.portB.allotments).Pairwise
    (fun a b => a.first + a.count ≤ b.first ∨ b.first + b.count ≤ a.first)
  /-- at most one enabled window is SAFE (R79) -/
  safe : i.portA.safeWindows + i.portB.safeWindows ≤ 1

/-- A section of an accepted image, bit by bit (R79, R94, R115, R133, R153, R176, R184): what the values it gives in the
accepted image cannot tell. -/
structure Section.Checked (ss : List Section) (x : Section) : Prop where
  /-- the census seed fits 16 bits -/
  ring : x.kind = 1 → (x.body.getD 3 0).toNat ≤ 65535
  /-- an enable names one of the 16 causes -/
  enable : x.kind = 5 → (x.body.getD 0 0).toNat ≤ 65535
  direction : x.kind = 2 → ((x.body.getD 0 0).extractLsb' 24 8).toNat ≤ 2
  /-- an input port has components of 8 or 10 bits -/
  input : x.kind = 2 → ((x.body.getD 0 0).extractLsb' 24 8).toNat = 1 →
    ((x.body.getD 0 0).extractLsb' 16 8).toNat = 8 ∨ ((x.body.getD 0 0).extractLsb' 16 8).toNat = 10
  /-- an output port has a dither mode, a seed of 16 bits, a camera mode, a stream id, and a MAIN section -/
  output : x.kind = 2 → ((x.body.getD 0 0).extractLsb' 24 8).toNat = 2 →
    ((x.body.getD 5 0).extractLsb' 16 8).toNat ≤ 2 ∧ (x.body.getD 7 0).toNat ≤ 65535 ∧
      ((x.body.getD 12 0).extractLsb' 16 8).toNat ≤ 2 ∧ ((x.body.getD 12 0).extractLsb' 8 8).toNat ≤ 127 ∧
      ∃ y ∈ ss, y.kind = 4 ∧ y.index = 2 * x.index
  /-- a window has a format, a class, and, when enabled, an input port -/
  window : x.kind = 3 →
    ((x.body.getD 2 0).extractLsb' 8 8).toNat ≤ 2 ∧ ((x.body.getD 2 0).extractLsb' 6 2).toNat ≤ 1 ∧
      ((x.body.getD 2 0).getLsbD 1 = true → ∃ y ∈ ss, y.kind = 2 ∧ y.index = x.index / 4 ∧
        ((y.body.getD 0 0).extractLsb' 24 8).toNat = 1)
  /-- a sink record has a subscription, a stream id or none, and an output port -/
  sink : x.kind = 4 →
    (((x.body.getD 1 0).extractLsb' 0 8).toNat ≤ 127 ∨ ((x.body.getD 1 0).extractLsb' 0 8).toNat = 255) ∧
      ∃ y ∈ ss, y.kind = 2 ∧ y.index = x.index / 2 ∧ ((y.body.getD 0 0).extractLsb' 24 8).toNat = 2

/-- A sink record from which the line it was taking is gone (R28, R97, R102): its FILLING records are removed, the detached
ones too, and the frame is torn when one of those removed was of the current frame. -/
def Sink.withdrawn (k : Sink) : Sink :=
  { k with
    queue := k.queue.filter (fun x => x.full), detached := []
    torn := k.torn || k.queue.any (fun x => !x.full && (k.cur.map FrameInfo.no) == some x.frame) }

/-- t is s after the bad end of the parcel r in reception, whatever its cause, apart from the link and the attention set
(R5, R8, R9, R12): the copies this station has made of it are withdrawn, and nothing else of it has an effect here. -/
structure State.EndsBad (s : State) (r : Reception) (t : State) : Prop where
  /-- the copies of a line leave the records that took it (R28) -/
  line : r.course = .forward → r.repeater = false → r.kind = .line → r.lineTo.Nodup →
    ∀ p, (∀ o, s.port p = .output o → t.port p = .output { o with
        main := if ⟨p, .main⟩ ∈ r.lineTo then o.main.withdrawn else o.main
        overlay := if ⟨p, .overlay⟩ ∈ r.lineTo then o.overlay.map Sink.withdrawn else o.overlay }) ∧
      ((∀ o, s.port p ≠ .output o) → t.port p = s.port p)
  /-- no other parcel touches a port -/
  ports : (r.course ≠ .forward ∨ r.repeater = true ∨ r.kind ≠ .line) → t.portA = s.portA ∧ t.portB = s.portB
  /-- the inbox entry that a message reserved is withdrawn (R35) -/
  entry : r.course = .forward → r.repeater = false → r.kind = .message → r.reserved = true →
    ∀ ready x, s.svc.inbox = ready ++ [x] → (∀ y ∈ ready, y.complete = true) → x.complete = false →
      t.svc = { s.svc with inbox := ready }
  /-- an own message that comes back bad is DAMAGED (R26) -/
  returned : r.course = .strip → r.repeater = false → r.kind = .message →
    ∀ w ws m, r.payload = w :: ws → inFlight s.svc.outbox (messageTag w) = some m →
      t.isPending .messageResult = true ∧ ∃ res, res.tag = m.tag ∧ res.outcome = .damaged ∧
        t.svc = { s.svc with
          outbox := s.svc.outbox.filter (fun x => x.tag != m.tag)
          results := (if s.svc.results.length < 4 then s.svc.results else s.svc.results.drop 1) ++ [res] }
  /-- no other parcel touches the service port -/
  svc : (r.kind ≠ .message ∨ r.repeater = true ∨ r.course = .orphan ∨ (r.course = .strip ∧ r.payload = []) ∨
      (r.course = .forward ∧ r.reserved = false)) →
    t.svc = s.svc
  /-- a parcel that ends bad brings no action, census or result -/
  rest : t.node = s.node ∧ t.camera = s.camera ∧ t.view = s.view ∧ t.sched = s.sched ∧ t.store = s.store ∧ t.tick = s.tick

/-- A header of a local parcel (R14, 12.1): this station's number, hop and pressure 0, no flags, and the CRC of its words. -/
structure Header.Local (h : Header) (station : StationNo) : Prop where
  source : h.source = station
  hop : h.hop = 0
  pressure : h.pressure = 0
  flags : h.flags = 0
  crc : h.crc = arrivingCrc h.word0 h.word1 h.word2 h.word3

/-- h is the header of the picture entry e (R14, R41, 12.1); an entry within the ranges of R181 arrives good. -/
structure Header.IsPicture (h : Header) (station : StationNo) (e : PicEntry) : Prop where
  isLocal : h.Local station
  kind : h.kindCode.toNat = if e.isMark then 1 else 0
  cls : h.clsCode = e.cls.code
  index : h.index = e.index
  fmt : h.fmtCode = e.fmt.code
  frame : h.frame = e.frame
  len : h.len = BitVec.ofNat 12 e.len
  line : h.line = BitVec.ofNat 11 e.line
  width : h.width = BitVec.ofNat 12 e.width
  good : e.cls ≠ .control → 1 ≤ e.width → e.width ≤ 2048 → (e.len = if e.isMark then 1 else lineWords e.fmt e.width) →
    headerGood h.word0 h.word1 h.word2 h.word3 = true

/-- h is the header of a control parcel of this kind and number of payload words (R14, R41, 12.1): the fields of LINE and
MARK are 0, and with a length that R181 admits it arrives good. -/
structure Header.IsControl (h : Header) (station : StationNo) (code words : Nat) : Prop where
  isLocal : h.Local station
  kind : h.kindCode.toNat = code
  cls : h.clsCode.toNat = 2
  blank : h.index = 0 ∧ h.fmtCode = 0 ∧ h.frame = 0 ∧ h.line = 0 ∧ h.width = 0
  len : h.len = BitVec.ofNat 12 words
  good : (code = 2 ∧ words ≤ 2048) ∨ (code = 3 ∧ 2 ≤ words ∧ words ≤ 18) →
    headerGood h.word0 h.word1 h.word2 h.word3 = true

/-- In RUN, t is s after the finished line ps of window i at input port p has been placed or dropped (R85, R87 to R91): q is
the port and k the window's stream. The slot it takes is the model's choice (log 8). -/
def State.LinePlaced (s : State) (p : PortId) (q : InPort) (i : Nat) (k : Stream) (ps : List Pixel) (t : State) : Prop :=
  let need : Nat :=
    if k.win.cls = .normal ∧
        (s.portA.streams ++ s.portB.streams).any (fun x => x.win.cls == .safe && x.state == .running) = true
    then 5 else 1
  let queued : Prop :=
    (k.win.cls = .safe ∧ s.sched.safeQ.length < 16) ∨ (k.win.cls ≠ .safe ∧ s.sched.normalQ.length < 48)
  let line : Nat → PicEntry := fun n =>
    { isMark := false, cls := k.win.cls, index := streamIndex p i, len := lineWords k.win.fmt ps.length
      frame := q.counter, line := q.lines - k.win.y0, width := ps.length, fmt := k.win.fmt, slot := n
      height := 0, entryTime := 0 }
  (∀ n, s.store.length + need ≤ 24 → n < 24 → (∀ x ∈ s.store, x.slot ≠ n) →
    (∀ m, m < n → ∃ x ∈ s.store, x.slot = m) → queued →
    t = { s.setPort p (.input { q with streams := q.streams.set i { k with asm := [] } }) with
      sched := { s.sched with
        safeQ := s.sched.safeQ ++ (if k.win.cls = .safe then [line n] else [])
        normalQ := s.sched.normalQ ++ (if k.win.cls = .safe then [] else [{ line n with entryTime := s.tick }]) }
      store := s.store ++ [{ slot := n, words := packLine k.win.fmt ps }] }) ∧
  ((24 < s.store.length + need ∨ ¬queued) →
    t = { s.setPort p (.input { q with
        streams := q.streams.set i { k with asm := [], drop := true, lostLines := holdInc k.lostLines } }) with
      att := { s.att with pending := s.att.pending ||| (if k.drop then 0 else 0x0200#16) } })

/-- The LINE entries of stream n have left both picture queues, their slots returned (R42, R43, R84); where the NORMAL head
went, STARVED is judged by R50. -/
def State.linesGone (s : State) (n : BitVec 3) : State :=
  let stale : PicEntry → Bool := fun e => e.index == n && !e.isMark
  { s with
    sched := { s.sched with
      safeQ := s.sched.safeQ.filter (fun e => !stale e)
      normalQ := s.sched.normalQ.filter (fun e => !stale e)
      starved :=
        match s.sched.normalQ, s.sched.normalQ.filter (fun e => !stale e) with
        | e :: _, f :: _ => s.sched.starved && !(stale e && decide (2 * elapsed s.tick f.entryTime < s.patience))
        | _, _ => false }
    store := s.store.filter
      (fun x => !(s.sched.safeQ ++ s.sched.normalQ).any (fun e => stale e && e.slot == x.slot)) }

/-- t is s after a frame start's work on window i at input port p (R84): q is the port, its geometry and counter those of
the new frame, and k the window's stream as settled by R81. Its frame is closed; when it is RUNNING and neither clipped
figure is 0, its LINE entries leave both queues, and its MARK is appended, the frame open with that size, or dropped (R41,
R90, R91). -/
def State.FrameBegun (s : State) (p : PortId) (q : InPort) (i : Nat) (k : Stream) (t : State) : Prop :=
  let closed : Stream := { k with frame := none, asm := [], drop := false }
  let port : Stream → Port := fun x => .input { q with streams := q.streams.set i x }
  let c := s.linesGone (streamIndex p i)
  ((q.geometry = none ∨ k.state ≠ .running) → t = s.setPort p (port closed)) ∧
  ∀ g, q.geometry = some g → k.state = .running →
    let columns :=
      if g.width ≤ k.win.x0 + k.win.phase then 0 else (g.width - 1 - k.win.x0 - k.win.phase) / k.win.step + 1
    let size : Size := { width := min k.win.width columns, height := min k.win.height (g.height - k.win.y0) }
    let mark : PicEntry :=
      { isMark := true, cls := k.win.cls, index := streamIndex p i, len := 1, frame := q.counter, line := 0
        width := size.width, fmt := k.win.fmt, slot := 0, height := size.height, entryTime := 0 }
    let room : Prop :=
      (k.win.cls = .safe ∧ c.sched.safeQ.length < 16) ∨ (k.win.cls ≠ .safe ∧ c.sched.normalQ.length < 48)
    ((size.width = 0 ∨ size.height = 0) → t = s.setPort p (port closed)) ∧
    (1 ≤ size.width → 1 ≤ size.height → room →
      t = { c.setPort p (port { closed with frame := some size }) with
        sched := { c.sched with
          safeQ := c.sched.safeQ ++ (if k.win.cls = .safe then [mark] else [])
          normalQ := c.sched.normalQ ++ (if k.win.cls = .safe then [] else [{ mark with entryTime := s.tick }]) } }) ∧
    (1 ≤ size.width → 1 ≤ size.height → ¬room →
      t = { c.setPort p (port { closed with drop := true, lostMarks := holdInc k.lostMarks }) with
        att := { s.att with pending := s.att.pending ||| 0x0200#16 } })

/-- RESET_N is high: the part runs. -/
abbrev State.running (s : State) : Prop := s.node.held = false

/-- Nothing is due on an output port: no deadline, no silence, no run-out holdover, no stretch at its limit. -/
def OutPort.quiet (now : Word) (o : OutPort) : Bool :=
  !o.deadlineDue now && !o.main.silenceDue && !o.overlay.any Sink.silenceDue &&
    !o.lock.runOut o.cfg && !o.limitReached .acquire &&
    !o.limitReached .track

/-- Nothing is due on a pixel port. -/
def Port.quiet (now : Word) : Port → Bool
  | .output o => o.quiet now
  | .input q => !q.silent
  | .unused _ => true

/-- No event is due that the next tick would have to take first (log 2). -/
structure State.Quiet (s : State) : Prop where
  entry : s.entryDue .mute = false ∧ s.entryDue .standby = false
  starved : s.starvedDue = false
  yield : s.yieldDue = false
  census : s.censusDue = false
  table : s.view.table.all (fun e => !e.expired s.tick) = true
  messages : s.svc.outbox.all (fun m => !m.timedOut s.tick) = true
  reverse : s.reverseDue = false
  wake : s.wakeDue = false
  portA : s.portA.quiet s.tick = true
  portB : s.portB.quiet s.tick = true

/-- t is s after Camera Priority's sources have taken the values c (R152), on ports with nothing due, what was due having
been taken first (log 2). -/
structure State.CameraMoves (s : State) (c : CameraControl) (t : State) : Prop where
  rest : t.camera = c ∧ t.svc = s.svc ∧ t.tick = s.tick ∧ ((∀ e, s.entryDue e = false) → t.link = s.link)
  /-- no engage or release event, or no camera-mode port: the sources alone change -/
  same : (s.hasCamera = false ∨ s.camera.engaged = c.engaged) → t = { s with camera := c }
  /-- an engage event in RUN or MUTE, with no entry that has still to be taken (R154, R155, R159, R178) -/
  engage : (s.node.state = .run ∨ s.node.state = .mute) → (∀ e, s.entryDue e = false) → s.hasCamera = true →
    s.camera.engaged = false → c.engaged = true →
    t.isPending .cameraChange = true ∧ t.node.state = s.node.state ∧ t.node.waiting ≠ some .standby ∧
    ∀ p o, s.port p = .output o →
      (o.cfg.camMode = .full → t.view.demand = true ∧ (o.quiet s.tick = true →
        ∃ o', t.port p = .output o' ∧ o'.main.active = some o.cfg.camStream ∧ o'.main.shadow = none ∧
          o'.pres.blank = 0 ∧
          o'.cam = { o.cam with
            state := .switching, deadline := some (s.tick + BitVec.ofNat 32 (o.cfg.deadlineUnits * 10000))
            resume := some
              { sub := (match o.main.shadow with | some v => v.sub | none => o.main.active), x := o.main.x
                y := o.main.y } } ∧
          (o.main.active = some o.cfg.camStream →
            o'.lock = o.lock ∧ o'.main.cur = o.main.cur ∧ o'.pres.cutDone = o.pres.cutDone) ∧
          (o.main.active ≠ some o.cfg.camStream → o'.lock.state = .acquire ∧ o'.lock.integ = 0 ∧
            o'.main.cur = none ∧ o'.main.queue = [] ∧ (o.pres.pos ≠ .stopped → o'.pres.cutDone = true) ∧
            (o.pres.cutDone = false → o.pres.pos = .active → 0 < o.pres.nextLine →
              o'.pres.nextLine = o.cfg.va ∧ (o.pres.pixel < o.cfg.ht → o'.pres.pos = .active) ∧
              (o.cfg.ht ≤ o.pres.pixel → o'.pres.pos = .blanking ∧ o'.pres.pixel = o.pres.pixel - o.cfg.ht ∧
                o'.pres.driven = [] ∧ o'.pres.ahead = []))))) ∧
      (∀ k, o.cfg.camMode = .inset → o.overlay = some k → t.view.demand = true ∧ (o.quiet s.tick = true →
        ∃ o' k', t.port p = .output o' ∧ o'.overlay = some k' ∧ k'.active = some o.cfg.camStream ∧ k'.shadow = none ∧
          k'.x = o.cfg.camX ∧ k'.y = o.cfg.camY ∧ o'.main = o.main ∧ o'.lock = o.lock ∧ o'.pres = o.pres ∧
          o'.cam =
            { state := .switching, deadline := some (s.tick + BitVec.ofNat 32 (o.cfg.deadlineUnits * 10000))
              resume := some (k.shadow.getD { sub := k.active, x := k.x, y := k.y }), insetHold := true })) ∧
      (o.cfg.camMode = .none → t.port p = .output o)
  /-- an engage event in STANDBY wakes the node first (R159, R179) -/
  wakes : s.node.state = .standby → s.hasCamera = true → s.camera.engaged = false → c.engaged = true →
    t.isPending .cameraChange = true ∧
    t.node.state = (if s.view.mutePending then .mute else .run) ∧ t.node.wakeFound = false ∧
    t.sched.credit = s.cap ∧ t.view.mutePending = false ∧
    ∀ p o, s.port p = .output o → o.cfg.camMode = .full → t.view.demand = true ∧
      ∃ o', t.port p = .output o' ∧ o'.pres.stopPending = false ∧ o'.main.active = some o.cfg.camStream ∧
        o'.main.shadow = none ∧ o'.pres.blank = 0 ∧ o'.cam.state = .switching ∧
        o'.cam.deadline = some (s.tick + BitVec.ofNat 32 (o.cfg.deadlineUnits * 10000)) ∧
        (o.pres.pos = .stopped → o'.pres.pos = .added ∨ o'.pres.pos = .active)
  /-- a release event (R157, R159, R96) -/
  release : s.hasCamera = true → s.camera.engaged = true → c.engaged = false →
    t.isPending .cameraChange = true ∧ t.node = s.node ∧ t.view.demand = s.view.table.any TableEntry.demand ∧
    ∀ p o, s.port p = .output o → o.cfg.camMode ≠ .none → o.quiet s.tick = true →
      ∃ o', t.port p = .output o' ∧ o'.cam.state = .idle ∧ o'.main.active = o.main.active ∧
        o'.cam.insetHold = o.cam.insetHold ∧ o'.lock = o.lock ∧ o'.pres = o.pres ∧
        ∀ v, o.cam.state ≠ .idle → o.cam.resume = some v →
          o'.cam.resume = none ∧
          (o.cfg.camMode = .full → o'.main =
            if o.main.shadow = none ∧ o.main.active = v.sub then o.main
            else { o.main with shadow := some v }) ∧
          ∀ k, o.cfg.camMode = .inset → o.overlay = some k → o'.overlay = some
            (if k.shadow = none ∧ k.active = v.sub ∧ k.x = v.x ∧ k.y = v.y then k
            else { k with shadow := some v })

end Sys2Proof.Machine
end

