-- ==== Sys2Proof/Certificates/Slice0/Obligations.lean ====
section
/-! DEFINITION. The statements about the DSM-614 for the provers. -/

open Sys2Proof Sys2Proof.Machine

/-! ## The queue and the held part -/

/-- A step runs the command at the front of the queue on the state with the queue's rest; an empty queue idles (the
model's choice, log 3). -/
def Obligations.StepRunsFront : Prop :=
  (∀ (c : Instr) (rest : List Instr) (s : State),
    Sys2Proof.Machine.step { s with pending := c :: rest } = exec c { s with pending := rest }) ∧
  ∀ s : State, s.pending = [] → Sys2Proof.Machine.step s = .next s

/-- Every command answers a next state and leaves the queue as it was. That a command answers in every state is the
model's choice (log 1: without the manual's condition it changes nothing; log 4), and so is that it leaves the queue to the
sender (log 34; a cold reset, log 35). -/
def Obligations.EveryCommandAnswers : Prop :=
  ∀ (c : Instr) (s : State), ∃ t, exec c s = .next t ∧ t.pending = s.pending

/-! ## Reset and image -/

/-- Cold reset puts every block at its cold-reset value, whatever the part held (R175, R16, R48, R56, R65, R72, R92,
R112, R161, R174); while RESET_N is low nothing but its release or another cold reset does anything. The model's choices in
it: the commands that wait, the levels on the pins and the model's count of free values stay (log 35); the station number
before the straps are read is 0, the flash port is not selected and the bytes on SDO are none (log 5); a command that the
held part has no event for changes nothing (log 1). -/
def Obligations.ColdResetSetsAll : Prop :=
  (∀ s : State, exec .coldReset s =
    .next { State.reset with pending := s.pending, pins := s.pins, free := s.free }) ∧
  ∀ (c : Instr) (s : State), s.node.held = true → c ≠ .coldReset → (∀ n, c ≠ .resetRelease n) → exec c s = .next s

/-- The release of RESET_N reads the straps, enters LOADING, sends IDLE and begins the image read (R175). -/
def Obligations.ResetReleaseLoads : Prop :=
  ∀ (s : State) (straps : StationNo), s.node.held = true →
    exec (.resetRelease straps) s =
      .next { s with
        node := { s.node with
                  held := false, state := .loading, station := straps
                  flash := { selected := true, sent := [0x03#8, 0#8, 0#8, 0#8] } }
        link := { s.link with out := .idle } }

/-- An accepted image takes a loading node to RUN (R176): CAP words of credit, the configuration and the enable set
taken, the nonce drawn from the seeded generator, the ring FORMING, the census timer at 1 to 64; the ring link, the
service port's lists and the pending causes stay as they are. Each pixel port is what its section says: without a
direction; an input with its windows IDLE and its measurement begun (R92); or an output whose sink records hold their
initial subscriptions and positions (R94), whose Frame Lock is FREE, or ACQUIRE when MAIN has a stream, its accumulator running on from where it was held (R131),
and whose first output frame has started (R149), its dither generator seeded in every dither mode (R146). The image check admits T from 2 (R115). -/
def Obligations.ImageAcceptedRuns : Prop :=
  ∀ (s : State) (bytes : List Byte) (i : Image), s.running → s.node.state = .loading →
    judgeFlash bytes = .accepted i →
    ∃ t, exec (.imageAccepted bytes) s = .next t ∧
      t.node.state = .run ∧ t.node.station = s.node.station ∧ t.node.ring = some i.ring ∧
      t.sched.credit = i.ring.cap ∧ t.att.enable = i.enable ∧ t.att.pending = s.att.pending ∧
      t.view.nonce = some (advance (seedFor i.ring.seed s.node.station)) ∧ t.view.ring = .forming ∧
      t.view.outstanding = false ∧ t.view.missed = 0 ∧ t.view.table = [] ∧
      (∃ n, t.view.timer = some n ∧ 1 ≤ n ∧ n ≤ 64) ∧
      t.link = s.link ∧ t.svc = s.svc ∧ t.tick = s.tick ∧ t.camera = s.camera ∧
      ∀ p, (i.port p = .unused → ∀ k, s.port p = .unused k → t.port p = .unused k) ∧
        (∀ c ws, i.port p = .input c ws →
          t.port p = .input
            { cfg := c, geometry := none, lines := 0, x := 0, maxW := 0, counter := 0, measuring := true, silence := none
              streams := ws.map (fun w =>
                { win := w, state := .idle, frame := none, drop := false, asm := [], lostLines := 0, lostMarks := 0 }) }) ∧
        ∀ c m v, i.port p = .output c m v → 2 ≤ c.t →
          ∃ o, t.port p = .output o ∧ o.cfg = c ∧ o.main.cfg = m ∧ o.main.active = m.initSub ∧ o.main.shadow = none ∧
            o.main.cur = none ∧ o.main.presented = none ∧ o.main.queue = [] ∧ o.main.source = .absent ∧
            o.overlay.map Sink.cfg = v ∧
            (∀ k, o.overlay = some k → k.active = k.cfg.initSub ∧ k.x = k.cfg.initX ∧ k.y = k.cfg.initY ∧
              k.shadow = none ∧ k.cur = none ∧ k.presented = none ∧ k.queue = [] ∧ k.source = .absent) ∧
            o.lock.inc = BitVec.ofNat 32 c.incNom ∧ (∀ k, s.port p = .unused k → o.lock.acc = k.acc) ∧ o.lock.integ = 0 ∧ o.lock.limited = .clear ∧
            o.lock.locked = false ∧ o.lock.state = (if m.initSub.isSome then .acquire else .free) ∧
            o.pres.pos = (if m.initSub.isSome then .added else .active) ∧ o.pres.nextLine = 0 ∧ o.pres.blank = 0 ∧
            o.pres.fillFrame = false ∧ o.pres.lastLine = List.replicate c.ha c.fill ∧ o.pres.repeated = 0 ∧
            o.pres.underrun = 0 ∧ o.pres.gen = (if c.ditherSeed = 0 then 0xFFFF#16 else c.ditherSeed) ∧
            o.cam.state = .idle ∧ o.cam.resume = none ∧ o.cam.insetHold = false

/-- A rejected image takes a loading node to FALLBACK (R176): nothing of the image is used; the generator is seeded
from FFFFh and the station number (R59), the nonce drawn, the census timer loaded. An image is judged bad by its header
alone when its version is not 1 or its length is above 1024 or too small for the header, the ring section and the check
word; a whole image is bad when its words do not sum to 0, when a section has a kind, an index or a word count that 12.7
does not give, when two sections have the same kind and index, when the ring section is missing, or when a value lies
outside what R176, R79, R94, R115, R133, R153 and R184 admit: whatever image is accepted meets all of these, the values
taken from it and its sections themselves, the latter also where 12.7 gives a field codes of its own or a field has more
bits than its range needs (of a colour's word bits 31 and 30 are not looked at, of the dither seed's all are: the model's
choice, log 55; nor is the inset position of a MAIN section, its choice too, log 58); the bytes of word 13 that hold the
camera mode and the camera stream id are those of log 52 (deduced). -/
def Obligations.ImageRejectedFallsBack : Prop :=
  (∀ (s : State) (bytes : List Byte), s.running → s.node.state = .loading → judgeFlash bytes = .rejected →
    exec (.imageRejected bytes) s =
      .next { s with
        node := { s.node with state := .fallback, flash := { s.node.flash with selected := false } }
        view := StationView.start (seedFor 0xFFFF#16 s.node.station) none false }) ∧
  (∀ (w : Word) (more : List Byte),
    (imageVersion w ≠ 1 ∨ 1024 < imageLength w ∨ imageLength w < 7) →
    judgeFlash (wordBytes w ++ more) = .rejected) ∧
  (∀ ws : List Word, wordSum ws ≠ 0 → judgeWords ws = .rejected) ∧
  (∀ ws : List Word, sectionsOf ws.length (ws.drop 1).dropLast = none → judgeWords ws = .rejected) ∧
  (∀ (ws : List Word) (ss : List Section), sectionsOf ws.length (ws.drop 1).dropLast = some ss →
    ((∃ x ∈ ss, x.shapeOk = false) ∨ ¬(ss.map (fun x => (x.kind, x.index))).Nodup ∨ ∀ x ∈ ss, x.kind ≠ 1) →
    judgeWords ws = .rejected) ∧
  (∀ (ws : List Word) (i : Image), judgeWords ws = .accepted i → i.Checked) ∧
  ∀ (ws : List Word) (ss : List Section) (i : Image), sectionsOf ws.length (ws.drop 1).dropLast = some ss →
    judgeWords ws = .accepted i → ∀ x ∈ ss, Section.Checked ss x

/-- One advance of the ring generator moves its value one place toward its low end and combines it with B400h when the bit
moved out was 1; every seed is nonzero, and an advance of a nonzero value is nonzero (R59), so no nonce is zero (R60). -/
def Obligations.GeneratorNeverZero : Prop :=
  (∀ v : Half, advance v = if v.toNat % 2 = 1 then BitVec.ofNat 16 (v.toNat / 2) ^^^ 0xB400#16
    else BitVec.ofNat 16 (v.toNat / 2)) ∧
  (∀ (base : Half) (n : StationNo), seedFor base n =
    if base = BitVec.ofNat 16 (n.toNat * 4097) then 0xFFFF#16 else base ^^^ BitVec.ofNat 16 (n.toNat * 4097)) ∧
  (∀ (base : Half) (n : StationNo), seedFor base n ≠ 0) ∧
  ∀ v : Half, v ≠ 0 → advance v ≠ 0

/-! ## The receive link -/

/-- The link before UP (R4): a signal takes it from DOWN to ALIGN with the valid-unit count 0; in ALIGN a violation zeroes
the count, another unit raises it, and at 64 the link is UP with an empty violation history. -/
def Obligations.SignalAligns : Prop :=
  (∀ s : State, s.running → s.link.state = .down →
    exec .signalPresent s = .next { s with link := { s.link with state := .align, valid := 0 } }) ∧
  ∀ (s : State) (u : RxUnit), s.running → s.link.state = .align →
    exec (.alignUnit u) s = .next { s with
      link :=
        if u = .violation then { s.link with valid := 0 }
        else if s.link.valid + 1 < 64 then { s.link with valid := s.link.valid + 1 }
        else { s.link with state := .up, valid := 64, violations := [] } }

/-- A link that leaves UP by loss of signal (R5): DOWN, LINK_DOWN raised, the reception over, no error counted; a parcel in
reception ends bad, the entry of a forwarded one recording it, and the copies made of it here are withdrawn (R28, R35). A
link in ALIGN goes to DOWN and nothing else. -/
def Obligations.LossOfSignalEnds : Prop :=
  (∀ s : State, s.running → s.link.state = .up →
    ∃ t, exec .lossOfSignal s = .next t ∧ t.link.state = .down ∧ t.isPending .linkDown = true ∧
      t.link.stage = .outside ∧ t.link.hdrErr = s.link.hdrErr ∧ t.link.payErr = s.link.payErr ∧
      t.link.ovf = s.link.ovf ∧ t.link.tx = s.link.tx ∧ t.sched = s.sched ∧ t.tick = s.tick ∧
      (∀ r, s.link.stage = .body r → r.course = .forward → t.link.transit = mapNewest (TransitEntry.close false) s.link.transit) ∧
      ((∀ r, s.link.stage = .body r → r.course ≠ .forward) → t.link.transit = s.link.transit) ∧
      ∀ r, s.link.stage = .body r → s.EndsBad r t) ∧
  ∀ s : State, s.running → s.link.state = .align →
    exec .lossOfSignal s = .next { s with link := { s.link with state := .down } }

/-- An SOP in UP begins a parcel (R6, R8): it ends a header in reception with a header error, and a parcel in
reception as bad with a payload error, the entry of a forwarded one recording the bad end (R10) and the copies made of it
here withdrawn (R28, R35). Each of the first three header words is then held (R7), with no other effect. -/
def Obligations.SopBegins : Prop :=
  (∀ (s : State) (ws : List Word) (w : Word), s.running → s.link.state = .up → s.link.stage = .header ws →
    ws.length < 3 →
    exec (.headerWord w) s = .next { s with link := { s.link.countUnit with stage := .header (ws ++ [w]) } }) ∧
  ∀ s : State, s.running → s.link.state = .up →
    (s.link.stage = .outside →
      exec .sopReceived s = .next { s with link := { s.link.countUnit with stage := .header [] } }) ∧
    (∀ ws, s.link.stage = .header ws →
      exec .sopReceived s =
        .next { s with link := { s.link.countUnit with stage := .header [], hdrErr := holdInc s.link.hdrErr } }) ∧
    ∀ r, s.link.stage = .body r →
      ∃ t, exec .sopReceived s = .next t ∧ s.EndsBad r t ∧
        t.link = { s.link.countUnit with
          stage := .header []
          payErr := holdInc s.link.payErr
          transit :=
            if r.course = .forward then mapNewest (TransitEntry.close false) s.link.transit else s.link.transit }

/-- An IDLE inside a parcel is absorbed, and an IDLE, a data word or an end symbol outside one is discarded without
count (R6): nothing changes but the ages of the violation history (R4). -/
def Obligations.StrayUnitsAbsorbed : Prop :=
  ∀ (s : State) (u : RxUnit), s.running → s.link.state = .up →
    (u = .idle ∨ (s.link.stage = .outside ∧ ((∃ w, u = .data w) ∨ u = .eop ∨ u = .eopx))) →
    exec (.strayUnit u) s =
      .next { s with link := { s.link with
        violations := (s.link.violations.map (· + 1)).filter (fun a => decide (a < 1024)) } }

/-- A coding violation in UP (R4, R5, R8): the fourth within 1024 units takes the link to ALIGN with LINK_DOWN and no
count; an earlier one outside a parcel only joins the history; in a header it counts a header error, in a parcel a
payload error, and discards to the next SOP. Either way the entry of a forwarded parcel records a bad end (R10), and the
copies made of it here are withdrawn (R28, R35). -/
def Obligations.CodingViolationBreaks : Prop :=
  ∀ s : State, s.running → s.link.state = .up →
    (3 ≤ s.link.countUnit.violations.length →
      ∃ t, exec .codingViolation s = .next t ∧ t.link.state = .align ∧ t.link.valid = 0 ∧
        t.isPending .linkDown = true ∧ t.link.stage = .outside ∧ t.link.hdrErr = s.link.hdrErr ∧
        t.link.payErr = s.link.payErr ∧ t.link.ovf = s.link.ovf ∧ t.link.tx = s.link.tx ∧
        (∀ r, s.link.stage = .body r → r.course = .forward →
          t.link.transit = mapNewest (TransitEntry.close false) s.link.transit) ∧
        ((∀ r, s.link.stage = .body r → r.course ≠ .forward) → t.link.transit = s.link.transit) ∧
        ∀ r, s.link.stage = .body r → s.EndsBad r t) ∧
    (s.link.countUnit.violations.length < 3 →
      (s.link.stage = .outside →
        exec .codingViolation s =
          .next { s with link := { s.link with violations := 0 :: s.link.countUnit.violations } }) ∧
      (∀ ws, s.link.stage = .header ws →
        exec .codingViolation s =
          .next { s with link := { s.link with
            violations := 0 :: s.link.countUnit.violations, stage := .outside, hdrErr := holdInc s.link.hdrErr } }) ∧
      ∀ r, s.link.stage = .body r →
        ∃ t, exec .codingViolation s = .next t ∧ s.EndsBad r t ∧
          t.link = { s.link with
            violations := 0 :: s.link.countUnit.violations
            stage := .outside
            payErr := holdInc s.link.payErr
            transit :=
              if r.course = .forward then mapNewest (TransitEntry.close false) s.link.transit else s.link.transit })

/-! ## The header event -/

/-- A header is bad exactly when its CRC does not match or a field holds a value that R181 lists. A bad header is
discarded (R7): one header error, everything to the next SOP discarded, nothing else. -/
def Obligations.HeaderBadExactly : Prop :=
  (∀ w0 w1 w2 w3 : Word,
    let h := Header.ofWords w0 w1 w2 w3
    headerGood w0 w1 w2 w3 = false ↔
      (h.crc ≠ arrivingCrc w0 w1 w2 w3 ∨ 4 ≤ h.kindCode.toNat ∨
        (h.kindCode.toNat ≤ 1 ∧ 2 ≤ h.clsCode.toNat) ∨
        ((h.kindCode.toNat = 2 ∨ h.kindCode.toNat = 3) ∧ h.clsCode.toNat ≠ 2) ∨
        17 ≤ h.pressure.toNat ∨ 2048 < h.len.toNat ∨
        (h.kindCode.toNat ≤ 1 ∧ (h.fmtCode.toNat = 3 ∨ h.width.toNat = 0 ∨ 2048 < h.width.toNat)) ∨
        (h.kindCode.toNat = 0 ∧ ∃ f, RingFormat.ofCode h.fmtCode.toNat = some f ∧
          h.len.toNat ≠ lineWords f h.width.toNat) ∨
        (h.kindCode.toNat = 1 ∧ h.len.toNat ≠ 1) ∨
        (h.kindCode.toNat = 3 ∧ (h.len.toNat < 2 ∨ 18 < h.len.toNat)))) ∧
  ∀ (s : State) (w0 w1 w2 w3 : Word), s.running → s.link.state = .up → s.link.stage = .header [w0, w1, w2] →
    headerGood w0 w1 w2 w3 = false →
    exec (.headerEvent w3) s =
      .next { s with link := { s.link.countUnit with stage := .outside, hdrErr := holdInc s.link.hdrErr } }

/-- Headers encode and decode without loss: the words of a header give the header back, and a sealed header whose
fields R181 admits arrives good (12.1, 12.4). Both check words are those of 12.4, bit by bit from bit 31 down. -/
def Obligations.HeaderRoundTrip : Prop :=
  (∀ h : Header,
    Header.ofWords h.word0 h.word1 h.word2 h.word3 = h ∧
    (h.fieldsOk = true →
      headerGood h.sealed.word0 h.sealed.word1 h.sealed.word2 h.sealed.word3 = true)) ∧
  (crc16 [] = 0xFFFF#16 ∧ ∀ (ws : List Word) (w : Word), crc16 (ws ++ [w]) =
    (List.range 32).foldl
      (fun (c : Half) (i : Nat) => if c.getLsbD 15 ≠ w.getLsbD (31 - i) then (c <<< 1) ^^^ 0x1021#16 else c <<< 1) (crc16 ws)) ∧
  crc32 [] = 0xFFFFFFFF#32 ∧ ∀ (ws : List Word) (w : Word), crc32 (ws ++ [w]) =
    (List.range 32).foldl
      (fun (c : Word) (i : Nat) => if c.getLsbD 31 ≠ w.getLsbD (31 - i) then (c <<< 1) ^^^ 0x04C11DB7#32 else c <<< 1) (crc32 ws)

/-- A repeater forwards a foreign header with its hop raised and a new CRC, and every other field as it arrived
(R18, R11, R12); it makes no copy, no sighting and holds nothing back. -/
def Obligations.RepeaterForwards : Prop :=
  ∀ (s : State) (w0 w1 w2 w3 : Word), s.running → s.link.state = .up → s.link.stage = .header [w0, w1, w2] →
    headerGood w0 w1 w2 w3 = true → (s.node.state = .loading ∨ s.node.state = .fallback) →
    (Header.ofWords w0 w1 w2 w3).source ≠ s.node.station → (Header.ofWords w0 w1 w2 w3).hop ≠ 15 →
    fillOf s.link.transit + 4 ≤ 4096 →
    let h := Header.ofWords w0 w1 w2 w3
    let h' := Header.sealed { h with hop := h.hop + 1 }
    ∃ t r cut, exec (.headerEvent w3) s = .next t ∧
      t = { s with link := { s.link.countUnit with
              stage := .body r
              transit := s.link.transit ++
                [{ words := [h'.word0, h'.word1, h'.word2, h'.word3], heldBack := none, fin := none, cut := cut }] } } ∧
      r.hdr = h ∧ r.course = .forward ∧ r.repeater = true ∧ r.got = 0 ∧ r.lineTo = [] ∧ r.markTo = [] ∧
      (cut = true ↔ (∃ g, s.link.tx = .between g) ∧ s.link.transit = [] ∧ s.sched.safeQ = [])

/-- A full station forwards a foreign header with its hop raised, its pressure by the table of R22 and a new CRC
(R20, R21, R22); a foreign mark is a sighting that sets YIELD with 500 µs (R23, R51); the last word of a MESSAGE is
held back (R32). The parcel is cut through when the transmitter is between parcels, the transit buffer empty and no SAFE
entry waits (R11). Outside RUN and MUTE no record takes a line or marker (R30), and then, or for another kind than LINE,
the ports stay as they are. -/
def Obligations.FullStationForwards : Prop :=
  ∀ (s : State) (w0 w1 w2 w3 : Word), s.running → s.link.state = .up → s.link.stage = .header [w0, w1, w2] →
    headerGood w0 w1 w2 w3 = true →
    (s.node.state = .run ∨ s.node.state = .mute ∨ s.node.state = .standby) →
    (Header.ofWords w0 w1 w2 w3).source ≠ s.node.station → (Header.ofWords w0 w1 w2 w3).hop ≠ 15 →
    fillOf s.link.transit + 4 ≤ 4096 →
    let h := Header.ofWords w0 w1 w2 w3
    let own : BitVec 5 := BitVec.ofNat 5 (s.node.station.toNat + 1)
    let p : BitVec 5 :=
      if h.pressure = own then 0 else if h.pressure = 0 then (if s.sched.starved then own else 0) else h.pressure
    let h' := Header.sealed { h with hop := h.hop + 1, pressure := p }
    ∃ t r e, exec (.headerEvent w3) s = .next t ∧
      t.link = { s.link.countUnit with stage := .body r, transit := s.link.transit ++ [e] } ∧
      r.hdr = h ∧ r.course = .forward ∧ r.repeater = false ∧ r.got = 0 ∧
      e.words ++ e.heldBack.toList = [h'.word0, h'.word1, h'.word2, h'.word3] ∧
      (e.heldBack.isSome = true ↔ h.kindCode = 3) ∧ e.fin = none ∧
      (e.cut = true ↔ (∃ g, s.link.tx = .between g) ∧ s.link.transit = [] ∧ s.sched.safeQ = []) ∧
      t.sched = (if h.pressure ≠ 0 ∧ h.pressure ≠ own then { s.sched with yield := true, yieldTime := 500 } else s.sched) ∧
      t.node = s.node ∧ t.view = s.view ∧ t.svc = s.svc ∧ t.store = s.store ∧ t.camera = s.camera ∧ t.tick = s.tick ∧
      ((s.node.state = .standby ∨ h.kindCode ≠ 0) →
        r.lineTo = [] ∧ t.portA = s.portA ∧ t.portB = s.portB ∧ t.att = s.att) ∧
      ((s.node.state = .standby ∨ h.kindCode ≠ 1) → r.markTo = [])

/-- An own header is stripped and a foreign one at hop 15 is an orphan (R18, R20, R24, R27): the parcel is received
and none of it enters the transit buffer. A foreign mark on it is a sighting all the same, which sets YIELD with 500 µs
(R23, R51); a repeater makes none. -/
def Obligations.StripsAndOrphans : Prop :=
  ∀ (s : State) (w0 w1 w2 w3 : Word), s.running → s.link.state = .up → s.link.stage = .header [w0, w1, w2] →
    headerGood w0 w1 w2 w3 = true →
    ((Header.ofWords w0 w1 w2 w3).source = s.node.station ∨ (Header.ofWords w0 w1 w2 w3).hop = 15) →
    let h := Header.ofWords w0 w1 w2 w3
    let station : Prop := s.node.state = .run ∨ s.node.state = .mute ∨ s.node.state = .standby
    let own : BitVec 5 := BitVec.ofNat 5 (s.node.station.toNat + 1)
    ∃ t r, exec (.headerEvent w3) s = .next t ∧ t.link = { s.link.countUnit with stage := .body r } ∧
      r.hdr = h ∧ r.got = 0 ∧ r.course = (if h.source = s.node.station then .strip else .orphan) ∧
      (r.repeater = false ↔ station) ∧ r.lineTo = [] ∧ r.markTo = [] ∧
      (station → h.pressure ≠ 0 → h.pressure ≠ own → t.sched = { s.sched with yield := true, yieldTime := 500 }) ∧
      ((¬station ∨ h.pressure = 0 ∨ h.pressure = own) → t.sched = s.sched) ∧
      t.portA = s.portA ∧ t.portB = s.portB ∧ t.view = s.view ∧ t.svc = s.svc ∧ t.node = s.node ∧ t.store = s.store ∧
      t.camera = s.camera ∧ t.att = s.att ∧ t.tick = s.tick

/-! ## Data words after the header -/

/-- What the transit buffer and the length end early. A forwarded header that finds the fill above 4092 discards the
parcel whole, and a data word of a forwarded parcel that finds the fill at 4096 truncates it (R12): one overflow, the
truncated entry's end recorded as bad at once, everything to the next SOP discarded. A data word beyond the check word
ends the parcel bad at once (R9): one payload error, the receiver outside, and no overflow even where the fill is at 4096
(the model's choice, log 37). A message's first payload word that finds the fill at 4096 is decided first, so that the held
header word leaves with its final flags, and then truncates the parcel, an inbox entry it reserved being withdrawn (the
model's choice, log 10); of these flags a unicast keeps bits 29 to 24 as they arrived (the model's choice, log 48), and a
count at 15 stays there (the model's choice, log 20). Each of these ends is a bad one, at which the copies made here are
withdrawn (R28, R35): a line discarded at its header leaves no record of it, whether or not it was offered before (the
model's choice, log 10). -/
def Obligations.OverrunEnds : Prop :=
  (∀ (s : State) (w0 w1 w2 w3 : Word), s.running → s.link.state = .up → s.link.stage = .header [w0, w1, w2] →
    headerGood w0 w1 w2 w3 = true →
    (Header.ofWords w0 w1 w2 w3).source ≠ s.node.station → (Header.ofWords w0 w1 w2 w3).hop ≠ 15 →
    4092 < fillOf s.link.transit →
    ∃ t, exec (.headerEvent w3) s = .next t ∧
      t.link = { s.link.countUnit with stage := .outside, ovf := holdInc s.link.ovf } ∧ t.svc = s.svc ∧
      ∀ p o, s.port p = .output o → o.main.detached = [] → (∀ x ∈ o.main.queue, x.full = true) →
        (∀ k, o.overlay = some k → k.detached = [] ∧ ∀ x ∈ k.queue, x.full = true) →
        ∃ o', t.port p = .output o' ∧ o'.main.queue = o.main.queue ∧ o'.main.detached = [] ∧
          o'.overlay.map Sink.queue = o.overlay.map Sink.queue ∧
          o'.overlay.map Sink.detached = o.overlay.map Sink.detached) ∧
  (∀ (s : State) (r : Reception) (w : Word), s.running → s.link.state = .up → s.link.stage = .body r →
    r.got ≤ r.hdr.len.toNat → r.course = .forward → (r.kind ≠ .message ∨ r.got ≠ 0 ∨ r.repeater = true) →
    4096 ≤ fillOf s.link.transit →
    ∃ t, exec (.payloadWord w) s = .next t ∧ s.EndsBad r t ∧
      t.link = { s.link.countUnit with
        stage := .outside, ovf := holdInc s.link.ovf
        transit := mapNewest (TransitEntry.close false) s.link.transit }) ∧
  (∀ (s : State) (r : Reception) (w : Word), s.running → s.link.state = .up → s.link.stage = .body r →
    r.course = .forward → r.repeater = false → r.kind = .message → r.got = 0 → 4096 ≤ fillOf s.link.transit →
    let raised : BitVec 4 → BitVec 4 := fun c => if c = 15 then 15 else c + 1
    ∃ t f, exec (.payloadWord w) s = .next t ∧
      t.link = { s.link.countUnit with
        stage := .outside, ovf := holdInc s.link.ovf
        transit := mapNewest (fun e => { e with
          words := e.words ++ (if e.heldBack.isSome then [(Header.sealed { r.fwd with flags := f }).word3] else [])
          heldBack := none, fin := some false }) s.link.transit } ∧
      (if messageKindCode w ≤ 3 ∧ messageTarget w = s.node.station.toNat then
        f = (if r.fwd.flags.getLsbD 7 = true ∨ r.fwd.flags.getLsbD 6 = true then r.fwd.flags
          else if s.svc.inbox.length < 8 then r.fwd.flags ||| 0x80#8 else r.fwd.flags ||| 0x40#8)
      else if messageKindCode w ≤ 3 ∧ messageTarget w = 31 then
        flagCounts f =
          (if s.svc.inbox.length < 8 then (raised (flagCounts r.fwd.flags).1, (flagCounts r.fwd.flags).2)
          else ((flagCounts r.fwd.flags).1, raised (flagCounts r.fwd.flags).2))
      else f = r.fwd.flags) ∧
      ((∀ x ∈ s.svc.inbox, x.complete = true) → t.svc = s.svc) ∧ t.att = s.att ∧ t.node = s.node ∧
      t.portA = s.portA ∧ t.portB = s.portB) ∧
  ∀ (s : State) (r : Reception) (w : Word), s.running → s.link.state = .up → s.link.stage = .body r →
    r.hdr.len.toNat + 1 ≤ r.got →
    ∃ t, exec (.payloadWord w) s = .next t ∧ s.EndsBad r t ∧
      t.link = { s.link.countUnit with
        stage := .outside, payErr := holdInc s.link.payErr
        transit :=
          if r.course = .forward then mapNewest (TransitEntry.close false) s.link.transit else s.link.transit }

/-- A data word of a parcel other than a LINE, or the check word of any, when no message decision is due (R9, R12): it
feeds the CRC and joins the kept payload, or is compared as the check word; of a forwarded parcel it joins the transit
entry. -/
def Obligations.PayloadWordTaken : Prop :=
  ∀ (s : State) (r : Reception) (w : Word), s.running → s.link.state = .up → s.link.stage = .body r →
    r.got ≤ r.hdr.len.toNat → (r.kind ≠ .line ∨ r.got = r.hdr.len.toNat) →
    (r.kind ≠ .message ∨ r.got ≠ 0 ∨ r.course ≠ .forward ∨ r.repeater = true) →
    (r.course = .forward → fillOf s.link.transit < 4096) →
    exec (.payloadWord w) s =
      .next { s with link := { s.link.countUnit with
        stage := .body
          (if r.got < r.hdr.len.toNat then
            { r with got := r.got + 1, crc := crc32Word r.crc w, payload := r.payload ++ [w] }
          else { r with got := r.got + 1, checkOk := w == r.crc })
        transit :=
          if r.course = .forward then
            mapNewest (fun e => { e with words := e.words ++ [w] }) s.link.transit
          else s.link.transit } }

/-- A LINE at the sink records. At its header event, in RUN or MUTE, it is offered to the record of either role that names
its stream (R28): refused when the record holds another frame or none, holds that line or a later one, or the line lies at
or above the height limit (R100); an overrun when no slot of the allotment is free, STORE_OVERRUN being raised at the
first of a frame (R101); else taken, a FILLING record of the lowest free slot joining the queue (R95). The records that
took it are those of the reception. A payload word's pixels then join each FILLING record of theirs, up to its width
(R102), and the word joins the parcel's transit entry, the link counts staying (R12); what pixels a word carries is the
packing of 12.3 with the expansion of R144. -/
def Obligations.LineWordReachesSink : Prop :=
  (∀ (s : State) (w0 w1 w2 w3 : Word) (p : PortId) (role : Role) (o : OutPort) (k : Sink), s.running →
    s.link.state = .up → s.link.stage = .header [w0, w1, w2] → headerGood w0 w1 w2 w3 = true →
    (s.node.state = .run ∨ s.node.state = .mute) →
    (Header.ofWords w0 w1 w2 w3).source ≠ s.node.station → (Header.ofWords w0 w1 w2 w3).hop ≠ 15 →
    fillOf s.link.transit + 4 ≤ 4096 → (Header.ofWords w0 w1 w2 w3).kindCode = 0 →
    s.port p = .output o → o.sink role = some k →
    let h := Header.ofWords w0 w1 w2 w3
    let y := h.line.toNat
    let limit := match role with | .main => o.cfg.va | .overlay => o.cfg.va - k.y
    let others : Bool :=
      (match k.cur with | none => true | some f => f.no != h.frame) ||
      (match k.last with | none => false | some n => decide (y ≤ n)) || decide (limit ≤ y)
    let used := k.queue.map LineRec.slot ++ k.detached.map LineRec.slot
    ∃ t r o' k', exec (.headerEvent w3) s = .next t ∧ t.link.stage = .body r ∧ t.port p = .output o' ∧
      o'.sink role = some k' ∧ o'.cfg = o.cfg ∧ o'.lock = o.lock ∧ o'.pres = o.pres ∧ o'.cam = o.cam ∧
      ((k.active ≠ some h.stream ∨ others = true) → k' = k ∧ ⟨p, role⟩ ∉ r.lineTo) ∧
      (k.active = some h.stream → others = false →
        ((∀ n, k.cfg.first ≤ n → n < k.cfg.first + k.cfg.count → n ∈ used) →
          k' = { k with last := some y, torn := true, overrun := true, overrunCount := holdInc k.overrunCount } ∧
            ⟨p, role⟩ ∉ r.lineTo ∧ (k.overrun = false → t.isPending .storeOverrun = true)) ∧
        ∀ n, k.cfg.first ≤ n → n < k.cfg.first + k.cfg.count → n ∉ used →
          (∀ m, k.cfg.first ≤ m → m < n → m ∈ used) →
          k' = { k with
            last := some y
            torn := k.torn || y != (match k.last with | none => 0 | some z => z + 1)
            queue := k.queue ++
              [{ slot := n, frame := h.frame, line := y, width := h.width.toNat, fmt := h.fmt, full := false
                 pixels := [] }] } ∧
            ⟨p, role⟩ ∈ r.lineTo)) ∧
  (∀ (s : State) (r : Reception) (w : Word), s.running → s.link.state = .up → s.link.stage = .body r → r.kind = .line →
    r.got < r.hdr.len.toNat → r.lineTo.Nodup → (r.course = .forward → fillOf s.link.transit < 4096) →
    let ps := (unpackWord r.hdr.fmt r.carry w).1
    let written : Sink → Sink := fun k =>
      { k with
        queue := k.queue.map (fun x => if x.full then x else { x with pixels := (x.pixels ++ ps).take x.width })
        detached := k.detached.map (fun x => if x.full then x else { x with pixels := (x.pixels ++ ps).take x.width }) }
    ∃ t, exec (.payloadWord w) s = .next t ∧
      t.link = { s.link.countUnit with
        stage := .body
          { r with got := r.got + 1, crc := crc32Word r.crc w, carry := (unpackWord r.hdr.fmt r.carry w).2 }
        transit :=
          if r.course = .forward then mapNewest (fun e => { e with words := e.words ++ [w] }) s.link.transit
          else s.link.transit } ∧
      t.att = s.att ∧ t.sched = s.sched ∧ t.view = s.view ∧ t.svc = s.svc ∧ t.store = s.store ∧
      ∀ p, (∀ o, s.port p = .output o → t.port p = .output { o with
          main := if ⟨p, .main⟩ ∈ r.lineTo then written o.main else o.main
          overlay := if ⟨p, .overlay⟩ ∈ r.lineTo then o.overlay.map written else o.overlay }) ∧
        ((∀ o, s.port p ≠ .output o) → t.port p = s.port p)) ∧
  ∀ (c : List Byte) (w : Word),
    let e8 : Nat → Component := fun v => BitVec.ofNat 10 (v * 4 + v / 64)
    let half : Half → Pixel := fun v =>
      { r := BitVec.ofNat 10 ((v.toNat / 2048) * 33), g := BitVec.ofNat 10 ((v.toNat / 32 % 64) * 16 + v.toNat / 32 % 64 / 4)
        b := BitVec.ofNat 10 ((v.toNat % 32) * 33) }
    unpackWord .p30 c w =
      ([{ r := w.extractLsb' 20 10, g := w.extractLsb' 10 10, b := w.extractLsb' 0 10 }], []) ∧
    unpackWord .p16 c w = ([half (w.extractLsb' 16 16), half (w.extractLsb' 0 16)], []) ∧
    (let b := c ++ [w.extractLsb' 24 8, w.extractLsb' 16 8, w.extractLsb' 8 8, w.extractLsb' 0 8]
     let u := unpackWord .p24 c w
     u.1.length = b.length / 3 ∧ u.2 = b.drop (3 * (b.length / 3)) ∧
      ∀ j, j < b.length / 3 → u.1[j]? = some
        { r := e8 (b.getD (3 * j) 0).toNat, g := e8 (b.getD (3 * j + 1) 0).toNat
          b := e8 (b.getD (3 * j + 2) 0).toNat })

/-- The first payload word of a message that a full station forwards decides it (R32, R33, R34): a unicast to this
station with no flag set is taken while the inbox holds fewer than 8, else refused; one already decided passes as it
arrived; a broadcast raises its taken or refused count, which stays at 15 when it is there (the model's choice, log 20,
as is the decision's place before a full buffer, log 10: OverrunEnds); any other message passes as it arrived. The held header
word is released with those flags, of which a unicast's bits 29 to 24 stay as they arrived (the model's choice, log 48). The
reserved entry holds the source, kind and tag of the message and whether it is a broadcast, and no words yet. -/
def Obligations.MessageDecided : Prop :=
  ∀ (s : State) (r : Reception) (w : Word), s.running → s.link.state = .up → s.link.stage = .body r →
    r.course = .forward → r.repeater = false → r.kind = .message → r.got = 0 → 1 ≤ r.hdr.len.toNat →
    fillOf s.link.transit < 4096 →
    let raised : BitVec 4 → BitVec 4 := fun c => if c = 15 then 15 else c + 1
    ∃ t r', exec (.payloadWord w) s = .next t ∧ t.link.stage = .body r' ∧
      t.link.transit = mapNewest (fun e =>
        { e with
          words := e.words ++ (if e.heldBack.isSome then [r'.fwd.word3] else []) ++ [w], heldBack := none })
        s.link.transit ∧
      r'.fwd = Header.sealed { r.fwd with flags := r'.fwd.flags } ∧
      (if messageKindCode w ≤ 3 ∧ messageTarget w = s.node.station.toNat then
        if r.fwd.flags.getLsbD 7 = true ∨ r.fwd.flags.getLsbD 6 = true then
          r'.fwd.flags = r.fwd.flags ∧ r'.addressed = false ∧ t.svc = s.svc
        else if s.svc.inbox.length < 8 then
          r'.fwd.flags = r.fwd.flags ||| 0x80#8 ∧ r'.addressed = true ∧ r'.reserved = true ∧
            ∃ e : InMessage, t.svc = { s.svc with inbox := s.svc.inbox ++ [e] } ∧ e.complete = false ∧
              e.source = r.hdr.source ∧ e.kind.code.toNat = messageKindCode w ∧ e.tag = messageTag w ∧ e.words = [] ∧
              e.broadcast = false
        else
          r'.fwd.flags = r.fwd.flags ||| 0x40#8 ∧ r'.addressed = true ∧ r'.reserved = false ∧ t.svc = s.svc
      else if messageKindCode w ≤ 3 ∧ messageTarget w = 31 then
        r'.addressed = true ∧
        if s.svc.inbox.length < 8 then
          (flagCounts r'.fwd.flags).1 = raised (flagCounts r.fwd.flags).1 ∧
          (flagCounts r'.fwd.flags).2 = (flagCounts r.fwd.flags).2 ∧ r'.reserved = true ∧
            ∃ e : InMessage, t.svc = { s.svc with inbox := s.svc.inbox ++ [e] } ∧ e.complete = false ∧
              e.source = r.hdr.source ∧ e.kind.code.toNat = messageKindCode w ∧ e.tag = messageTag w ∧ e.words = [] ∧
              e.broadcast = true
        else
          (flagCounts r'.fwd.flags).1 = (flagCounts r.fwd.flags).1 ∧
          (flagCounts r'.fwd.flags).2 = raised (flagCounts r.fwd.flags).2 ∧ r'.reserved = false ∧ t.svc = s.svc
      else r'.fwd.flags = r.fwd.flags ∧ r'.addressed = false ∧ r'.reserved = false ∧ t.svc = s.svc)

/-! ## The end of a parcel -/

/-- An end symbol ends the reception (R8, R9, R10): in a header it counts a header error; after it the parcel is good
exactly when the symbol is EOP, n + 1 data words followed the header and the check word matched; an EOP that does not
end it good counts a payload error, an EOPX counts nothing; the entry of a forwarded parcel records the end. At a bad end
the copies made here are withdrawn, and an own message is DAMAGED. Nothing but the link changes at the end of an orphan, of a
stripped LINE or MARK, of a repeater's parcel other than a stripped CENSUS, or at the bad end of any MARK or CENSUS (R18, R24,
R25, R27, R29, R31). -/
def Obligations.EndSymbolEnds : Prop :=
  (∀ (s : State) (ws : List Word) (e : EndSymbol), s.running → s.link.state = .up → s.link.stage = .header ws →
    exec (.endEvent e) s =
      .next { s with link := { s.link.countUnit with stage := .outside, hdrErr := holdInc s.link.hdrErr } }) ∧
  ∀ (s : State) (r : Reception) (e : EndSymbol), s.running → s.link.state = .up → s.link.stage = .body r →
    let good : Bool := e == .eop && r.got == r.hdr.len.toNat + 1 && r.checkOk
    ∃ t, exec (.endEvent e) s = .next t ∧
      t.link = { s.link.countUnit with
        stage := .outside
        payErr := if e = .eop ∧ good = false then holdInc s.link.payErr else s.link.payErr
        transit :=
          if r.course = .forward then mapNewest (TransitEntry.close good) s.link.transit else s.link.transit } ∧
      (good = false → s.EndsBad r t) ∧
      ((r.course = .orphan ∨ (r.course = .strip ∧ (r.kind = .line ∨ r.kind = .mark)) ∨
          (r.repeater = true ∧ (r.course ≠ .strip ∨ r.kind ≠ .census)) ∨
          (good = false ∧ (r.kind = .mark ∨ r.kind = .census))) →
        t = { s with link := t.link })

/-- The end of a line at the records of either role that took it (R28, R102): at a good end the FILLING record becomes
FULL; at a bad one it is removed, and the frame is torn when the record was of the current frame; a detached record goes
at either (R97). Every other record stays. -/
def Obligations.LineEndReachesSink : Prop :=
  ∀ (s : State) (r : Reception) (e : EndSymbol), s.running → s.link.state = .up → s.link.stage = .body r →
    r.course = .forward → r.repeater = false → r.kind = .line → r.lineTo.Nodup →
    let good : Bool := e == .eop && r.got == r.hdr.len.toNat + 1 && r.checkOk
    let ended : Sink → Sink := fun k =>
      if good then { k with queue := k.queue.map (fun x => { x with full := true }), detached := [] }
      else
        { k with
          queue := k.queue.filter (fun x => x.full), detached := []
          torn := k.torn || k.queue.any (fun x => !x.full && (k.cur.map FrameInfo.no) == some x.frame) }
    ∃ t, exec (.endEvent e) s = .next t ∧
      (∀ p, (∀ o, s.port p = .output o → t.port p = .output { o with
          main := if ⟨p, .main⟩ ∈ r.lineTo then ended o.main else o.main
          overlay := if ⟨p, .overlay⟩ ∈ r.lineTo then o.overlay.map ended else o.overlay }) ∧
        ((∀ o, s.port p ≠ .output o) → t.port p = s.port p)) ∧
      t.att = s.att ∧ t.sched = s.sched ∧ t.view = s.view ∧ t.svc = s.svc ∧ t.store = s.store

/-- A marker at the sink records. At its header event it is fixed for the records of either role that name its stream
(R29). At its good end it reaches each of these that still names the stream and holds no frame or an earlier one (R103):
the old frame is closed, counted torn when lines at its end are missing; the marker's frame becomes current with its size,
no line taken, torn and overrun clear, marker seen; a LOST source is PRESENT again when the table shows the stream (R109);
GEOMETRY_MISMATCH is raised for a size that does not fit, and the mismatch-reported flag set, so that it is raised once
(R110). At a MAIN record a FREE or HOLDOVER lock enters
ACQUIRE, from HOLDOVER with its integrator, but with 0 when the holdover frame count had reached HOLD_FRAMES (R118); that
expiry, left due, is taken first by the model's choice (log 2). A record that holds the same frame or a later one, or one
exactly 32768 away, or that names another stream by now, refuses the marker and stays as it is; that one which lost the
stream after the header event and names it again by now is given the marker is the model's choice (log 56). A marker whose payload word
gives a height of 0 or above 2048, or another class than its header, reaches no record and ends like any parcel (R182). -/
def Obligations.MarkerAccepted : Prop :=
  (∀ (s : State) (w0 w1 w2 w3 : Word), s.running → s.link.state = .up → s.link.stage = .header [w0, w1, w2] →
    headerGood w0 w1 w2 w3 = true → (s.node.state = .run ∨ s.node.state = .mute) →
    (Header.ofWords w0 w1 w2 w3).source ≠ s.node.station → (Header.ofWords w0 w1 w2 w3).hop ≠ 15 →
    fillOf s.link.transit + 4 ≤ 4096 → (Header.ofWords w0 w1 w2 w3).kindCode = 1 →
    ∃ t r, exec (.headerEvent w3) s = .next t ∧ t.link.stage = .body r ∧ r.markTo.Nodup ∧
      ∀ (p : PortId) (role : Role), (⟨p, role⟩ ∈ r.markTo ↔
        ∃ o k, s.port p = .output o ∧ o.sink role = some k ∧ k.active = some (Header.ofWords w0 w1 w2 w3).stream)) ∧
  (∀ (s : State) (r : Reception) (p : PortId) (role : Role) (o : OutPort) (k : Sink), s.running → s.link.state = .up →
    s.link.stage = .body r → r.course = .forward → r.repeater = false → r.kind = .mark → r.endsGood = true →
    ⟨p, role⟩ ∈ r.markTo → r.markTo.Nodup → s.port p = .output o → o.sink role = some k →
    1 ≤ markHeight (r.payload.headD 0) → markHeight (r.payload.headD 0) ≤ 2048 →
    markClass (r.payload.headD 0) = r.hdr.clsCode.toNat →
    o.main.silent < 3 → (∀ v, o.overlay = some v → v.silent < 3) → (∀ x, o.lock.stretch = some x → x.limit = false) →
    let later : Half → Prop := fun n => 1 ≤ (r.hdr.frame - n).toNat ∧ (r.hdr.frame - n).toNat < 32768
    let f : FrameInfo := { no := r.hdr.frame, width := r.hdr.width.toNat, height := markHeight (r.payload.headD 0) }
    let limit := match role with | .main => o.cfg.va | .overlay => o.cfg.va - k.y
    let tail : Bool :=
      match k.cur with
      | none => false
      | some g => (match k.last with | none => true | some n => decide (n + 1 < min g.height limit))
    let fits : Bool :=
      match role with
      | .main => f.width == o.cfg.ha && f.height == o.cfg.va
      | .overlay => decide (k.x + f.width ≤ o.cfg.ha) && decide (k.y + f.height ≤ o.cfg.va)
    let out : Bool := o.lock.state == .holdover && decide (o.cfg.holdFrames ≤ o.lock.holdCount)
    ∃ t o' k', exec (.endEvent .eop) s = .next t ∧ t.port p = .output o' ∧ o'.sink role = some k' ∧
      o'.pres = o.pres ∧ o'.cam = o.cam ∧ o'.cfg = o.cfg ∧
      (role = .main → ⟨p, .overlay⟩ ∉ r.markTo → o'.overlay = o.overlay) ∧
      (role = .overlay → ⟨p, .main⟩ ∉ r.markTo → o'.main = o.main ∧ (out = false → o'.lock = o.lock)) ∧
      ((k.active ≠ some r.hdr.stream ∨ ∃ g, k.cur = some g ∧ ¬later g.no) →
        k' = k ∧ (role = .main → out = false → o'.lock = o.lock) ∧ (r.markTo = [⟨p, role⟩] → t.att = s.att)) ∧
      (k.active = some r.hdr.stream → (∀ g, k.cur = some g → later g.no) →
        k'.cur = some f ∧ k'.last = none ∧ k'.torn = false ∧ k'.overrun = false ∧
        k'.markerSeen = true ∧ k'.queue = k.queue ∧ k'.presented = k.presented ∧ k'.active = k.active ∧
        k'.tornCount = (if k.torn = true ∨ tail = true then holdInc k.tornCount else k.tornCount) ∧
        (k.source ≠ .lost → k'.source = k.source) ∧
        (k.source = .lost → k'.source =
          if (entryFor s.view.table (sourceOf r.hdr.stream)).any (fun e => e.state == .run &&
            e.offers.any (fun x => x.index == indexOf r.hdr.stream && !x.suspended)) then .present else .lost) ∧
        (role = .main →
          o'.lock.state = (if o.lock.state = .free ∨ o.lock.state = .holdover then .acquire else o.lock.state) ∧
          (o.lock.state = .holdover → o'.lock.integ = if out then 0 else o.lock.integ) ∧
          ((o.lock.state = .acquire ∨ o.lock.state = .track) → o'.lock = o.lock)) ∧
        k'.mismatch = (k.mismatch || !fits) ∧
        (k.mismatch = false → fits = false → t.isPending .geometryMismatch = true) ∧
        (r.markTo = [⟨p, role⟩] →
          t.isPending .geometryMismatch = (s.isPending .geometryMismatch || (!k.mismatch && !fits))))) ∧
  ∀ (s : State) (r : Reception), s.running → s.link.state = .up → s.link.stage = .body r → r.course = .forward →
    r.repeater = false → r.kind = .mark → r.endsGood = true →
    (markHeight (r.payload.headD 0) = 0 ∨ 2048 < markHeight (r.payload.headD 0) ∨
      markClass (r.payload.headD 0) ≠ r.hdr.clsCode.toNat) →
    exec (.endEvent .eop) s = .next { s with link := { s.link.countUnit with
      stage := .outside, transit := mapNewest (TransitEntry.close true) s.link.transit } }

/-- A census copy that is not well formed changes nothing but the link (R68; which that is: CensusRoundTrip). A well-formed
one creates or refreshes the entry of its source (R31, R68, R69): every field from the copy,
the hop distance one above the arriving hop, last seen now; other stations' entries stay. A sink record of either role
that names a stream of that source takes the entry's nonce, forgets its frame when it held another one, and judges its
source (R107): ABSENT becomes PRESENT when the entry shows the stream, PRESENT becomes LOST with SOURCE_LOST when it does
not (R109), LOST stays; a MAIN record that loses its source puts a tracking Frame Lock into HOLDOVER (R119), and a loss that
takes the camera from a port in SHOWING, by that entry to HOLDOVER on a FULL port or of OVERLAY on an INSET port, makes the
port LATE with CAMERA_LATE pending (R156, R160); what was due on the port is taken before it (the model's choice, log 2), so the port is one with
nothing due. The published demand follows the table (R71), and a change of it settles every stream (R81, R82):
a suspended one closes its frame, and its entries leave the queues (R45). -/
def Obligations.CensusCopyRefreshes : Prop :=
  (∀ (s : State) (r : Reception), s.running → s.link.state = .up → s.link.stage = .body r → r.course = .forward →
    r.repeater = false → r.kind = .census → r.endsGood = true → censusOf r.payload = none →
    exec (.endEvent .eop) s = .next { s with link := { s.link.countUnit with
      stage := .outside, transit := mapNewest (TransitEntry.close true) s.link.transit } }) ∧
  ∀ (s : State) (r : Reception) (c : CensusContent), s.running → s.link.state = .up → s.link.stage = .body r →
    r.course = .forward → r.repeater = false → r.kind = .census → r.endsGood = true → censusOf r.payload = some c →
    ∃ t, exec (.endEvent .eop) s = .next t ∧
      entryFor t.view.table r.hdr.source = some
        { station := r.hdr.source, nonce := c.nonce, state := c.state, hops := r.hdr.hop.toNat + 1
          demand := c.demand, offers := c.offers, seen := s.tick } ∧
      (∀ n, n ≠ r.hdr.source → entryFor t.view.table n = entryFor s.view.table n) ∧
      t.view.nonce = s.view.nonce ∧ t.view.ring = s.view.ring ∧ t.svc = s.svc ∧ t.node = s.node ∧
      (∀ p role o k x, s.port p = .output o → o.quiet s.tick = true → o.sink role = some k → k.active = some x →
        sourceOf x = r.hdr.source →
        let shown : Bool := c.state == .run && c.offers.any (fun y => y.index == indexOf x && !y.suspended)
        ∃ o' k', t.port p = .output o' ∧ o'.sink role = some k' ∧ k'.active = some x ∧ k'.nonce = some c.nonce ∧
          k'.presented = k.presented ∧ o'.pres = o.pres ∧
          (k.source = .absent → k'.source = if shown then .present else .absent) ∧
          (k.source = .present → k'.source = if shown then .present else .lost) ∧
          (k.source = .lost → k'.source = .lost) ∧
          (k.source = .present → shown = false → t.isPending .sourceLost = true) ∧
          (role = .main → o'.lock.state =
            if k.source = .present ∧ shown = false ∧ o.lock.state = .track then .holdover else o.lock.state) ∧
          (k.source = .present → shown = false → o.cam.state = .showing →
            ((role = .main ∧ o.cfg.camMode = .full ∧ o.lock.state = .track) ∨
              (role = .overlay ∧ o.cfg.camMode = .inset)) →
            o'.cam = { o.cam with state := .late } ∧ t.isPending .cameraLate = true ∧ t.fault = true) ∧
          ((o.cam.state ≠ .showing ∨ o.cfg.camMode = .none) → o'.cam = o.cam) ∧
          ((k.source ≠ .present ∨ shown = true) → (k.nonce = none ∨ k.nonce = some c.nonce) →
            k'.cur = k.cur ∧ k'.queue = k.queue) ∧
          (((k.source = .present ∧ shown = false) ∨ ∃ n, k.nonce = some n ∧ n ≠ c.nonce) →
            k'.cur = none ∧ k'.queue = [] ∧ k'.last = none ∧
            k'.tornCount = if k.torn then holdInc k.tornCount else k.tornCount)) ∧
      t.view.demand = (t.portA.outAnd OutPort.engaged || t.portB.outAnd OutPort.engaged ||
        t.view.table.any TableEntry.demand) ∧
      ∀ p q, s.port p = .input q →
        (t.view.demand = s.view.demand → t.port p = .input q) ∧
        (t.view.demand ≠ s.view.demand → (s.node.state = .run ∨ s.node.state = .mute ∨ s.node.state = .standby) →
          let goal : Stream → StreamState := fun k =>
            if k.win.enabled = false ∨ q.geometry = none then .idle
            else if s.node.state ≠ .run then .suspended
            else if k.win.shed = true ∧ t.view.demand = true then .suspended
            else .running
          t.port p = .input { q with streams := q.streams.map (fun k =>
            if goal k = k.state then k
            else { k with
              state := goal k, frame := none, asm := [], drop := if k.state = .running then false else k.drop }) } ∧
          ∀ (i : Nat) (k : Stream), q.streams[i]? = some k → k.state ≠ .suspended → goal k = .suspended →
            ∀ e, (e ∈ t.sched.safeQ ∨ e ∈ t.sched.normalQ) → e.index ≠ streamIndex p i)

/-- A census payload encodes and decodes without loss, for every content that R68 calls well formed (12.2). A payload is well
formed exactly when it has two words, the stream count they give is at most 8 and the items are as many, no index appears
twice, and every item has a defined ring format and class and a width and height from 1 to 2048; each of the four codes of
its two state bits names a state. -/
def Obligations.CensusRoundTrip : Prop :=
  (∀ ws : List Word, (censusOf ws).isSome = true ↔
    ∃ a b items, ws = a :: b :: items ∧
      let n := (b.extractLsb' 0 4).toNat
      n ≤ 8 ∧ items.length = 2 * n ∧
      (∀ i j x y, i < j → j < n → items[2 * i]? = some x → items[2 * j]? = some y →
        x.extractLsb' 29 3 ≠ y.extractLsb' 29 3) ∧
      ∀ j x y, j < n → items[2 * j]? = some x → items[2 * j + 1]? = some y →
        (x.extractLsb' 27 2).toNat ≤ 2 ∧ (x.extractLsb' 25 2).toNat ≤ 2 ∧
        1 ≤ (y.extractLsb' 16 16).toNat ∧ (y.extractLsb' 16 16).toNat ≤ 2048 ∧
        1 ≤ (y.extractLsb' 0 16).toNat ∧ (y.extractLsb' 0 16).toNat ≤ 2048) ∧
  ∀ c : CensusContent, c.state ≠ .loading → c.offers.length ≤ 8 → (c.offers.map Offer.index).Nodup →
    (∀ o ∈ c.offers, 1 ≤ o.width ∧ o.width ≤ 2048 ∧ 1 ≤ o.height ∧ o.height ≤ 2048) →
    censusOf (censusWords c.nonce c.state c.demand c.offers) = some c

/-- A stripped census that ends good with the own nonce is an own return (R25, R64): outstanding clear, none missed,
the ring CLOSED, RING_HEALED raised when it was OPEN; one with the retired nonce changes nothing of this (where the two
nonces are the same it is a return, the model's choice, log 40); one with any other nonce is a conflict (R66, R67), which
raises ID_CONFLICT and takes a node in RUN to MUTE, or sets mute-pending in STANDBY. The entry to MUTE is that of
EnterMuteQuiets and comes at once, or waits while an own LINE or MARK is being transmitted (R54), in place of a STANDBY that waits
(R178). An entry whose end symbol has come and whose command has not is taken first (the model's choice, log 2). A repeater in FALLBACK takes its
own nonce as a return, and no stripped census does anything else to it (R18, R74). -/
def Obligations.OwnCensusJudged : Prop :=
  (∀ (s : State) (r : Reception) (w : Word) (rest : List Word), s.running → s.link.state = .up →
    s.link.stage = .body r → r.course = .strip → r.repeater = false → r.kind = .census → r.endsGood = true →
    r.payload = w :: rest →
    let sends : Prop := ∃ p, s.link.tx = .sending p ∧ (p.kind = .line ∨ p.kind = .mark)
    let stays : State → Prop := fun t =>
      t.sched = s.sched ∧ t.store = s.store ∧ t.portA = s.portA ∧ t.portB = s.portB
    ∃ t, exec (.endEvent .eop) s = .next t ∧ t.svc = s.svc ∧ t.view.table = s.view.table ∧
      t.view.nonce = s.view.nonce ∧ (s.view.nonce = some (w.extractLsb' 16 16) → stays t) ∧
      (if s.view.nonce = some (w.extractLsb' 16 16) then
        t.view.outstanding = false ∧ t.view.missed = 0 ∧ t.view.ring = .closed ∧ t.node = s.node ∧
          t.isPending .ringHealed = (s.isPending .ringHealed || s.view.ring == .broken)
      else if s.view.retired = some (w.extractLsb' 16 16) then
        t.view = s.view ∧ t.node = s.node ∧ t.att = s.att ∧ stays t
      else
        t.view.outstanding = s.view.outstanding ∧ t.view.missed = s.view.missed ∧ t.view.ring = s.view.ring ∧
        (s.node.state = .run → sends →
          t.node = { s.node with waiting := some .mute } ∧ t.isPending .idConflict = true ∧ stays t) ∧
        (s.node.state = .run → ¬sends → s.node.waiting = none →
          t.node = { s.node with state := .mute, waiting := none } ∧ t.isPending .idConflict = true ∧
          ∃ v, exec .enterMute { s with node := { s.node with waiting := some .mute } } = .next v ∧
            t.sched = v.sched ∧ t.store = v.store ∧ t.portA = v.portA ∧ t.portB = v.portB) ∧
        (s.node.state = .run → ¬sends → ∀ e, s.node.waiting = some e →
          t.node.waiting = none ∧ t.isPending .idConflict = true ∧
          (e = .mute → t.node.state = .mute) ∧ (e = .standby → t.node.state = .standby ∧ t.view.mutePending = true)) ∧
        (s.node.state = .mute → t.node = s.node ∧ t.isPending .idConflict = true ∧ stays t) ∧
        (s.node.state = .standby →
          t.node = s.node ∧ t.view.mutePending = true ∧ t.isPending .idConflict = true ∧ stays t))) ∧
  ∀ (s : State) (r : Reception) (w : Word) (rest : List Word), s.running → s.link.state = .up →
    s.link.stage = .body r → r.course = .strip → r.repeater = true → r.kind = .census → r.endsGood = true →
    r.payload = w :: rest →
    (s.node.state = .fallback → s.view.nonce = some (w.extractLsb' 16 16) →
      ∃ t, exec (.endEvent .eop) s = .next t ∧
        t.view = { s.view with outstanding := false, missed := 0, ring := .closed } ∧ t.node = s.node ∧
        t.isPending .ringHealed = (s.isPending .ringHealed || s.view.ring == .broken) ∧
        t.link = { s.link.countUnit with stage := .outside } ∧ t.sched = s.sched ∧ t.svc = s.svc) ∧
    (s.node.state = .fallback → s.view.nonce ≠ some (w.extractLsb' 16 16) →
      exec (.endEvent .eop) s = .next { s with link := { s.link.countUnit with stage := .outside } })

/-- A stripped own message whose tag is in flight leaves the outbox with the outcome of R26, its result joins the list
(R169, R170) and MESSAGE_RESULT is raised. The target in the returned parcel's first payload word says whether its flags
are read as flags or as counts (12.1). That only a message already sent is matched is the model's choice (log 30), and so
are DELIVERED for a unicast with both flags set (log 38) and the reading of the flags as a unicast's for a target of 16 to
30 (log 47). -/
def Obligations.ReturnGivesOutcome : Prop :=
  ∀ (s : State) (r : Reception) (w : Word) (rest : List Word) (e : EndSymbol) (m : OutMessage), s.running →
    s.link.state = .up → s.link.stage = .body r → r.course = .strip → r.repeater = false → r.kind = .message →
    r.payload = w :: rest → inFlight s.svc.outbox (messageTag w) = some m →
    let good : Bool := e == .eop && r.endsGood
    ∃ t res, exec (.endEvent e) s = .next t ∧
      t.svc = { s.svc with
        outbox := s.svc.outbox.filter (fun x => x.tag != m.tag)
        results := (if s.svc.results.length < 4 then s.svc.results else s.svc.results.drop 1) ++ [res] } ∧
      t.isPending .messageResult = true ∧ res.tag = m.tag ∧
      res.outcome =
        (if good = false then .damaged
        else if messageTarget w = 31 then .delivered
        else if r.hdr.flags.getLsbD 7 = true then .delivered
        else if r.hdr.flags.getLsbD 6 = true then .refused
        else .undelivered) ∧
      res.counts = (if messageTarget w = 31 then some (flagCounts r.hdr.flags) else none) ∧
      t.sched = s.sched ∧ t.view = s.view ∧ t.node = s.node

/-- The end of a message forwarded under the full decision (R35, R182). One that holds a reserved entry: at a good end
with a fitting user word count the entry is completed with the user words and MESSAGE_IN raised; otherwise it is
withdrawn and nothing raised. A message addressed here acts at a good end, if its entry, where it has one, is completed:
CAMERA_ON sets and CAMERA_OFF clears the ring latch, with CAMERA_CHANGE when that changes the engagement of a station with
a camera-mode port (R152); WAKE wakes a node in STANDBY (R179); USER does no more. That such a message with a user word count which does not fit acts
all the same where it reserved no entry is deduced (log 26). -/
def Obligations.InboxEntryEnds : Prop :=
  ∀ (s : State) (r : Reception) (e : EndSymbol), s.running → s.link.state = .up → s.link.stage = .body r →
    r.course = .forward → r.repeater = false → r.kind = .message →
    let kind := messageKindCode (r.payload.headD 0)
    let fits : Bool := fieldOf (r.payload.getD 1 0) 0 5 == r.payload.length - 2
    let good : Bool := e == .eop && r.endsGood && (!r.reserved || fits)
    ∃ t, exec (.endEvent e) s = .next t ∧
      (r.reserved = false → t.svc = s.svc ∧ t.isPending .messageIn = s.isPending .messageIn) ∧
      (∀ ready x, r.reserved = true → s.svc.inbox = ready ++ [x] → (∀ y ∈ ready, y.complete = true) →
        x.complete = false →
        t.svc = { s.svc with
          inbox := if good then ready ++ [{ x with complete := true, words := r.payload.drop 2 }] else ready } ∧
        t.isPending .messageIn = (s.isPending .messageIn || good)) ∧
      ((good = false ∨ r.addressed = false ∨ kind = 0 ∨ 3 < kind) →
        t.node = s.node ∧ t.sched = s.sched ∧ t.view = s.view ∧ t.camera = s.camera ∧ t.portA = s.portA ∧
          t.portB = s.portB) ∧
      (good = true → r.addressed = true → (kind = 1 ∨ kind = 2) →
        let c : CameraControl := { s.camera with ringLatch := kind == 1 }
        t.camera = c ∧
        ((s.camera.engaged = c.engaged ∨ s.hasCamera = false) →
          t.node = s.node ∧ t.portA = s.portA ∧ t.portB = s.portB) ∧
        (s.camera.engaged ≠ c.engaged → s.hasCamera = true → t.isPending .cameraChange = true)) ∧
      (good = true → r.addressed = true → kind = 3 →
        t.camera = s.camera ∧
        (s.node.state ≠ .standby → t.node = s.node ∧ t.portA = s.portA ∧ t.portB = s.portB) ∧
        (s.node.state = .standby → t.node.state = (if s.view.mutePending then .mute else .run) ∧ t.sched.credit = s.cap ∧
          t.view.mutePending = false))

/-! ## The transmit link and the scheduler's choice -/

/-- At a free link the SAFE head starts when pictures may start and the free space is at least its length + 16 (R37,
R38, R40): it leaves its queue, and the transmitter sends its header (own station, hop and pressure 0, the entry's fields,
the header CRC), its payload (the slot's words of a LINE, one word with height and class of a MARK) and the CRC-32 of that
payload (R14, R41, 12.1, 12.4). With no SAFE start the head transit entry starts. -/
def Obligations.SafeOrTransitStarts : Prop :=
  ∀ (s : State) (g : Nat), s.running → s.link.tx = .between g → 8 ≤ g →
    (∀ e es, s.link.transit = e :: es → e.cut = false) →
    (∀ e rest, s.sched.safeQ = e :: rest → s.node.state = .run → s.node.waiting = none →
      e.len + 5 + 16 + fillOf s.link.transit ≤ 4096 →
      let payload : List Word :=
        if e.isMark then [BitVec.ofNat 12 e.height ++ e.cls.code ++ 0#18]
        else ((s.store.find? (fun x => x.slot == e.slot)).map SendSlot.words).getD []
      ∃ h : Header, h.IsPicture s.node.station e ∧
        exec .parcelStart s = .next { s with
          sched := { s.sched with safeQ := rest }
          link := { s.link with
            out := .sop
            tx := .sending
              { kind := if e.isMark then .mark else .line
                slot := if e.isMark then none else some e.slot
                left := [h.word0, h.word1, h.word2, h.word3] ++ payload ++ [crc32 payload] } } }) ∧
    ((s.node.state ≠ .run ∨ s.node.waiting ≠ none ∨ s.sched.safeQ = [] ∨
        ∃ e rest, s.sched.safeQ = e :: rest ∧ 4096 < e.len + 5 + 16 + fillOf s.link.transit) →
      s.link.transit ≠ [] →
      exec .parcelStart s = .next { s with link := { s.link with tx := .transit, out := .sop } })

/-- At a free link with no SAFE start and no transit entry (R37, R39): the census starts, ends the error counting period
(R17) and judges the census before (R63), a retired nonce being forgotten at the second such send after a warm restart
(R60); else the first message, whose send time is now (R169); else the NORMAL head
when pictures may start and the credit covers its length, which the credit then loses (R47), with R50 applied to the
new head; else nothing. A local parcel is a header of this station with hop and pressure 0 and its CRC, the payload words,
and their CRC-32 (R14, R41, 12.1, 12.4). -/
def Obligations.LocalStarts : Prop :=
  ∀ (s : State) (g : Nat), s.running → s.link.tx = .between g → 8 ≤ g → s.link.transit = [] →
    (s.node.state ≠ .run ∨ s.node.waiting ≠ none ∨ s.sched.safeQ = [] ∨
        ∃ e rest, s.sched.safeQ = e :: rest ∧ 4096 < e.len + 5 + 16) →
    let words : Header → List Word → List Word := fun h ws => [h.word0, h.word1, h.word2, h.word3] ++ ws ++ [crc32 ws]
    (∀ ws, s.sched.census = some ws → s.view.missed ≤ 3 →
      ∃ t h, exec .parcelStart s = .next t ∧ t.sched = { s.sched with census := none } ∧
        h.IsControl s.node.station 2 ws.length ∧
        t.link = { s.link with
          tx := .sending { kind := .census, slot := none, left := words h ws }, out := .sop
          hdrErr := 0, payErr := 0, ovf := 0 } ∧
        t.view.outstanding = true ∧
        t.view.missed = (if s.view.outstanding then min 3 (s.view.missed + 1) else s.view.missed) ∧
        t.view.ring = (if s.view.outstanding = true ∧ s.view.missed = 2 then .broken else s.view.ring) ∧
        t.isPending .ringBroken = (s.isPending .ringBroken ||
          (s.view.outstanding && s.view.missed == 2 && s.view.ring != .broken)) ∧
        t.isPending .linkDegraded = (s.isPending .linkDegraded ||
          decide (8 ≤ s.link.hdrErr + s.link.payErr + s.link.ovf)) ∧
        t.view.retired = (if 1 ≤ s.view.retiredSends then none else s.view.retired) ∧
        (s.view.retired ≠ none → t.view.retiredSends = s.view.retiredSends + 1) ∧
        t.view.table = s.view.table ∧ t.view.nonce = s.view.nonce ∧ t.view.timer = s.view.timer ∧ t.node = s.node ∧
        t.svc = s.svc ∧ t.store = s.store ∧ t.portA = s.portA ∧ t.portB = s.portB ∧ t.tick = s.tick) ∧
    (∀ m rest, s.sched.census = none → s.sched.msgs = m :: rest →
      ∃ h : Header, h.IsControl s.node.station 3 m.words.length ∧ exec .parcelStart s = .next { s with
        sched := { s.sched with msgs := rest }
        link := { s.link with
          tx := .sending { kind := .message, slot := none, left := words h m.words }, out := .sop }
        svc := { s.svc with
          outbox := s.svc.outbox.map
            (fun x => if x.tag = m.tag ∧ x.sent = none then { x with sent := some s.tick } else x) } }) ∧
    (s.sched.census = none → s.sched.msgs = [] →
      (∀ e rest, s.sched.normalQ = e :: rest → s.node.state = .run → s.node.waiting = none →
        e.len + 5 ≤ s.sched.credit →
        let payload : List Word :=
          if e.isMark then [BitVec.ofNat 12 e.height ++ e.cls.code ++ 0#18]
          else ((s.store.find? (fun x => x.slot == e.slot)).map SendSlot.words).getD []
        ∃ t h, exec .parcelStart s = .next t ∧ h.IsPicture s.node.station e ∧
          t.sched = { s.sched with
            normalQ := rest
            credit := s.sched.credit - (e.len + 5)
            starved := s.sched.starved && rest.head?.any (fun x => decide (s.patience ≤ 2 * elapsed s.tick x.entryTime)) } ∧
          t.link = { s.link with
            tx := .sending
              { kind := if e.isMark then .mark else .line, slot := if e.isMark then none else some e.slot
                left := words h payload }
            out := .sop } ∧
          t.node = s.node ∧ t.view = s.view ∧ t.svc = s.svc ∧ t.store = s.store ∧ t.att = s.att) ∧
      ((s.node.state ≠ .run ∨ s.node.waiting ≠ none ∨ s.sched.normalQ = [] ∨
          ∃ e rest, s.sched.normalQ = e :: rest ∧ s.sched.credit < e.len + 5) →
        exec .parcelStart s = .next s))

/-- The transmit stream (R3, R10, R11, R13, R14, R40). Once the gap is complete a committed cut-through parcel gets its
SOP. A word between parcels is an IDLE and counts to the gap; inside a parcel it is the next held word, or an IDLE while
a forwarded parcel's next word has not arrived. When every word is sent the end symbol goes out, a new gap begins, a
transit entry leaves the list with its recorded end, and a local LINE returns its slot. -/
def Obligations.TransmitStream : Prop :=
  ∀ s : State, s.running →
    (∀ g e es, s.link.tx = .between g → 8 ≤ g → s.link.transit = e :: es → e.cut = true →
      exec .cutThroughStart s = .next { s with link := { s.link with tx := .transit, out := .sop } }) ∧
    (∀ g, s.link.tx = .between g →
      exec .wordSent s = .next { s with link := { s.link with tx := .between (min 8 (g + 1)), out := .idle } }) ∧
    (∀ e es w ws, s.link.tx = .transit → s.link.transit = e :: es → e.words = w :: ws →
      exec .wordSent s =
        .next { s with link := { s.link with transit := { e with words := ws } :: es, out := .data w } }) ∧
    (∀ e es, s.link.tx = .transit → s.link.transit = e :: es → e.words = [] →
      (e.fin = none ∨ e.heldBack ≠ none) →
      exec .wordSent s = .next { s with link := { s.link with out := .idle } }) ∧
    (∀ p w ws, s.link.tx = .sending p → p.left = w :: ws →
      exec .wordSent s =
        .next { s with link := { s.link with tx := .sending { p with left := ws }, out := .data w } }) ∧
    (∀ e es good, s.link.tx = .transit → s.link.transit = e :: es → e.words = [] → e.heldBack = none →
      e.fin = some good →
      exec .parcelEndSent s = .next { s with
        link := { s.link with transit := es, tx := .between 0, out := if good then .eop else .eopx } }) ∧
    (∀ p, s.link.tx = .sending p → p.left = [] →
      exec .parcelEndSent s = .next { s with
        link := { s.link with tx := .between 0, out := .eop }
        store := s.store.filter (fun x => p.slot != some x.slot) })

/-! ## Node states -/

/-- Entry to MUTE (R177, R53, R54), asked for and with no own picture parcel in transmission, so at the end symbol of the one
that kept it waiting (where none does, the conflict report itself brings it: OwnCensusJudged): both picture queues are
emptied, their slots returned, STARVED clear. Every stream is settled (R81, R83): one of an enabled window at a port with a
geometry, so every RUNNING one, becomes SUSPENDED, and any other is IDLE; a stream that leaves its state closes its frame and
discards its unfinished line, its drop flag clear when it was RUNNING, and the rest of the port stays. The CONTROL queue, the credit, the receive and transmit
link, the output ports and everything else stay. -/
def Obligations.EnterMuteQuiets : Prop :=
  ∀ s : State, s.running → s.node.state = .run → s.node.waiting = some .mute →
    (∀ p, s.link.tx = .sending p → p.kind ≠ .line ∧ p.kind ≠ .mark) →
    ∃ t, exec .enterMute s = .next t ∧ t.node = { s.node with state := .mute, waiting := none } ∧
      t.sched = { s.sched with safeQ := [], normalQ := [], starved := false } ∧
      (∀ x, x ∈ t.store ↔ x ∈ s.store ∧
        ∀ e, e ∈ s.sched.safeQ ∨ e ∈ s.sched.normalQ → e.isMark = true ∨ e.slot ≠ x.slot) ∧
      (∀ p q, s.port p = .input q →
        let goal : Stream → StreamState := fun k =>
          if k.win.enabled = false ∨ q.geometry = none then .idle else .suspended
        t.port p = .input { q with streams := q.streams.map (fun k =>
          if goal k = k.state then k
          else { k with
            state := goal k, frame := none, asm := [], drop := if k.state = .running then false else k.drop }) }) ∧
      (∀ p o, s.port p = .output o → t.port p = .output o) ∧
      t.link = s.link ∧ t.view = s.view ∧ t.svc = s.svc ∧ t.camera = s.camera ∧ t.tick = s.tick ∧ t.att = s.att

/-- Entry to STANDBY (R178, R53, R54, R83, R111, R131, R148), at the end symbol that it waited for (where none keeps it waiting, the
request itself brings it: ControlRequests): queues emptied and streams settled as for MUTE; on every output port the sink
records empty, their presented frames kept to the stop, the Frame Lock FREE at INC_nom, and a running port asked to stop,
after what was due on it (log 2): a hold at its limit gives up with a fill frame (R122), any other is to end; the camera state IDLE with no deadline and nothing to return to (R158, R161); the parcel in reception no longer copied to a
sink (R30). The port stops at the end of its last back-porch line (R134,
R148), with every output low and no frame presented (R111); before that PORT_STOP changes nothing. That the pixel periods
of a frame are counted at the ticks is the model's choice (log 15), and so are the flags of a stopped port (log 45). -/
def Obligations.EnterStandbyStops : Prop :=
  (∀ s : State, s.running → s.node.state = .run → s.node.waiting = some .standby →
    (∀ p, s.link.tx = .sending p → p.kind ≠ .line ∧ p.kind ≠ .mark) →
    ∃ t, exec .enterStandby s = .next t ∧ t.node = { s.node with state := .standby, waiting := none } ∧
      t.sched = { s.sched with safeQ := [], normalQ := [], starved := false } ∧
      (∀ p q, s.port p = .input q →
        let goal : Stream → StreamState := fun k =>
          if k.win.enabled = false ∨ q.geometry = none then .idle else .suspended
        t.port p = .input { q with streams := q.streams.map (fun k =>
          if goal k = k.state then k
          else { k with
            state := goal k, frame := none, asm := [], drop := if k.state = .running then false else k.drop }) }) ∧
      (∀ p o, s.port p = .output o → ∃ o', t.port p = .output o' ∧ o'.main.queue = [] ∧ o'.main.detached = [] ∧
        o'.main.cur = none ∧ o'.main.active = o.main.active ∧ o'.main.shadow = o.main.shadow ∧
        o'.main.presented = o.main.presented ∧
        o'.cam = { state := .idle, deadline := none, resume := none, insetHold := o.cam.insetHold } ∧
        o'.lock.state = .free ∧ o'.lock.inc = BitVec.ofNat 32 o.cfg.incNom ∧ o'.lock.integ = 0 ∧
        o'.lock.locked = false ∧ (o.pres.pos ≠ .stopped → o'.pres.stopPending = true) ∧
        (o.quiet s.tick = true → o'.pres.pos = o.pres.pos ∧ o'.pres.fillFrame = o.pres.fillFrame ∧
          o'.lock.stretch = o.lock.stretch.map (fun x => { x with ending := true })) ∧
        (∀ x, o.lock.stretch = some x → x.limit = true → x.ending = false → o.lock.state = .acquire →
          o'.lock.stretch = none ∧ o'.lock.linesAdded = x.added ∧ o'.pres.pos = .active ∧ o'.pres.nextLine = 0 ∧
            o'.pres.fillFrame = true) ∧
        ∀ k, o.overlay = some k → ∃ k', o'.overlay = some k' ∧ k'.queue = [] ∧ k'.detached = [] ∧ k'.cur = none ∧
          k'.active = k.active ∧ k'.shadow = k.shadow ∧ k'.presented = k.presented) ∧
      (∀ r, s.link.stage = .body r → t.link.stage = .body { r with lineTo := [], markTo := [], carry := [] }) ∧
      t.link.transit = s.link.transit ∧ t.link.tx = s.link.tx ∧ t.view = s.view ∧ t.svc = s.svc ∧
      t.tick = s.tick ∧ ((∀ p o, s.port p = .output o → o.quiet s.tick = true) → t.att = s.att)) ∧
  ∀ (s : State) (p : PortId) (o : OutPort), s.running → s.port p = .output o → o.pres.stopPending = true →
    o.lock.stretch = none →
    let ht := o.cfg.ha + o.cfg.hfp + o.cfg.hs + o.cfg.hbp
    let blank := ht * (o.cfg.vfp + o.cfg.vs + o.cfg.vbp)
    (o.pres.pos = .blanking → blank ≤ o.pres.pixel →
      ∃ o', exec (.portStop p) s = .next (s.setPort p (.output o')) ∧
        o' = { o with
          main := { o.main with presented := none }
          overlay := o.overlay.map (fun k => { k with presented := none })
          pres := { o.pres with
            pos := .stopped, stopPending := false, fillFrame := false, cutDone := false, driven := [], ahead := []
            pixel := 0 } } ∧
        o'.pins = { clock := false, hsync := false, vsync := false, enable := false, data := { r := 0, g := 0, b := 0 } }) ∧
    ((o.pres.pos ≠ .blanking ∨ o.pres.pixel < blank) → exec (.portStop p) s = .next s)

/-- A wake from STANDBY, by the WAKE pin found high at a tick (R179, R57, R67, R131, R148): to MUTE when mute-pending,
else to RUN; the credit is CAP; a running port goes on with its Frame Lock in ACQUIRE or FREE by its MAIN subscription and
no stretch, its lines-added figure kept, and a stopped one starts again with an output frame. Every
stream is settled anew (R83, R81). That an added line still in
progress at the wake keeps its number, and gives way to the active lines, is the model's choice (log 46), and so is that a
cut which still waits is forgotten with the cut-done flag (log 49). -/
def Obligations.WakesFromStandby : Prop :=
  ∀ s : State, s.running → s.node.state = .standby → s.node.wakeFound = true →
    ∃ t, exec .wakePin s = .next t ∧
      t.node = { s.node with state := if s.view.mutePending then .mute else .run, wakeFound := false } ∧
      t.sched.credit = s.cap ∧ t.sched.census = s.sched.census ∧ t.sched.msgs = s.sched.msgs ∧
      t.view = { s.view with mutePending := false } ∧ t.link = s.link ∧ t.svc = s.svc ∧ t.tick = s.tick ∧
      t.camera = s.camera ∧
      (∀ p q, s.port p = .input q →
        let goal : Stream → StreamState := fun k =>
          if k.win.enabled = false ∨ q.geometry = none then .idle
          else if s.view.mutePending = true then .suspended
          else if k.win.shed = true ∧ s.view.demand = true then .suspended
          else .running
        t.port p = .input { q with streams := q.streams.map (fun k =>
          if goal k = k.state then k
          else { k with
            state := goal k, frame := none, asm := [], drop := if k.state = .running then false else k.drop }) }) ∧
      ∀ p o, s.port p = .output o → ∃ o', t.port p = .output o' ∧ o'.pres.stopPending = false ∧
        (o.pres.pos ≠ .stopped →
          o'.lock.state = (if o.main.active.isSome then .acquire else .free) ∧
          o'.lock.inc = BitVec.ofNat 32 o.cfg.incNom ∧ o'.lock.integ = 0 ∧ o'.lock.stretch = none ∧
          o'.lock.linesAdded = o.lock.linesAdded ∧ (∀ st, o.lock.stretch = some st → o'.pres.line = st.added + 1) ∧
          o'.lock.acc = o.lock.acc ∧ o'.pres.pos = o.pres.pos ∧
          o'.pres.fillFrame = false ∧ o'.pres.cutDone = false ∧ o'.main = o.main) ∧
        (o.pres.pos = .stopped → o'.pres.pos = .added ∨ o'.pres.pos = .active)

/-! ## The microsecond tick and its timers -/

/-- The normal credit at a tick at which nothing is due (R46, R52): in RUN, MUTE and STANDBY it rises by R and is clamped
to CAP, R being REFILL while YIELD is clear and REFILL − floor(REFILL / 4) while it is set; in LOADING and FALLBACK it does
not rise. That due events are commands of their own is the model's choice (log 2), and so is that the tick at which the
yield time reaches 0 still refills by the reduced amount (log 22). -/
def Obligations.TickRefillsCredit : Prop :=
  ∀ (s : State) (reverse wake : Bool), s.running → s.Quiet →
    ∃ t, exec (.microsecondTick reverse wake) s = .next t ∧
      t.sched.credit =
        (if s.node.state = .run ∨ s.node.state = .mute ∨ s.node.state = .standby then
          min s.cap (s.sched.credit + (if s.sched.yield then s.refillCfg - s.refillCfg / 4 else s.refillCfg))
        else s.sched.credit)

/-- The rest of a tick at which nothing is due (R1, R51, R61, R77, R114, R134, R151, R179): the tick count and the timers
move by one, a WAKE level is noted in STANDBY, each oscillator runs 400 cycles, and its carries are pixel periods of the
port's timing, which leaves the last active line for the blanking when its HT periods have passed. In an active line each
period drives one more of its active pixels, reduced to the panel's depth, the dither generator advancing once before it
(R145, R146; PanelDepthReduced); nowhere else does the generator advance. At every position the
port's pins are those of R134 and R150: the horizontal sync at its active level in its HS columns after the front porch,
the vertical sync in its VS lines of the blanking, the data enable with the active pixels of an active line, the pixel data
those of the line and 0 elsewhere, everything low when stopped (R148); a line that is over keeps the pins of its last period
until its event is taken (log 15). That due events are
commands of their own, that 400 cycles make a tick and line events come with their commands, and that the pins have the
levels given at the tick are the model's choices (logs 2, 15, 17). -/
def Obligations.TickMovesTimers : Prop :=
  (∀ (s : State) (reverse wake : Bool), s.running → s.Quiet →
    ∃ t, exec (.microsecondTick reverse wake) s = .next t ∧ t.tick = s.tick + 1 ∧
      t.pins = { reverse := reverse, wake := wake } ∧
      t.sched.yield = s.sched.yield ∧
      t.sched.yieldTime = (if s.sched.yield then s.sched.yieldTime - 1 else s.sched.yieldTime) ∧
      t.sched.safeQ = s.sched.safeQ ∧ t.sched.normalQ = s.sched.normalQ ∧ t.sched.starved = s.sched.starved ∧
      t.sched.census = s.sched.census ∧ t.sched.msgs = s.sched.msgs ∧
      t.view = { s.view with timer := s.view.timer.map (fun n => n - 1) } ∧
      t.node = { s.node with wakeFound := s.node.wakeFound || (wake && s.node.state == .standby) } ∧
      (s.node.state.full = true → t.camera = { s.camera with
        stability := if reverse = s.camera.debounced then 0 else s.camera.stability + 1 }) ∧
      (s.node.state.full = false → t.camera = s.camera) ∧
      (∀ p k, s.port p = .unused k → t.port p = .unused k) ∧
      (∀ p q, s.port p = .input q →
        t.port p = .input { q with silence := q.silence.map (fun n => n - 1) }) ∧
      (∀ p o, s.port p = .output o →
        let ht := o.cfg.ha + o.cfg.hfp + o.cfg.hs + o.cfg.hbp
        let carries := (o.lock.acc.toNat + 400 * o.lock.inc.toNat) / 2 ^ 32
        ∃ o', t.port p = .output o' ∧ o'.cfg = o.cfg ∧
          o'.lock = { o.lock with acc := BitVec.ofNat 32 (o.lock.acc.toNat + 400 * o.lock.inc.toNat) } ∧
          o'.main = o.main ∧ o'.overlay = o.overlay ∧ o'.cam = o.cam ∧
          o'.pres =
            if o.pres.pos = .stopped then o.pres
            else if o.pres.pos ≠ .active then { o.pres with pixel := o.pres.pixel + carries }
            else if o.cfg.va ≤ o.pres.nextLine ∧ ht ≤ o.pres.pixel + carries then
              { o.pres with
                pos := .blanking, pixel := o.pres.pixel + carries - ht, driven := [], ahead := []
                gen := (driveLine o.cfg o.pres.gen (o.pres.ahead.take carries)).2 }
            else
              { o.pres with
                pixel := o.pres.pixel + carries, ahead := o.pres.ahead.drop carries
                driven := o.pres.driven ++ (driveLine o.cfg o.pres.gen (o.pres.ahead.take carries)).1
                gen := (driveLine o.cfg o.pres.gen (o.pres.ahead.take carries)).2 }) ∧
      t.link = s.link ∧ t.store = s.store ∧ t.att = s.att ∧ t.svc = s.svc ∧ t.free = s.free) ∧
  ∀ o : OutPort, 1 ≤ o.cfg.hs → 1 ≤ o.cfg.vs →
    let ht := o.cfg.ha + o.cfg.hfp + o.cfg.hs + o.cfg.hbp
    let blank := ht * (o.cfg.vfp + o.cfg.vs + o.cfg.vbp)
    let n := min ((if o.pres.pos = .blanking then blank else ht) - 1) o.pres.pixel
    let x := n % ht
    let row := n / ht
    let black : Pixel := { r := 0, g := 0, b := 0 }
    let draws : Prop := o.pres.pos = .active ∧ o.pres.nextLine ≠ 0 ∧ x < o.cfg.ha
    (o.pres.pos = .stopped →
      o.pins = { clock := false, hsync := false, vsync := false, enable := false, data := black }) ∧
    (o.pres.pos ≠ .stopped →
      o.pins.clock = true ∧
      (o.pins.hsync = o.cfg.hsHigh ↔ o.cfg.ha + o.cfg.hfp ≤ x ∧ x < o.cfg.ha + o.cfg.hfp + o.cfg.hs) ∧
      (o.pins.vsync = o.cfg.vsHigh ↔ o.pres.pos = .blanking ∧ o.cfg.vfp ≤ row ∧ row < o.cfg.vfp + o.cfg.vs) ∧
      (o.pins.enable = o.cfg.deHigh ↔ draws) ∧
      (draws → o.pins.data = o.pres.driven.getD x black) ∧ (¬draws → o.pins.data = black))

/-- Three timers. STARVED is set and raised when the NORMAL head has waited more than the patience (R49). YIELD is cleared
when its yield time has run out, and raises nothing (R51). At the census timer's expiry (R61, R62, R44) a census of
the own nonce, node state, own demand and offered streams (of state FALLBACK, no demand and no stream in FALLBACK) takes
the place at the head of the CONTROL queue, and the next period is 1000 + the low six bits of the value drawn. The own demand
is yes while a camera-mode port is not IDLE (R159). The offered streams are those of the enabled windows in order of stream
index, each with its configured size, format and class, suspended unless RUNNING (R80). -/
def Obligations.TimersExpire : Prop :=
  ((∀ (s : State) (e : PicEntry) (rest : List PicEntry), s.running → s.sched.normalQ = e :: rest →
    s.sched.starved = false → s.patience < elapsed s.tick e.entryTime →
    exec .starvedSet s = .next { s with
      sched := { s.sched with starved := true }, att := { s.att with pending := s.att.pending ||| 0x0400#16 } }) ∧
  ∀ s : State, s.running → s.sched.yield = true → s.sched.yieldTime = 0 →
    exec .yieldExpiry s = .next { s with sched := { s.sched with yield := false } }) ∧
  ∀ (s : State) (n : Half) (own : Bool), s.running → s.node.state ≠ .loading → s.view.timer = some 0 →
    s.view.nonce = some n →
    (own = true ↔ ∃ p o, s.port p = .output o ∧ o.cfg.camMode ≠ .none ∧ o.cam.state ≠ .idle) →
    let items : PortId → List Offer := fun p =>
      ((s.port p).streams.zipIdx.filter (fun k => k.1.win.enabled)).map (fun k =>
        { index := BitVec.ofNat 3 ((if p = .a then 0 else 4) + k.2), width := k.1.win.width, height := k.1.win.height
          fmt := k.1.win.fmt, cls := k.1.win.cls, suspended := k.1.state != .running })
    exec .censusTimerExpiry s = .next { s with
      sched := { s.sched with
        census := some
          (if s.node.state = .fallback then censusWords n .fallback false []
          else censusWords n s.node.state own (items .a ++ items .b)) }
      view := { s.view with gen := advance s.view.gen, timer := some (1000 + (advance s.view.gen).toNat % 64) } }

/-- An entry of the station table expires at 4500 µs without a census (R70): it is removed, and a PRESENT main record
subscribed to one of its streams loses its source (R107, R109): LOST, no frame, empty queue, SOURCE_LOST raised, a
tracking Frame Lock to HOLDOVER (R119), with which a FULL port in SHOWING is LATE and CAMERA_LATE pending (R156, R160). An
OVERLAY record loses it likewise, and an INSET port in SHOWING is then LATE. The published demand follows (R71). A stretch of that lock which had added
VSTRETCH_MAX lines ends before it, with the computation at lead 0 (R127): what is due on the port is taken first (log 2). -/
def Obligations.EntryExpires : Prop :=
  ∀ (s : State) (st : StationNo) (e : TableEntry), s.running → entryFor s.view.table st = some e →
    4500 ≤ elapsed s.tick e.seen →
    ∃ t, exec (.tableEntryExpiry st) s = .next t ∧
      t.view.table = s.view.table.filter (fun x => x.station != st) ∧ t.view.demand = t.demandOf ∧
      t.view.nonce = s.view.nonce ∧ t.view.ring = s.view.ring ∧ t.node = s.node ∧ t.link = s.link ∧ t.svc = s.svc ∧
      t.tick = s.tick ∧
      (∀ p o k x, s.port p = .output o → o.overlay = some k → k.active = some x → sourceOf x = st → k.source = .present →
        t.isPending .sourceLost = true ∧ ∃ o' k', t.port p = .output o' ∧ o'.overlay = some k' ∧ k'.source = .lost ∧
          k'.cur = none ∧ k'.queue = [] ∧ k'.active = some x ∧
          (o.quiet s.tick = true → o.cfg.camMode = .inset → o.cam.state = .showing →
            o'.cam = { o.cam with state := .late } ∧ t.isPending .cameraLate = true)) ∧
      ∀ p o x, s.port p = .output o → o.main.active = some x → sourceOf x = st → o.main.source = .present →
        t.isPending .sourceLost = true ∧ ∃ o', t.port p = .output o' ∧ o'.main.source = .lost ∧ o'.main.cur = none ∧
          o'.main.queue = [] ∧ o'.main.active = some x ∧
          (o.quiet s.tick = true →
            o'.lock.state = (if o.lock.state = .track then .holdover else o.lock.state) ∧ o'.pres.pos = o.pres.pos) ∧
          (o.quiet s.tick = true → o.cfg.camMode = .full → o.cam.state = .showing → o.lock.state = .track →
            o'.cam = { o.cam with state := .late } ∧ t.isPending .cameraLate = true) ∧
          ∀ l, o.lock.stretch = some l → l.limit = true → l.ending = false → o.lock.state = .track → o.main.silent < 3 →
            o'.lock = { (FrameLock.compute o.cfg 0 { o.lock with stretch := none, linesAdded := l.added }).1 with
              state := .holdover, locked := false, inWin := 0, outWin := 0, holdCount := 0 } ∧
            o'.pres.pos = .active ∧ o'.pres.nextLine = 0

/-- An input port falls silent (R77, R81): its geometry is absent, the measurement discarded, the timer stopped; every
stream of it is IDLE with its frame closed; nothing else changes. That nothing is measured until the next frame start is
the model's choice (log 16). -/
def Obligations.SilenceForgets : Prop :=
  ∀ (s : State) (p : PortId) (q : InPort), s.running →
    (s.node.state = .run ∨ s.node.state = .mute ∨ s.node.state = .standby) → s.port p = .input q →
    q.silence = some 0 →
    exec (.silenceTimeout p) s = .next (s.setPort p (.input { q with
      geometry := none, lines := 0, x := 0, maxW := 0, measuring := false, silence := none
      streams := q.streams.map (fun k =>
        if k.state = .idle then k
        else { k with
          state := .idle, frame := none, asm := [], drop := if k.state = .running then false else k.drop }) }))

/-- A message in flight is LOST 3000 µs after its start (R169): it leaves the outbox, its result joins the list, the
oldest leaving when it is full (R170), and MESSAGE_RESULT is raised. A broadcast's result carries counts, for which the
manual gives no value (log 7). -/
def Obligations.MessageLost : Prop :=
  ∀ (s : State) (tag : Byte) (m : OutMessage) (t0 : Word), s.running → inFlight s.svc.outbox tag = some m →
    m.sent = some t0 → 3000 ≤ elapsed s.tick t0 →
    ∃ t res, exec (.messageTimeout tag) s = .next t ∧
      t.svc = { s.svc with
        outbox := s.svc.outbox.filter (fun x => x.tag != tag)
        results := (if s.svc.results.length < 4 then s.svc.results else s.svc.results.drop 1) ++ [res] } ∧
      res.tag = tag ∧ res.outcome = .lost ∧ res.counts.isSome = m.target.isNone ∧
      t.isPending .messageResult = true ∧ t.sched = s.sched ∧ t.link = s.link ∧ t.view = s.view ∧ t.node = s.node ∧
      t.portA = s.portA ∧ t.portB = s.portB ∧ t.tick = s.tick

/-! ## Camera Priority -/

/-- The debounced REVERSE level changes after 10,000 stable ticks (R151); the station is engaged while that level or a
latch is set (R152). When the change makes an engage or release event at a station with a camera-mode port (R152):
CAMERA_CHANGE is raised and the demand follows (R159). An engage puts each camera-mode
port's record on the camera stream, SWITCHING, with its deadline and the value to return to (R154, R155), and asks a FULL
port whose stream changed to end its frame (R138); a FULL port's Frame Lock then starts with the integrator at 0 from HOLDOVER too, as R154 says against R116 (the
model's choice, log 12). What was due on a port, or an entry whose end symbol has come, is taken before (the model's choice, log 2), so the details are
those with nothing due; the active line in progress keeps its pixels, by the model's choice (log 54). In STANDBY it first wakes the node, with CAP words of credit (R159,
R179). A release makes each port IDLE and writes the resume value to its shadow as a request would (R157, R96); the
published demand is then that of the table alone (R159, R71). When the
deadline of a SWITCHING port is not later than the tick count (R156, R160) the port is LATE, CAMERA_LATE is raised and the
FAULT pin asserted. -/
def Obligations.ReverseEngages : Prop :=
  (∀ s : State, s.running → (s.node.state = .run ∨ s.node.state = .mute ∨ s.node.state = .standby) →
    10000 ≤ s.camera.stability →
    ∃ t, exec .reverseDebounced s = .next t ∧
      s.CameraMoves { s.camera with debounced := !s.camera.debounced, stability := 0 } t) ∧
  (∀ s v : State, s.running → s.node.state = .run → 10000 ≤ s.camera.stability → s.hasCamera = true →
    s.camera.engaged = false → (∀ p, s.link.tx = .sending p → p.kind ≠ .line ∧ p.kind ≠ .mark) →
    ((s.node.waiting = some .mute ∧ exec .enterMute s = .next v) ∨
      (s.node.waiting = some .standby ∧ exec .enterStandby s = .next v)) →
    exec .reverseDebounced s = exec .reverseDebounced v) ∧
  (∀ c : CameraControl, c.engaged = (c.debounced || c.ringLatch || c.localLatch)) ∧
  (∀ s : State, s.hasCamera = true ↔ ∃ p o, s.port p = .output o ∧ o.cfg.camMode ≠ .none) ∧
  ∀ (s : State) (p : PortId) (o : OutPort) (d : Word), s.running → s.port p = .output o → o.cfg.camMode ≠ .none →
    o.cam.state = .switching → o.cam.deadline = some d → laterTime d s.tick = false →
    ∃ t, exec (.cameraDeadlineExpiry p) s = .next t ∧
      t = { s.setPort p (.output { o with cam := { o.cam with state := .late } }) with
            att := { s.att with pending := s.att.pending ||| 0x0001#16 } } ∧
      t.fault = true ∧ t.atn = true

/-! ## Input ports -/

/-- The end of an input line (R76, R85): in RUN each window line it cuts short is placed with the pixels it has, in order
of stream index (a slot, which is the model's choice, log 8, and an entry, or a counted drop: R87 to R91); a line with active pixels is counted and measured, and
no window line is left unfinished. An input frame start (R76, R77, R78, R85) ends the line just so, takes the measurement as the geometry, raises the frame
counter and loads the silence timer; every stream is settled (R81), the entries of each that becomes SUSPENDED leaving the
queues with their slots (R45). Then each stream of the port is treated in order of stream index (R84, FrameBegun): its frame is
closed and its drop flag cleared, and when it is RUNNING its clipped size is computed; where neither figure is 0 the stream's LINE
entries leave both queues, their slots returned (R42, R43), and its MARK joins the tail of the queue of its class
while that holds fewer than 16 or 48 entries (R41): the frame is then open with the clipped size. A MARK refused is
dropped, with SEND_DROP (R90, R91); the streams before it in the order have taken their places by then. That the pixels before a frame's first line sync edge are its first line is the model's choice
(log 41); that what is measured before the first frame start counts, and what follows a silence does not, is deduced (log
16). A silence left due is taken first by the model's choice, so none is due here (log 2). -/
def Obligations.InputFrameStarts : Prop :=
  ∀ (s : State) (p : PortId) (q : InPort), s.running →
    (s.node.state = .run ∨ s.node.state = .mute ∨ s.node.state = .standby) → s.port p = .input q →
    q.silence ≠ some 0 →
    let lines := if q.x = 0 then q.lines else q.lines + 1
    let width := if q.x = 0 then q.maxW else max q.maxW q.x
    (∃ t q', exec (.inputLineEnd p) s = .next t ∧ t.port p = .input q' ∧ q'.lines = lines ∧ q'.maxW = width ∧
      q'.x = 0 ∧ q'.geometry = q.geometry ∧ q'.counter = q.counter ∧ q'.silence = q.silence ∧
      q'.streams.length = q.streams.length ∧ (∀ k ∈ q'.streams, k.asm = []) ∧
      t.link = s.link ∧ t.node = s.node ∧ t.view = s.view ∧ t.svc = s.svc ∧ t.sched.credit = s.sched.credit) ∧
    (s.node.state = .run →
      ∃ (t : State) (u : Nat → State) (q' : InPort), exec (.inputLineEnd p) s = .next t ∧ u 0 = s ∧
        (∀ (i : Nat) (k : Stream), q.streams[i]? = some k →
          (k.asm = [] → u (i + 1) = u i) ∧
          (k.asm ≠ [] → ∃ v, (u i).port p = .input v ∧ v.streams[i]? = some k ∧
            (u i).LinePlaced p v i k k.asm (u (i + 1)))) ∧
        (u q.streams.length).port p = .input q' ∧
        t = (u q.streams.length).setPort p (.input { q' with lines := lines, maxW := width, x := 0 })) ∧
    (∀ t, exec (.inputLineEnd p) s = .next t → exec (.inputFrameStart p) s = exec (.inputFrameStart p) t) ∧
    (∃ t q', exec (.inputFrameStart p) s = .next t ∧ t.port p = .input q' ∧
      q'.geometry = (if 1 ≤ lines then some { width := width, height := lines } else none) ∧
      q'.lines = 0 ∧ q'.x = 0 ∧ q'.maxW = 0 ∧ q'.counter = q.counter + 1 ∧ q'.measuring = true ∧
      q'.silence = some 100000 ∧ q'.streams.length = q.streams.length ∧
      t.link = s.link ∧ t.node = s.node ∧ t.view = s.view ∧ t.svc = s.svc ∧ t.sched.credit = s.sched.credit ∧
      (∀ (i : Nat) (k : Stream), q.streams[i]? = some k → ∃ k', q'.streams[i]? = some k' ∧ k'.win = k.win ∧ k'.asm = [] ∧
        k'.state =
          (if k.win.enabled = false ∨ lines = 0 then .idle
          else if s.node.state ≠ .run then .suspended
          else if k.win.shed = true ∧ s.view.demand = true then .suspended
          else .running) ∧
        (k'.state ≠ .running → k'.frame = none))) ∧
    ∃ (v t : State) (qv q0 : InPort) (u : Nat → State), exec (.inputLineEnd p) s = .next v ∧
      exec (.inputFrameStart p) s = .next t ∧ v.port p = .input qv ∧ qv.streams.length = q.streams.length ∧
      let geometry : Option Size := if 1 ≤ lines then some { width := width, height := lines } else none
      let goal : Stream → StreamState := fun k =>
        if k.win.enabled = false ∨ lines = 0 then .idle
        else if s.node.state ≠ .run then .suspended
        else if k.win.shed = true ∧ s.view.demand = true then .suspended
        else .running
      let suspends : Nat → Prop := fun i => ∃ k, qv.streams[i]? = some k ∧ k.state ≠ .suspended ∧ goal k = .suspended
      let leaves : PicEntry → Prop := fun e => ∃ i, suspends i ∧ e.index = streamIndex p i
      q0 = { qv with
        geometry := geometry, lines := 0, x := 0, maxW := 0, counter := q.counter + 1, measuring := true
        silence := some 100000
        streams := qv.streams.map (fun k =>
          if goal k = k.state then k
          else { k with
            state := goal k, frame := none, asm := [], drop := if k.state = .running then false else k.drop }) } ∧
      u 0 = { v.setPort p (.input q0) with sched := (u 0).sched, store := (u 0).store } ∧
      (u 0).sched = { v.sched with
        safeQ := (u 0).sched.safeQ, normalQ := (u 0).sched.normalQ, starved := (u 0).sched.starved } ∧
      ((u 0).sched.starved = true → v.sched.starved = true) ∧
      ((∀ i, ¬suspends i) → (u 0).sched = v.sched ∧ (u 0).store = v.store) ∧
      (∃ keep : PicEntry → Bool, (∀ e, keep e = true ↔ ¬leaves e) ∧ (u 0).sched.safeQ = v.sched.safeQ.filter keep ∧
        (u 0).sched.normalQ = v.sched.normalQ.filter keep) ∧
      (∀ x, x ∈ (u 0).store ↔ x ∈ v.store ∧
        ∀ e, e ∈ v.sched.safeQ ∨ e ∈ v.sched.normalQ → leaves e → e.isMark = true ∨ e.slot ≠ x.slot) ∧
      (∀ (i : Nat) (k : Stream), q0.streams[i]? = some k → ∃ w, (u i).port p = .input w ∧ w.streams[i]? = some k ∧
        w.geometry = geometry ∧ w.counter = q.counter + 1 ∧ (u i).FrameBegun p w i k (u (i + 1))) ∧
      t = u q.streams.length

/-- An active pixel that is counted (R75, R76, R85): the column rises by 1, and each window whose next column it is takes
it into its assembly buffer, which is emptied when the marked width is reached. In RUN the windows are served in order of
stream index, and a line that is then finished is placed: where slots are free (for a NORMAL line, 5 while a SAFE stream of
the station runs, R89) and its queue holds fewer than 16 or 48 entries, its LINE joins the tail (R88) and its converted words
the lowest free slot (R87); otherwise it is dropped, counted, and SEND_DROP raised when the drop flag was clear (R90, R91).
Nothing else changes. A pixel of a line after the 2048th, or after the 4096th of its line, is neither counted nor cut (R76), and
in LOADING and FALLBACK whatever arrives on a port is ignored (R75). The packed words are those of 12.3. The model's choices: the slot (log 8), when pixels are measured (logs 16, 41), the 8 bits an 8-bit
port takes (log 32), and that a silence left due comes first (log 2). -/
def Obligations.ActivePixelTaken : Prop :=
  (∀ (s : State) (p : PortId) (q : InPort) (r g b : Component), s.running →
    (s.node.state = .run ∨ s.node.state = .mute ∨ s.node.state = .standby) → s.port p = .input q →
    q.silence ≠ some 0 → q.measuring = true → q.lines < 2048 → q.x < 4096 →
    let wide : Component → Component := fun v => BitVec.ofNat 10 (v.toNat % 256 * 4 + v.toNat % 256 / 64)
    let px : Pixel := if q.cfg.tenBit then { r := r, g := g, b := b } else { r := wide r, g := wide g, b := wide b }
    ∃ t q', exec (.activePixel p r g b) s = .next t ∧ t.port p = .input q' ∧ q'.x = q.x + 1 ∧ q'.lines = q.lines ∧
      q'.geometry = q.geometry ∧ q'.counter = q.counter ∧ t.link = s.link ∧ t.node = s.node ∧ t.view = s.view ∧
      (∀ (i : Nat) (k : Stream) (f : Size), q.streams[i]? = some k → k.frame = some f →
        ∃ k', q'.streams[i]? = some k' ∧ k'.frame = some f ∧ k'.state = k.state ∧
          k'.asm =
            (if k.state = .running ∧ k.win.y0 ≤ q.lines ∧ q.lines < k.win.y0 + f.height ∧
                q.x = k.win.x0 + k.win.phase + k.win.step * k.asm.length then
              (if k.asm.length + 1 < f.width then k.asm ++ [px] else [])
            else k.asm)) ∧
      (s.node.state = .run → ∃ u : Nat → State, u 0 = s ∧
        (∀ (i : Nat) (k : Stream), q.streams[i]? = some k →
          let takes : Size → Prop := fun f =>
            k.frame = some f ∧ k.state = .running ∧ k.win.y0 ≤ q.lines ∧ q.lines < k.win.y0 + f.height ∧
              q.x = k.win.x0 + k.win.phase + k.win.step * k.asm.length
          ((∀ f, ¬takes f) → u (i + 1) = u i) ∧
          ∀ f, takes f → ∃ v, (u i).port p = .input v ∧ v.streams[i]? = some k ∧
            (k.asm.length + 1 < f.width → u (i + 1) =
              (u i).setPort p (.input { v with streams := v.streams.set i { k with asm := k.asm ++ [px] } })) ∧
            (f.width ≤ k.asm.length + 1 → (u i).LinePlaced p v i k (k.asm ++ [px]) (u (i + 1)))) ∧
        (u q.streams.length).port p = .input { q' with x := q.x } ∧
        t = (u q.streams.length).setPort p (.input q'))) ∧
  (∀ (s : State) (p : PortId) (q : InPort) (r g b : Component), s.running →
    (s.node.state = .run ∨ s.node.state = .mute ∨ s.node.state = .standby) → s.port p = .input q →
    q.silence ≠ some 0 → (2048 ≤ q.lines ∨ 4096 ≤ q.x) → exec (.activePixel p r g b) s = .next s) ∧
  (∀ (s : State) (p : PortId) (r g b : Component), s.running → (s.node.state = .loading ∨ s.node.state = .fallback) →
    exec (.activePixel p r g b) s = .next s ∧ exec (.inputLineEnd p) s = .next s ∧
      exec (.inputFrameStart p) s = .next s) ∧
  ∀ ps : List Pixel,
    let r8 : Component → Byte := fun v => BitVec.ofNat 8 (min 255 ((v.toNat + 2) / 4))
    let bytes := ps.flatMap (fun x => [r8 x.r, r8 x.g, r8 x.b])
    let half : Pixel → Half := fun x =>
      BitVec.ofNat 5 (min 31 ((x.r.toNat + 16) / 32)) ++ BitVec.ofNat 6 (min 63 ((x.g.toNat + 8) / 16)) ++
        BitVec.ofNat 5 (min 31 ((x.b.toNat + 16) / 32))
    packLine .p30 ps = ps.map (fun x => 0#2 ++ x.r ++ x.g ++ x.b) ∧
    (packLine .p24 ps).length = (3 * ps.length + 3) / 4 ∧
    (∀ (j : Nat), j < (3 * ps.length + 3) / 4 → (packLine .p24 ps)[j]? =
      some (bytes.getD (4 * j) 0 ++ bytes.getD (4 * j + 1) 0 ++ bytes.getD (4 * j + 2) 0 ++ bytes.getD (4 * j + 3) 0)) ∧
    (packLine .p16 ps).length = (ps.length + 1) / 2 ∧
    ∀ j, j < (ps.length + 1) / 2 → (packLine .p16 ps)[j]? =
      some ((ps.map half).getD (2 * j) 0 ++ (ps.map half).getD (2 * j + 1) 0)

/-! ## Output ports -/

/-- An output frame start of a running port whose frame is over and with nothing due on it (R134, R135, R136). A shadow of
either record is taken over (R98), with the switch-blank count at SWB when either changes its subscription (R137) and one
lower otherwise; a changed MAIN subscription puts the lock in ACQUIRE at INC_nom, with the integrator kept from HOLDOVER
alone (R116, R117; log 12), where it holds its first added line, or in FREE for none; the current frame becomes the presented one and records of other frames go (R105); the silent-frame count of a record
watched for silence, MAIN in TRACK and OVERLAY while its source is PRESENT, is 0 when a marker was seen and one higher when
not, and any other record's stays (R108). The camera inset hold of a released port is cleared (R157). A FREE lock draws at
once, one in HOLDOVER counts its frame (R130), ACQUIRE enters TRACK when the lead is at least T, with LIMITED, LOCKED and the counts clear and the computation made at once
(R123), and begins a hold otherwise (R120), and TRACK stretches on an empty store (R127) or computes (R124 to R126), but does
neither while its source is about to be lost (R119). LOCK_ACQUIRED and LOCK_LOST are raised as the computation gives
(R126; FrameLockComputes). Static dither begins again from its
seed (R146). Before its frame is over the port takes no frame start. That the frame is over when the pixel periods given at
ticks make it so is the model's choice (log 15), and that a holdover which has now reached HOLD_FRAMES waits for
HOLDOVER_EXPIRY or the port's next event (log 2). -/
def Obligations.OutputFrameStarts : Prop :=
  ∀ (s : State) (p : PortId) (o : OutPort), s.running → s.port p = .output o → o.quiet s.tick = true →
    let ht := o.cfg.ha + o.cfg.hfp + o.cfg.hs + o.cfg.hbp
    let blank := ht * (o.cfg.vfp + o.cfg.vs + o.cfg.vbp)
    ((o.pres.pos ≠ .blanking ∨ o.pres.pixel < blank ∨ o.pres.stopPending = true ∨ o.lock.stretch ≠ none) →
      exec (.outputFrameStart p) s = .next s) ∧
    (o.pres.pos = .blanking → blank ≤ o.pres.pixel → o.pres.stopPending = false → o.lock.stretch = none →
    ∃ t o', exec (.outputFrameStart p) s = .next t ∧ t.port p = .output o' ∧ o'.pres.fillFrame = false ∧
      (∀ k, o.overlay = some k → ∃ k', o'.overlay = some k' ∧ k'.shadow = none ∧ k'.markerSeen = false ∧
        ((∀ v, k.shadow = some v → v.sub = k.active) →
          k'.queue = k.queue.filter (fun x => k.cur.map FrameInfo.no == some x.frame) ∧
          k'.silent = (if k.source = .present then (if k.markerSeen then 0 else k.silent + 1) else k.silent)) ∧
        k'.presented = k'.cur ∧ (∀ x ∈ k'.queue, k'.cur.map FrameInfo.no = some x.frame) ∧
        (∀ v, k.shadow = some v → k'.active = v.sub ∧ k'.x = v.x ∧ k'.y = v.y) ∧
        (k.shadow = none → k'.active = k.active ∧ k'.x = k.x ∧ k'.y = k.y ∧ k'.cur = k.cur)) ∧
      o'.pres.cutDone = false ∧ o'.pres.nextLine = 0 ∧ o'.pres.pixel = o.pres.pixel - blank ∧ o'.pres.driven = [] ∧
      o'.pres.ahead = [] ∧
      o'.pres.gen =
        (if o.cfg.dither = .fixed then (if o.cfg.ditherSeed = 0 then 0xFFFF#16 else o.cfg.ditherSeed) else o.pres.gen) ∧
      o'.pres.lastLine = List.replicate o.cfg.ha o.cfg.fill ∧
      o'.cam = { o.cam with insetHold := if o.cam.state = .idle then false else o.cam.insetHold } ∧
      o'.main.shadow = none ∧ o'.main.markerSeen = false ∧
      o'.main.presented = o'.main.cur ∧
      (∀ x ∈ o'.main.queue, o'.main.cur.map FrameInfo.no = some x.frame) ∧
      (∀ v, o.main.shadow = some v → v.sub ≠ o.main.active →
        o'.main.active = v.sub ∧ o'.main.cur = none ∧ o'.main.queue = [] ∧ o'.pres.blank = o.cfg.swb ∧
        ((v.sub = none ∨ 1 ≤ o.cfg.t) →
          o'.lock.inc = BitVec.ofNat 32 o.cfg.incNom ∧ o'.lock.limited = .clear ∧ o'.lock.locked = false) ∧
        (v.sub = none → o'.lock.state = .free ∧ o'.lock.integ = 0 ∧ o'.lock.stretch = none ∧ o'.pres.pos = .active) ∧
        (v.sub ≠ none → 1 ≤ o.cfg.t →
          o'.lock.state = .acquire ∧ o'.lock.integ = (if o.lock.state = .holdover then o.lock.integ else 0) ∧
          o'.lock.stretch = some { added := 0, ending := false, limit := false } ∧ o'.pres.pos = .added)) ∧
      (∀ k v, o.overlay = some k → k.shadow = some v → v.sub ≠ k.active →
        o'.pres.blank = o.cfg.swb ∧ ∃ k', o'.overlay = some k' ∧ k'.cur = none ∧ k'.queue = []) ∧
      ((∀ v, o.main.shadow = some v → v.sub = o.main.active) →
        o'.main.active = o.main.active ∧ o'.main.cur = o.main.cur ∧
        o'.main.queue = o.main.queue.filter (fun x => o.main.cur.map FrameInfo.no == some x.frame) ∧
        o'.main.silent =
          (if o.lock.state = .track then (if o.main.markerSeen then 0 else o.main.silent + 1) else o.main.silent) ∧
        ((∀ k v, o.overlay = some k → k.shadow = some v → v.sub = k.active) →
          o'.pres.blank = o.pres.blank - 1) ∧
        (o.lock.state = .free → o'.lock = { o.lock with linesAdded := 0 } ∧ o'.pres.pos = .active ∧ t.att = s.att) ∧
        (o.lock.state = .holdover →
          o'.lock = { o.lock with linesAdded := 0, holdCount := o.lock.holdCount + 1 } ∧ o'.pres.pos = .active ∧
            t.att = s.att) ∧
        (o.lock.state = .acquire → o.cfg.t ≤ o'.main.lead →
          let made := FrameLock.compute o.cfg o'.main.lead
            { o.lock with
              state := .track, limited := .clear, locked := false, inWin := 0, outWin := 0, linesAdded := 0 }
          o'.lock = made.1 ∧ o'.lock.state = .track ∧ o'.pres.pos = .active ∧
            t.att = { s.att with pending := s.att.pending ||| made.2 }) ∧
        (o.lock.state = .acquire → o'.main.lead < o.cfg.t →
          o'.lock = { o.lock with stretch := some { added := 0, ending := false, limit := false } } ∧
            o'.pres.pos = .added ∧ t.att = s.att) ∧
        (o.lock.state = .track → o'.main.silenceDue = true →
          o'.lock = { o.lock with linesAdded := 0 } ∧ o'.pres.pos = .active ∧ t.att = s.att) ∧
        (o.lock.state = .track → o'.main.silenceDue = false → (0 < o'.main.lead ∨ o.cfg.vStretchMax = 0) →
          let made := FrameLock.compute o.cfg o'.main.lead { o.lock with linesAdded := 0 }
          o'.lock = made.1 ∧ o'.pres.pos = .active ∧ t.att = { s.att with pending := s.att.pending ||| made.2 }) ∧
        (o.lock.state = .track → o'.main.silenceDue = false → o'.main.lead = 0 → 0 < o.cfg.vStretchMax →
          o'.lock = { o.lock with stretch := some { added := 0, ending := false, limit := false } } ∧
            o'.pres.pos = .added ∧ t.att = s.att)) ∧
      t.link = s.link ∧ t.sched = s.sched ∧ t.view = s.view ∧ t.svc = s.svc ∧ t.node = s.node)

/-- The computation of TRACK (R124, R125): error and integrator with anti-windup, then the steering, INC clamped to
INC_nom ± DEV, and LIMITED by whether and where the clamp acted. The lock judgement (R126): four computations in a row
within W set LOCKED and raise LOCK_ACQUIRED, two in a row outside it clear LOCKED and raise LOCK_LOST. -/
def Obligations.FrameLockComputes : Prop :=
  (∀ (c : OutCfg) (l : FrameLock) (lead : Nat), c.lockOk = true →
    let e : Int := max (-255) (min 255 ((lead : Int) - c.t))
    let i : Int :=
      if (l.limited = .upper ∧ 0 < e) ∨ (l.limited = .lower ∧ e < 0) then l.integ
      else max (-1048576) (min 1048575 (l.integ + e))
    let d : Int := (c.kp * e + (c.ki * i).fdiv 64) * 2 ^ c.gx
    let dev : Int := (c.incNom / 2 ^ c.devShift : Nat)
    let r := (l.compute c lead).1
    r.lastLead = lead ∧ r.lastError = e ∧ r.integ = i ∧
      (r.inc.toNat : Int) = max ((c.incNom : Int) - dev) (min ((c.incNom : Int) + dev) (c.incNom + d)) ∧
      r.limited = (if dev < d then .upper else if d < -dev then .lower else .clear) ∧
      r.state = l.state ∧ r.stretch = l.stretch) ∧
  ∀ (c : OutCfg) (l : FrameLock) (lead : Nat),
    let e : Int := max (-255) (min 255 ((lead : Int) - c.t))
    let r := l.compute c lead
    (l.locked = false → (e.natAbs ≤ c.w →
        (l.inWin < 3 → r.1.locked = false ∧ r.1.inWin = l.inWin + 1 ∧ r.2 = 0) ∧
        (3 ≤ l.inWin → r.1.locked = true ∧ r.1.inWin = 0 ∧ r.2 = Cause.lockAcquired.bit)) ∧
      (c.w < e.natAbs → r.1.locked = false ∧ r.1.inWin = 0 ∧ r.2 = 0)) ∧
    (l.locked = true → (e.natAbs ≤ c.w → r.1.locked = true ∧ r.1.outWin = 0 ∧ r.2 = 0) ∧
      (c.w < e.natAbs →
        (l.outWin = 0 → r.1.locked = true ∧ r.1.outWin = 1 ∧ r.2 = 0) ∧
        (1 ≤ l.outWin → r.1.locked = false ∧ r.1.outWin = 0 ∧ r.2 = Cause.lockLost.bit)))

/-- The added lines of a hold or a stretch (R121, R122, R123, R127, R129, R138), each HT pixel periods long (R134; that
they come at ticks, log 15). At the end of one, the current frame, where there is one, is presented; when the lead reaches T in ACQUIRE, or 1 in
TRACK, the hold ends and the frame goes on to its active lines, in TRACK with the computation made at that lead (R123 to R126;
an entry to TRACK clears LIMITED, LOCKED and the counts first), which raises LOCK_ACQUIRED and LOCK_LOST as it gives; otherwise
the count rises. A stretch that is
ending gives way to the active lines, and in a cut frame to the next output frame start, which may come at once. A hold
that has added 2 × VT lines gives up and draws a fill frame; a stretch that has added VSTRETCH_MAX lines ends with the
computation at lead 0. Before its line is over the command changes nothing. That a line which reaches both lead and limit
counts as success (log 14), and that a limit reached waits for its own command (log 2), are the model's choices; that a stretch which is ending, or whose
frame is cut, presents no frame anew at its line's end, so that the MAIN record stays as it is, is deduced (log 13). -/
def Obligations.AddedLinesJudged : Prop :=
  (∀ (s : State) (p : PortId) (o : OutPort) (st : Stretch), s.running → s.port p = .output o →
    o.quiet s.tick = true → o.lock.stretch = some st →
    let ht := o.cfg.ha + o.cfg.hfp + o.cfg.hs + o.cfg.hbp
    ((o.pres.pos ≠ .added ∨ o.pres.pixel < ht) → exec (.addedLineEnd p) s = .next s) ∧
    (o.pres.pos = .added → ht ≤ o.pres.pixel →
      (o.pres.cutDone = true → exec (.addedLineEnd p) s = .next (s.setPort p (.output { o with
        lock := { o.lock with stretch := none, linesAdded := st.added + 1 }
        pres := { o.pres with
          pos := .blanking, nextLine := o.cfg.va
          pixel := o.pres.pixel - ht + ht * (o.cfg.vfp + o.cfg.vs + o.cfg.vbp) } }))) ∧
      (o.pres.cutDone = false → st.ending = true → exec (.addedLineEnd p) s = .next (s.setPort p (.output { o with
        lock := { o.lock with stretch := none, linesAdded := st.added + 1 }
        pres := { o.pres with pos := .active, line := 0, nextLine := 0, pixel := o.pres.pixel - ht } }))) ∧
      (o.pres.cutDone = false → st.ending = false → (o.lock.state = .acquire ∨ o.lock.state = .track) →
        ∃ t o', exec (.addedLineEnd p) s = .next t ∧ t.port p = .output o' ∧ o'.main.cur = o.main.cur ∧
          (o.main.cur = none → o'.main = o.main) ∧
          (∀ f, o.main.cur = some f → o'.main.presented.map FrameInfo.no = some f.no ∧
            (o.main.presented.map FrameInfo.no = some f.no → o'.main = o.main) ∧
            (o.main.presented.map FrameInfo.no ≠ some f.no →
              o'.main = { o.main with
                presented := some f, queue := o.main.queue.filter (fun x => x.frame == f.no) })) ∧
          o'.overlay = o.overlay ∧ o'.pres.pixel = o.pres.pixel - ht ∧
          (let goal := if o.lock.state = .acquire then o.cfg.t else 1
           let made := FrameLock.compute o.cfg o'.main.lead
             (if o.lock.state = .acquire then
               { o.lock with
                 state := .track, limited := .clear, locked := false, inWin := 0, outWin := 0, stretch := none
                 linesAdded := st.added + 1 }
             else { o.lock with stretch := none, linesAdded := st.added + 1 })
           if goal ≤ o'.main.lead then
            o'.lock = made.1 ∧ o'.lock.state = .track ∧ o'.pres.pos = .active ∧ o'.pres.nextLine = 0 ∧
              t.att = { s.att with pending := s.att.pending ||| made.2 }
          else
            o'.pres.pos = .added ∧ t.att = s.att ∧
            ∃ st', o'.lock = { o.lock with stretch := some st' } ∧ st'.added = st.added + 1 ∧ st'.ending = false ∧
              (st'.limit = true ↔
                (if o.lock.state = .acquire then 2 * o.cfg.vt else o.cfg.vStretchMax) ≤ st.added + 1))))) ∧
  (∀ (s : State) (p : PortId) (o : OutPort) (st : Stretch), s.running → s.port p = .output o →
    o.lock.state = .acquire → o.lock.stretch = some st → st.ending = false → st.limit = true →
    ∃ t, exec (.holdGiveUp p) s = .next t ∧
      t = s.setPort p (.output { o with
        lock := { o.lock with stretch := none, linesAdded := st.added }
        pres := { o.pres with pos := .active, line := 0, nextLine := 0, fillFrame := true } })) ∧
  ∀ (s : State) (p : PortId) (o : OutPort) (st : Stretch), s.running → s.port p = .output o →
    o.lock.state = .track → o.lock.stretch = some st → st.ending = false → st.limit = true →
    ∃ t o', exec (.stretchLimit p) s = .next t ∧ t.port p = .output o' ∧
      (let made := FrameLock.compute o.cfg 0 { o.lock with stretch := none, linesAdded := st.added }
       o'.lock = made.1 ∧ t.att = { s.att with pending := s.att.pending ||| made.2 }) ∧
      o'.pres.pos = .active ∧ o'.pres.nextLine = 0 ∧ o'.pres.fillFrame = o.pres.fillFrame ∧ o'.main = o.main ∧
      t.link = s.link ∧ t.sched = s.sched ∧ t.view = s.view

/-- Loss of source by silence and its end (R108, R109, R119, R130, R156): a record with three silent frames is LOST, its
frame forgotten and its queue emptied, SOURCE_LOST raised; with a MAIN record a tracking Frame Lock goes to HOLDOVER with
its INC and integrator kept. A port in SHOWING is LATE then, with CAMERA_LATE pending and the FAULT pin asserted (R156, R160),
when it is a FULL port whose lock enters HOLDOVER or an INSET port whose OVERLAY record is the one. A holdover of HOLD_FRAMES frames ends in FREE at INC_nom with a clear integrator. -/
def Obligations.SilenceLosesSource : Prop :=
  (∀ (s : State) (p : PortId) (o : OutPort), s.running → s.port p = .output o → 3 ≤ o.main.silent →
    ∃ t o', exec (.silentFramesLost p .main) s = .next t ∧ t.port p = .output o' ∧ o'.main.source = .lost ∧
      o'.main.silent = 0 ∧ o'.main.cur = none ∧ o'.main.queue = [] ∧ o'.main.active = o.main.active ∧
      o'.main.tornCount = (if o.main.torn then holdInc o.main.tornCount else o.main.tornCount) ∧
      o'.overlay = o.overlay ∧ o'.pres = o.pres ∧ t.isPending .sourceLost = true ∧
      (o.lock.state = .track → o'.lock.state = .holdover ∧ o'.lock.inc = o.lock.inc ∧ o'.lock.integ = o.lock.integ ∧
        o'.lock.locked = false ∧ o'.lock.holdCount = 0) ∧
      (o.lock.state ≠ .track → o'.lock = o.lock) ∧
      (let late : Prop := o.cfg.camMode = .full ∧ o.cam.state = .showing ∧ o.lock.state = .track
       (late → o'.cam = { o.cam with state := .late } ∧ t.isPending .cameraLate = true ∧ t.fault = true) ∧
        (¬late → o'.cam = o.cam ∧ t.fault = s.fault)) ∧
      t.link = s.link ∧ t.sched = s.sched ∧ t.view = s.view ∧ t.node = s.node) ∧
  (∀ (s : State) (p : PortId) (o : OutPort) (k : Sink), s.running → s.port p = .output o → o.overlay = some k →
    3 ≤ k.silent →
    ∃ t o' k', exec (.silentFramesLost p .overlay) s = .next t ∧ t.port p = .output o' ∧ o'.overlay = some k' ∧
      k'.source = .lost ∧ k'.silent = 0 ∧ k'.cur = none ∧ k'.queue = [] ∧ k'.active = k.active ∧
      o'.main = o.main ∧ o'.lock = o.lock ∧ o'.pres = o.pres ∧ t.isPending .sourceLost = true ∧
      (let late : Prop := o.cfg.camMode = .inset ∧ o.cam.state = .showing
       (late → o'.cam = { o.cam with state := .late } ∧ t.isPending .cameraLate = true ∧ t.fault = true) ∧
        (¬late → o'.cam = o.cam ∧ t.fault = s.fault)) ∧
      t.link = s.link ∧ t.sched = s.sched ∧ t.view = s.view ∧ t.node = s.node) ∧
  ∀ (s : State) (p : PortId) (o : OutPort), s.running → s.port p = .output o → o.lock.state = .holdover →
    o.cfg.holdFrames ≤ o.lock.holdCount →
    ∃ t, exec (.holdoverExpiry p) s = .next t ∧
      t = s.setPort p (.output { o with lock := { o.lock with
        state := .free, inc := BitVec.ofNat 32 o.cfg.incNom, integ := 0, limited := .clear, locked := false
        inWin := 0, outWin := 0, holdCount := 0, stretch := o.lock.stretch.map Stretch.stop } })

/-- An active line, at line 0 or when the line before it is over (R134; log 15) (R139 to R147, R106). In a fill frame it is
fill. Otherwise MAIN and OVERLAY are each read, every record of the presented frame that is late for the line leaving the
queue first. MAIN: where the picture has no line the main line is fill; a consumed record leaves the queue and is the main
line, cropped or filled to the panel, and becomes the last output line; a line that was to be read and was not there repeats
the last output line and counts, as underrun too when the queue is empty. OVERLAY: a consumed record replaces the main
line's pixels, whatever the main line is, column by column from the inset column on, but for its key-coloured pixels while
key compare is on (R142, R143); where it has no line, or none is consumed, the main line stays. A switch-blank frame shows
fill in place of any of them (R147). The line's pixels are driven, reduced to the panel's depth, one in each pixel period: at its start that of the period
in progress, and those of periods before it that were given to the line, and the others at the ticks (TickMovesTimers). A last line whose periods have
all been given has given way to the blanking (R134; log 15). That the choice of every column is made at the line's start is
the model's (log 54). A camera line presented, one
consumed from MAIN of a FULL port or from OVERLAY of an INSET port, takes SWITCHING or LATE to SHOWING (R156). -/
def Obligations.ActiveLineShown : Prop :=
  ∀ (s : State) (p : PortId) (o : OutPort), s.running → s.port p = .output o → o.quiet s.tick = true →
    o.pres.pos = .active → o.lock.stretch = none → o.pres.nextLine < o.cfg.va →
    let ht := o.cfg.ha + o.cfg.hfp + o.cfg.hs + o.cfg.hbp
    (o.pres.nextLine = 0 ∨ ht ≤ o.pres.pixel) →
    let y := o.pres.nextLine
    let fill := List.replicate o.cfg.ha o.cfg.fill
    let cropped : LineRec → List Pixel :=
      fun x => x.pixels.take o.cfg.ha ++ List.replicate (o.cfg.ha - x.pixels.length) o.cfg.fill
    let waits : Prop := o.cam.state = .switching ∨ o.cam.state = .late
    let left : Half → Nat → List LineRec → List LineRec :=
      fun f n q => q.dropWhile (fun x => x.frame == f && decide (x.line < n))
    let due : Half → Nat → LineRec → Prop := fun f n x => x.full = true ∧ x.frame = f ∧ x.line = n
    let next := if o.pres.cutDone then o.cfg.va else y + 1
    let pixel := if y = 0 then o.pres.pixel else o.pres.pixel - ht
    ∃ t o', exec (.activeLineStart p) s = .next t ∧ t.port p = .output o' ∧ o'.lock = o.lock ∧ o'.pres.line = y ∧
      o'.pres.nextLine = next ∧
      let shows : List Pixel → Prop := fun l =>
        o'.pres.gen = (driveLine o.cfg o.pres.gen (l.take (pixel + 1))).2 ∧
          if o.cfg.va ≤ next ∧ ht ≤ pixel then
            o'.pres.pos = .blanking ∧ o'.pres.pixel = pixel - ht ∧ o'.pres.driven = [] ∧ o'.pres.ahead = []
          else
            o'.pres.pos = .active ∧ o'.pres.pixel = pixel ∧ o'.pres.ahead = l.drop (pixel + 1) ∧
              o'.pres.driven = (driveLine o.cfg o.pres.gen (l.take (pixel + 1))).1
      t.link = s.link ∧ t.sched = s.sched ∧ t.att = s.att ∧
      (o.pres.fillFrame = true →
        o'.main = o.main ∧ o'.overlay = o.overlay ∧ o'.cam = o.cam ∧ o'.pres.lastLine = o.pres.lastLine ∧
        o'.pres.repeated = o.pres.repeated ∧ o'.pres.underrun = o.pres.underrun ∧
        shows fill) ∧
      (o.pres.fillFrame = false → ∃ (base whole : List Pixel) (fromMain fromOverlay : Bool),
        shows (if o.pres.blank = 0 then whole else fill) ∧
        o'.cam = { o.cam with
          state :=
            if waits ∧ o.pres.blank = 0 ∧
              ((o.cfg.camMode = .full ∧ fromMain = true) ∨ (o.cfg.camMode = .inset ∧ fromOverlay = true))
            then .showing else o.cam.state } ∧
        ((∀ f, o.main.presented = some f → f.height ≤ y) →
          o'.main = o.main ∧ base = fill ∧ fromMain = false ∧ o'.pres.lastLine = o.pres.lastLine ∧
          o'.pres.repeated = o.pres.repeated ∧ o'.pres.underrun = o.pres.underrun) ∧
        (∀ f, o.main.presented = some f → y < f.height →
          (∀ x rest, left f.no y o.main.queue = x :: rest → due f.no y x →
            o'.main = { o.main with queue := rest } ∧ base = cropped x ∧ fromMain = true ∧
            o'.pres.lastLine = cropped x ∧ o'.pres.repeated = o.pres.repeated ∧
            o'.pres.underrun = o.pres.underrun) ∧
          ((∀ x rest, left f.no y o.main.queue = x :: rest → ¬due f.no y x) →
            o'.main = { o.main with queue := left f.no y o.main.queue } ∧ base = o.pres.lastLine ∧ fromMain = false ∧
            o'.pres.lastLine = o.pres.lastLine ∧ o'.pres.repeated = holdInc o.pres.repeated ∧
            o'.pres.underrun =
              (if left f.no y o.main.queue = [] then holdInc o.pres.underrun else o.pres.underrun))) ∧
        (o.overlay = none → o'.overlay = none ∧ whole = base ∧ fromOverlay = false) ∧
        ∀ k, o.overlay = some k →
          ((∀ g, k.presented = some g → y < k.y ∨ g.height ≤ y - k.y) →
            o'.overlay = some k ∧ whole = base ∧ fromOverlay = false) ∧
          ∀ g, k.presented = some g → k.y ≤ y → y - k.y < g.height →
            ((∀ z zs, left g.no (y - k.y) k.queue = z :: zs → ¬due g.no (y - k.y) z) →
              o'.overlay = some { k with queue := left g.no (y - k.y) k.queue } ∧ whole = base ∧ fromOverlay = false) ∧
            ∀ z zs, left g.no (y - k.y) k.queue = z :: zs → due g.no (y - k.y) z →
              o'.overlay = some { k with queue := zs } ∧ fromOverlay = true ∧ whole.length = base.length ∧
              ∀ c, c < base.length → whole[c]? =
                match z.pixels[c - k.x]? with
                | none => base[c]?
                | some v =>
                  if c < k.x ∨ (o.cfg.keyEnable = true ∧ o.cam.insetHold = false ∧ v = o.cfg.key) then base[c]?
                  else some v)

/-- Reduction to the panel's depth with dither off or at depth 10 (R145): each component is rounded to the nearest, a
half up, and saturated; whatever the dither mode, no component driven exceeds 2^d − 1. With dither static or temporal at
a depth below 10, the component gets its k bits of the generator's value in place of the half: red the low k bits, green
the next, blue those above; and in every mode the generator advances once before each pixel (its advance and fields are
those of R146). -/
def Obligations.PanelDepthReduced : Prop :=
  ∀ (c : OutCfg) (g : Half) (ps : List Pixel), (c.depth = 6 ∨ c.depth = 8 ∨ c.depth = 10) →
    let k : Nat := 10 - c.depth
    let h : Nat := if c.depth = 10 then 0 else 2 ^ (k - 1)
    let red : Nat → Component → Nat := fun add v => min (2 ^ c.depth - 1) ((v.toNat + add) / 2 ^ k)
    ((c.dither = .off ∨ c.depth = 10) →
      (driveLine c g ps).1.map (fun x => (x.r.toNat, x.g.toNat, x.b.toNat)) =
        ps.map (fun x => (red h x.r, red h x.g, red h x.b))) ∧
    ((c.dither ≠ .off ∧ c.depth ≠ 10) →
      ∀ (j : Nat) (x : Pixel), ps[j]? = some x →
        let r := (Nat.iterate advance (j + 1) g).toNat
        (driveLine c g ps).1[j]?.map (fun v => (v.r.toNat, v.g.toNat, v.b.toNat)) =
          some (red (r % 2 ^ k) x.r, red (r / 2 ^ k % 2 ^ k) x.g, red (r / 2 ^ (2 * k) % 2 ^ k) x.b)) ∧
    (driveLine c g ps).1.length = ps.length ∧ (driveLine c g ps).2 = Nat.iterate advance ps.length g ∧
    ∀ x ∈ (driveLine c g ps).1, x.r.toNat < 2 ^ c.depth ∧ x.g.toNat < 2 ^ c.depth ∧ x.b.toNat < 2 ^ c.depth

/-! ## The service port -/

/-- Frames that are no request of a defined kind (R163, R164, R183): a frame whose bytes do not match its length is
discarded and the response stands; a read frame drives the response, 0 beyond its end, and takes it; a frame of an
undefined kind is answered UNKNOWN. Nothing but the service port changes. A response is its code byte, a length byte and that
many answer bytes, the empty response 00h with length 0, and the codes are those of 12.5. -/
def Obligations.FramesWithoutRequest : Prop :=
  [ResponseCode.done, .accepted, .busy, .badArg, .unknown, .state, .held, .empty].map ResponseCode.code =
    [1, 2, 3, 4, 5, 6, 7, 8] ∧
  ∀ s : State, s.running →
    (∀ frame, frameMismatch frame = true →
      exec (.requestFrameDiscarded frame) s = .next { s with svc := { s.svc with request := [] } }) ∧
    (∀ n, 1 ≤ n → ∃ t, exec (.readFrame n) s = .next t ∧
      t = { s with svc := { s.svc with request := [], response := none, sdo := t.svc.sdo } } ∧
      t.svc.sdo.length = n - 1 ∧
      let bytes : List Byte :=
        match s.svc.response with
        | none => [0, 0]
        | some r => r.code.code :: BitVec.ofNat 8 r.data.length :: r.data
      ∀ i, i < n - 1 → t.svc.sdo[i]? = some (bytes.getD i 0)) ∧
    ∀ k args, k ≠ 0 → 13 < k.toNat → args.length ≤ 255 →
      exec (.unknownRequest k args) s =
        .next { s with svc := { s.svc with request := [], response := some { code := .unknown, data := [] } } }

/-- SHOW and INSET (R165, R96, R158), with valid arguments in RUN, MUTE or STANDBY: HELD while Camera Priority holds the
record, the value taken into its keeping; DONE when the record already has the value and no shadow; else ACCEPTED, the
value in the shadow. BAD ARGUMENT answers a wrong number of argument bytes (R164), a port that is no output, a stream of
128 to 254, and an INSET to a port with no OVERLAY record or to a position outside the panel. In LOADING or FALLBACK the
answer is STATE (R164). -/
def Obligations.ShowAndInset : Prop :=
  (∀ (s : State) (o : OutPort) (p : PortId) (pb tb : Byte) (sub : Option StreamId), s.running →
    portArg pb = some p → streamArg tb = some sub → s.port p = .output o → s.node.state.full = true →
    (exec (.showStream [pb, tb]) s =
      if o.cfg.camMode = .full ∧ o.cam.state ≠ .idle then
        .next ((s.setPort p (.output { o with
          cam := { o.cam with resume := some { sub := sub, x := 0, y := 0 } } })).respond .held [])
      else if o.main.shadow = none ∧ o.main.active = sub then .next (s.respond .done [])
      else
        .next ((s.setPort p (.output { o with
          main := { o.main with shadow := some { sub := sub, x := 0, y := 0 } } })).respond .accepted [])) ∧
    (∀ (xh xl yh yl : Byte) (k : Sink), o.overlay = some k → 256 * xh.toNat + xl.toNat < o.cfg.ha →
      256 * yh.toNat + yl.toNat < o.cfg.va →
      let v : Placed := { sub := sub, x := 256 * xh.toNat + xl.toNat, y := 256 * yh.toNat + yl.toNat }
      exec (.inset [pb, tb, xh, xl, yh, yl]) s =
        if o.cfg.camMode = .inset ∧ o.cam.state ≠ .idle then
          .next ((s.setPort p (.output { o with cam := { o.cam with resume := some v } })).respond .held [])
        else if k.shadow = none ∧ k.active = sub ∧ k.x = v.x ∧ k.y = v.y then .next (s.respond .done [])
        else
          .next ((s.setPort p (.output { o with overlay := some { k with shadow := some v } })).respond .accepted [])) ∧
    ∀ xh xl yh yl : Byte,
      (o.overlay = none ∨ o.cfg.ha ≤ 256 * xh.toNat + xl.toNat ∨ o.cfg.va ≤ 256 * yh.toNat + yl.toNat) →
      exec (.inset [pb, tb, xh, xl, yh, yl]) s = .next (s.respond .badArg [])) ∧
  (portArg 0 = some .a ∧ portArg 1 = some .b ∧ streamArg 0xFF = some none ∧
    ∀ b : Byte, b.toNat < 128 → streamArg b = some (some (BitVec.ofNat 7 b.toNat))) ∧
  ∀ s : State, s.running →
    (s.node.state.full = true →
      (∀ args, args.length ≤ 255 → args.length ≠ 2 → exec (.showStream args) s = .next (s.respond .badArg [])) ∧
      (∀ args, args.length ≤ 255 → args.length ≠ 6 → exec (.inset args) s = .next (s.respond .badArg [])) ∧
      ∀ pb tb xh xl yh yl : Byte,
        (2 ≤ pb.toNat ∨ (128 ≤ tb.toNat ∧ tb.toNat ≤ 254) ∨
          (pb.toNat = 0 ∧ ∀ o, s.portA ≠ .output o) ∨ (pb.toNat = 1 ∧ ∀ o, s.portB ≠ .output o)) →
        exec (.showStream [pb, tb]) s = .next (s.respond .badArg []) ∧
        exec (.inset [pb, tb, xh, xl, yh, yl]) s = .next (s.respond .badArg [])) ∧
    ((s.node.state = .loading ∨ s.node.state = .fallback) → ∀ args : List Byte, args.length ≤ 255 →
      exec (.showStream args) s = .next (s.respond .state []) ∧ exec (.inset args) s = .next (s.respond .state []))

/-- Queries (R164, R166, R167, R173). STATUS is answered in every node state: the node and link records, the entry of a
station, absent or with its fields, its offered streams in order of stream index (R73, 12.5), and the record of a port: of
an input as R91 gives, of an output its sink records, Frame Lock, Presenter and camera part as R113, R132, R150 and R162
give. PROBE, in RUN, MUTE and STANDBY, answers the table's item for a stream with the judgements of each output port (size
agrees, room for T + 2), or not offered. ATTENTION answers the pending set, the enable set with CAMERA_LATE in it and the
first code, the lowest of the causes pending and enabled, or 0 (CAMERA_LATE, code 1, is always enabled); the ATN pin is
asserted exactly while there is such a cause (R172), and FAULT while CAMERA_LATE is pending (R160). CLEAR removes the named
pending causes, but CAMERA_LATE only while no port is LATE (R160), and answers those it removed. Another selector, or a wrong
number of argument bytes, is answered BAD ARGUMENT, and a request that the node state does not allow STATE (R164). Fields,
flags, absent values, lists and codes are those of 12.5 and 12.6. The model's choices: the bytes of fields of no stated range
and the place of an input port's drop counts, at the head of each window's item (log 11), the place of the age behind the entry's fields, the last-seen time among them (log 42), the codes of the roles (log
43), the presence byte of the camera part (log 44), and the number of an added line that no stretch counts (log 46). That a
stream's marked size is given only beside a current or open frame is deduced (log 27). -/
def Obligations.QueriesAnswer : Prop :=
  (∀ s : State, s.running →
    let sub : Option StreamId → List Byte := optBytes (fun x => byte1 x.toNat)
    let pos : Nat → Nat → List Byte := fun x y => byte2 x ++ byte2 y
    let size : FrameInfo → List Byte := fun f => byte2 f.width ++ byte2 f.height
    let no : FrameInfo → List Byte := fun f => byte2 f.no.toNat
    let sink : Bool → Sink → List Byte := fun ov k =>
      byte1 (if ov then 1 else 0) ++ sub k.active ++
        optBytes (fun v => sub v.sub ++ if ov then pos v.x v.y else []) k.shadow ++
        (if ov then 1 :: pos k.x k.y else [0]) ++ optBytes no k.cur ++ optBytes size k.cur ++ optBytes no k.presented ++
        byte1 k.queue.length ++ byte1 k.source.code ++ byte1 k.silent ++ flagByte k.torn ++ byte2 k.tornCount ++
        byte2 k.overrunCount ++ (if ov then [0] else 1 :: byte1 k.lead)
    let lock : FrameLock → List Byte := fun l =>
      byte1 l.state.code ++ flagByte l.locked ++ byte1 l.limited.code ++ beBytes 4 l.inc.toNat ++ beInt 3 l.integ ++
        byte1 l.lastLead ++ beInt 2 l.lastError ++ byte2 l.linesAdded ++ byte1 l.holdCount ++ byte1 l.inWin ++
        byte1 l.outWin
    let outs : List OutPort :=
      (match s.portA with | .output o => [o] | _ => []) ++ (match s.portB with | .output o => [o] | _ => [])
    exec (.status [0]) s = .next (s.respond .done
      (byte1 s.node.state.code ++ byte1 s.node.station.toNat ++ byte1 s.view.ring.code ++ byte1 s.view.missed ++
        optBytes (fun n => byte2 n.toNat) s.view.nonce ++ flagByte s.view.demand ++ byte1 s.view.table.length ++
        byte1 s.sched.safeQ.length ++ byte1 s.sched.normalQ.length ++
        byte1 (s.sched.census.toList.length + s.sched.msgs.length) ++ byte2 s.sched.credit ++
        flagByte s.sched.starved ++ flagByte s.sched.yield ++ flagByte s.camera.debounced ++
        flagByte s.camera.ringLatch ++ flagByte s.camera.localLatch ++
        flagByte (s.camera.debounced || s.camera.ringLatch || s.camera.localLatch) ++ flagByte s.ownDemand ++
        byte1 s.svc.inbox.length ++ byte1 s.svc.outbox.length ++ byte1 s.svc.results.length ++ [s.svc.tag])) ∧
    exec (.status [1]) s = .next (s.respond .done
      (byte1 s.link.state.code ++ byte2 (fillOf s.link.transit) ++ byte2 s.link.hdrErr ++ byte2 s.link.payErr ++
        byte2 s.link.ovf)) ∧
    (∀ n : StationNo,
      (entryFor s.view.table n = none →
        exec (.status [BitVec.ofNat 8 (16 + n.toNat)]) s = .next (s.respond .done [0])) ∧
      ∀ e, entryFor s.view.table n = some e → ∃ l, l.Perm e.offers ∧
        l.Pairwise (fun a b => a.index.toNat ≤ b.index.toNat) ∧
        exec (.status [BitVec.ofNat 8 (16 + n.toNat)]) s = .next (s.respond .done
          (1 :: (byte1 e.station.toNat ++ byte2 e.nonce.toNat ++ byte1 e.state.code ++ byte1 e.hops ++
            flagByte e.demand ++
            listBytes (fun x => byte1 x.index.toNat ++ byte2 x.width ++ byte2 x.height ++ byte1 x.fmt.code.toNat ++
              byte1 x.cls.code.toNat ++ flagByte x.suspended) l ++
            beBytes 4 e.seen.toNat ++ beBytes 4 (s.tick - e.seen).toNat)))) ∧
    (∀ p : PortId, let b : Byte := if p = .a then 0x20 else 0x21
      (∀ k, s.port p = .unused k → exec (.status [b]) s = .next (s.respond .done [0])) ∧
      (∀ q, s.port p = .input q → exec (.status [b]) s = .next (s.respond .done
        (1 :: (optBytes (fun z => byte2 z.width ++ byte2 z.height) q.geometry ++ byte2 q.counter.toNat ++
          listBytes (fun k => byte2 k.lostLines ++ byte2 k.lostMarks ++ byte1 k.state.code ++
            flagByte k.frame.isSome ++ optBytes (fun z => byte2 z.width ++ byte2 z.height) k.frame) q.streams ++
          byte1 (24 - s.store.length))))) ∧
      ∀ o, s.port p = .output o → exec (.status [b]) s = .next (s.respond .done
        (1 :: ((match o.overlay with
          | none => byte1 1 ++ sink false o.main
          | some k => byte1 2 ++ sink false o.main ++ sink true k) ++ lock o.lock ++
          (byte1 o.pres.pos.code ++
            byte2 (match o.pres.pos with
              | .active => o.pres.line
              | .added => (match o.lock.stretch with | some x => x.added + 1 | none => o.pres.line)
              | _ => 0) ++
            byte1 o.pres.blank ++ flagByte o.pres.fillFrame ++ byte2 o.pres.repeated ++ byte2 o.pres.underrun ++
            byte1 o.cfg.dither.code) ++
          (if o.cfg.camMode = .none then [0]
          else 1 :: (byte1 o.cam.state.code ++ optBytes (fun v => sub v.sub) o.cam.resume ++
            optBytes (fun v => pos v.x v.y) (if o.cfg.camMode = .inset then o.cam.resume else none) ++
            flagByte o.cam.insetHold ++
            (match o.cam.state, o.cam.deadline with
              | .switching, some d => 1 :: beBytes 4 (if laterTime d s.tick then (d - s.tick).toNat else 0)
              | _, _ => [0]))))))) ∧
    (∀ b : Byte, 1 < b.toNat → (b.toNat < 16 ∨ 33 < b.toNat) → exec (.status [b]) s = .next (s.respond .badArg [])) ∧
    (∀ args, args.length ≤ 255 → args.length ≠ 1 → exec (.status args) s = .next (s.respond .badArg [])) ∧
    ((s.node.state = .loading ∨ s.node.state = .fallback) → ∀ args, args.length ≤ 255 →
      exec (.probe args) s = .next (s.respond .state [])) ∧
    (s.node.state.full = true →
      (∀ b : Byte, 128 ≤ b.toNat → exec (.probe [b]) s = .next (s.respond .badArg [])) ∧
      (∀ args, args.length ≤ 255 → args.length ≠ 1 → exec (.probe args) s = .next (s.respond .badArg [])) ∧
      ∀ x : StreamId, let b : Byte := BitVec.ofNat 8 x.toNat
        ((∀ e, entryFor s.view.table (BitVec.ofNat 4 (x.toNat / 8)) = some e →
            ∀ y ∈ e.offers, y.index.toNat ≠ x.toNat % 8) →
          exec (.probe [b]) s = .next (s.respond .done [0])) ∧
        ∀ e before y after, entryFor s.view.table (BitVec.ofNat 4 (x.toNat / 8)) = some e →
          e.offers = before ++ y :: after → (∀ z ∈ before, z.index.toNat ≠ x.toNat % 8) → y.index.toNat = x.toNat % 8 →
          exec (.probe [b]) s = .next (s.respond .done
            (1 :: (byte2 y.width ++ byte2 y.height ++ byte1 y.fmt.code.toNat ++ byte1 y.cls.code.toNat ++
              flagByte y.suspended ++ byte1 e.state.code ++ byte1 e.hops ++
              listBytes (fun o => flagByte (y.width == o.cfg.ha && y.height == o.cfg.va) ++
                flagByte (decide (o.cfg.t + 2 ≤ o.main.cfg.count))) outs)))) ∧
    (let stands : Nat → Prop := fun i =>
      s.att.pending.getLsbD i = true ∧ (s.att.enable.getLsbD i = true ∨ i = 0)
     (s.atn = true ↔ ∃ i, stands i) ∧ (s.fault = true ↔ s.att.pending.getLsbD 0 = true) ∧
      (s.node.state ≠ .loading → ∀ n,
        ((n = 0 ∧ ∀ i, ¬stands i) ∨ (1 ≤ n ∧ stands (n - 1) ∧ ∀ i, i < n - 1 → ¬stands i)) →
        exec (.attention []) s = .next (s.respond .done
          (byte2 s.att.pending.toNat ++ byte2 (s.att.enable ||| 1#16).toNat ++ byte1 n)))) ∧
    (∀ c : Cause, s.isPending c = s.att.pending.getLsbD (c.code - 1)) ∧
    (s.node.state ≠ .loading →
      (∀ args, args.length ≤ 255 → args ≠ [] → exec (.attention args) s = .next (s.respond .badArg [])) ∧
      (∀ args, args.length ≤ 255 → args.length ≠ 2 → exec (.clear args) s = .next (s.respond .badArg [])) ∧
      ∀ h l : Byte, ∃ t, exec (.clear [h, l]) s = .next t ∧
        (∀ i, i < 16 → t.att.pending.getLsbD i =
          (s.att.pending.getLsbD i && !((h ++ l : Half).getLsbD i && !(i == 0 && s.anyLate)))) ∧
        t.svc.response = some
          { code := .done, data := byte2 (s.att.pending &&& ~~~t.att.pending).toNat } ∧
        t.link = s.link ∧ t.sched = s.sched ∧ t.view = s.view ∧ t.portA = s.portA ∧ t.portB = s.portB) ∧
    (s.node.state = .loading → ∀ args, args.length ≤ 255 →
      exec (.attention args) s = .next (s.respond .state []) ∧ exec (.clear args) s = .next (s.respond .state []))) ∧
  (∀ v : Nat, byte1 v = [BitVec.ofNat 8 v] ∧ byte2 v = [BitVec.ofNat 8 (v / 256), BitVec.ofNat 8 v] ∧
    beBytes 4 v =
      [BitVec.ofNat 8 (v / 16777216), BitVec.ofNat 8 (v / 65536), BitVec.ofNat 8 (v / 256), BitVec.ofNat 8 v]) ∧
  (∀ i : Int, beInt 3 i = beBytes 3 (BitVec.ofInt 24 i).toNat ∧ beInt 2 i = beBytes 2 (BitVec.ofInt 16 i).toNat) ∧
  flagByte false = [0] ∧ flagByte true = [1] ∧
  [NodeState.run, .standby, .mute, .fallback, .loading].map NodeState.code = [0, 1, 2, 3, 4] ∧
  [LinkState.down, .align, .up].map LinkState.code = [0, 1, 2] ∧
  [RingState.forming, .closed, .broken].map RingState.code = [0, 1, 2] ∧
  [StreamState.idle, .running, .suspended].map StreamState.code = [0, 1, 2] ∧
  [LockState.free, .acquire, .track, .holdover].map LockState.code = [0, 1, 2, 3] ∧
  [CameraState.idle, .switching, .showing, .late].map CameraState.code = [0, 1, 2, 3] ∧
  [SourceState.absent, .present, .lost].map SourceState.code = [0, 1, 2] ∧
  [Limited.clear, .upper, .lower].map Limited.code = [0, 1, 2] ∧
  [DitherMode.off, .fixed, .temporal].map DitherMode.code = [0, 1, 2] ∧
  [Position.stopped, .added, .active, .blanking].map Position.code = [0, 1, 2, 3] ∧
  [RingFormat.p16, .p24, .p30].map RingFormat.code = [0, 1, 2] ∧
  [ParcelClass.safe, .normal, .control].map ParcelClass.code = [0, 1, 2] ∧
  [Cause.cameraLate, .linkDown, .ringBroken, .idConflict, .cameraChange, .sourceLost, .lockLost, .lockAcquired,
    .storeOverrun, .sendDrop, .starved, .linkDegraded, .ringHealed, .geometryMismatch, .messageIn,
    .messageResult].map Cause.code = [1, 2, 3, 4, 5, 6, 7, 8, 9, 10, 11, 12, 13, 14, 15, 16]

/-- Message requests (R168, R170, R171), in RUN, MUTE and STANDBY: SEND answers BUSY at four outbox messages; otherwise
it gives the message the tag that the counter finds, raised by 1 and again while an outbox message has the value, queues it in the outbox, unsent, and in the CONTROL queue, and
answers the tag. A SEND whose target is neither another station nor broadcast, whose kind is not defined, or whose user
words are not whole or more than 16 is answered BAD ARGUMENT (R168). TAKE answers the oldest complete inbox entry and
removes it: source, kind, tag, user words with their count, and whether it was a broadcast. RESULT answers the oldest result:
tag, outcome and, for a broadcast, the counts, with codes and layout of 12.5 and 12.6 (the bytes of fields: log 11). Each answers EMPTY when there is none, and BAD ARGUMENT when it carries arguments
(R164). In LOADING and FALLBACK the answer is STATE (R164). The payload words of a message are those of 12.2. -/
def Obligations.MessagesRequested : Prop :=
  (∀ s : State, s.running →
    ((s.node.state = .loading ∨ s.node.state = .fallback) → ∀ args, args.length ≤ 255 →
      exec (.send args) s = .next (s.respond .state []) ∧ exec (.take args) s = .next (s.respond .state []) ∧
        exec (.result args) s = .next (s.respond .state [])) ∧
    (s.node.state.full = true →
      (∀ args a, args.length ≤ 255 → sendArgs s.node.station args = some a →
        (4 ≤ s.svc.outbox.length → exec (.send args) s = .next (s.respond .busy [])) ∧
        (s.svc.outbox.length < 4 → ∃ t tag, exec (.send args) s = .next t ∧
          (∀ m ∈ s.svc.outbox, m.tag ≠ tag) ∧
          (∃ n, n ≤ 4 ∧ tag = s.svc.tag + BitVec.ofNat 8 (n + 1) ∧
            ∀ j, j < n → ∃ m ∈ s.svc.outbox, m.tag = s.svc.tag + BitVec.ofNat 8 (j + 1)) ∧
          t.svc = { s.svc with
            request := [], response := some { code := .done, data := [tag] }, tag := tag
            outbox := s.svc.outbox ++ [{ tag := tag, target := a.target, kind := a.kind, sent := none }] } ∧
          t.sched = { s.sched with
            msgs := s.sched.msgs ++
              [{ tag := tag
                 words :=
                  (BitVec.ofNat 5 (match a.target with | some n => n.toNat | none => 31) ++ a.kind.code ++ 0#16 ++ tag) ::
                    BitVec.ofNat 32 a.user.length :: a.user }] } ∧
          t.link = s.link ∧ t.view = s.view ∧ t.node = s.node)) ∧
      (∀ (tb kb : Byte) (words : List Byte), (tb.toNat = 255 ∨ (tb.toNat ≤ 15 ∧ tb.toNat ≠ s.node.station.toNat)) →
        kb.toNat < 4 → words.length % 4 = 0 → words.length ≤ 64 →
        ∃ a, sendArgs s.node.station (tb :: kb :: words) = some a ∧
          a.target = (if tb.toNat = 255 then none else some (BitVec.ofNat 4 tb.toNat)) ∧ a.kind.code.toNat = kb.toNat ∧
          a.user.length = words.length / 4 ∧ ∀ j, j < words.length / 4 → a.user[j]? = some
          (words.getD (4 * j) 0 ++ words.getD (4 * j + 1) 0 ++ words.getD (4 * j + 2) 0 ++ words.getD (4 * j + 3) 0)) ∧
      (∀ args, args.length < 2 → exec (.send args) s = .next (s.respond .badArg [])) ∧
      (∀ (tb kb : Byte) (words : List Byte), words.length ≤ 253 →
        ((16 ≤ tb.toNat ∧ tb.toNat ≠ 255) ∨ tb.toNat = s.node.station.toNat ∨ 4 ≤ kb.toNat ∨ words.length % 4 ≠ 0 ∨
          64 < words.length) →
        exec (.send (tb :: kb :: words)) s = .next (s.respond .badArg [])) ∧
      (∀ args, args ≠ [] → args.length ≤ 255 →
        exec (.take args) s = .next (s.respond .badArg []) ∧ exec (.result args) s = .next (s.respond .badArg [])) ∧
      (∀ before m after, s.svc.inbox = before ++ m :: after → (∀ x ∈ before, x.complete = false) → m.complete = true →
        exec (.take []) s = .next
          (({ s with svc := { s.svc with inbox := before ++ after } } : State).respond .done
            ([BitVec.ofNat 8 m.source.toNat, BitVec.ofNat 8 m.kind.code.toNat, m.tag, BitVec.ofNat 8 m.words.length] ++
              m.words.flatMap (fun w =>
                [w.extractLsb' 24 8, w.extractLsb' 16 8, w.extractLsb' 8 8, w.extractLsb' 0 8]) ++
              [if m.broadcast then 1 else 0]))) ∧
      ((∀ x ∈ s.svc.inbox, x.complete = false) → exec (.take []) s = .next (s.respond .empty [])) ∧
      (∀ r rest, s.svc.results = r :: rest →
        exec (.result []) s = .next (({ s with svc := { s.svc with results := rest } } : State).respond .done
          ([r.tag, BitVec.ofNat 8 r.outcome.code] ++
            (match r.counts with
              | none => [0]
              | some c => [1, BitVec.ofNat 8 c.1.toNat, BitVec.ofNat 8 c.2.toNat])))) ∧
      (s.svc.results = [] → exec (.result []) s = .next (s.respond .empty [])))) ∧
  [MessageKind.user, .cameraOn, .cameraOff, .wake].map (fun k => k.code.toNat) = [0, 1, 2, 3] ∧
  [MessageOutcome.delivered, .refused, .undelivered, .damaged, .lost].map MessageOutcome.code = [0, 1, 2, 3, 4]

/-- CAMERA sets the local latch (R165, R152), with the engage or release that this makes, as for REVERSE (R154 to R157, R159;
the model's choices logs 2, 12 and 54, as ReverseEngages says); its answer is DONE. STANDBY (R158, R165, R178) is answered STATE outside RUN, HELD while the own
demand stands, else ACCEPTED: the node enters STANDBY at once, as EnterStandbyStops says, or waits while an own LINE or MARK is
being transmitted (R54). While MUTE waits it is answered STATE. WAKE of another station
sends a WAKE message, with the tag and entries of a SEND (R168, R44); of this one it answers STATE outside STANDBY, and wakes
in it as the WAKE pin does (R165, R179). Arguments that do not fit are answered BAD ARGUMENT, and in LOADING and FALLBACK
each is answered STATE (R164). -/
def Obligations.ControlRequests : Prop :=
  ∀ s : State, s.running →
    ((s.node.state = .loading ∨ s.node.state = .fallback) → ∀ args, args.length ≤ 255 →
      exec (.camera args) s = .next (s.respond .state []) ∧ exec (.standby args) s = .next (s.respond .state []) ∧
        exec (.wake args) s = .next (s.respond .state [])) ∧
    (s.node.state.full = true →
      (∀ b : Byte, b = 0 ∨ b = 1 → ∃ t, exec (.camera [b]) s = .next (t.respond .done []) ∧
        s.CameraMoves { s.camera with localLatch := b == 1 } t) ∧
      (∀ args, args.length ≤ 255 → args ≠ [0] → args ≠ [1] → exec (.camera args) s = .next (s.respond .badArg [])) ∧
      (∀ args, args.length ≤ 255 → args ≠ [] → exec (.standby args) s = .next (s.respond .badArg [])) ∧
      ((s.node.state ≠ .run ∨ s.node.waiting = some .mute) → exec (.standby []) s = .next (s.respond .state [])) ∧
      (s.node.state = .run → s.node.waiting ≠ some .mute →
        (s.ownDemand = true → exec (.standby []) s = .next (s.respond .held [])) ∧
        (s.ownDemand = false →
          let asked : State := { s with node := { s.node with waiting := some .standby } }
          ((∃ p, s.link.tx = .sending p ∧ (p.kind = .line ∨ p.kind = .mark)) →
            exec (.standby []) s = .next (asked.respond .accepted [])) ∧
          ((∀ p, s.link.tx = .sending p → p.kind ≠ .line ∧ p.kind ≠ .mark) →
            ∃ t, exec .enterStandby asked = .next t ∧ t.node.state = .standby ∧
              exec (.standby []) s = .next (t.respond .accepted [])))) ∧
      (∀ args, args.length ≤ 255 → args.length ≠ 1 → exec (.wake args) s = .next (s.respond .badArg [])) ∧
      (∀ b : Byte, 16 ≤ b.toNat → exec (.wake [b]) s = .next (s.respond .badArg [])) ∧
      (∀ b : Byte, b.toNat < 16 → b.toNat ≠ s.node.station.toNat →
        (4 ≤ s.svc.outbox.length → exec (.wake [b]) s = .next (s.respond .busy [])) ∧
        (s.svc.outbox.length < 4 → ∃ tag : Byte, (∀ m ∈ s.svc.outbox, m.tag ≠ tag) ∧
          (∃ n, n ≤ 4 ∧ tag = s.svc.tag + BitVec.ofNat 8 (n + 1) ∧
            ∀ j, j < n → ∃ m ∈ s.svc.outbox, m.tag = s.svc.tag + BitVec.ofNat 8 (j + 1)) ∧
          exec (.wake [b]) s = .next { s with
            svc := { s.svc with
              request := [], response := some { code := .done, data := [tag] }, tag := tag
              outbox := s.svc.outbox ++
                [{ tag := tag, target := some (BitVec.ofNat 4 b.toNat), kind := .wake, sent := none }] }
            sched := { s.sched with
              msgs := s.sched.msgs ++
                [{ tag := tag, words := [BitVec.ofNat 5 b.toNat ++ 3#3 ++ 0#16 ++ tag, 0#32] }] } })) ∧
      ∀ b : Byte, b.toNat = s.node.station.toNat →
        (s.node.state ≠ .standby → exec (.wake [b]) s = .next (s.respond .state [])) ∧
        (s.node.state = .standby → ∃ t, exec (.wake [b]) s = .next (t.respond .done []) ∧
          exec .wakePin { s with node := { s.node with wakeFound := true } } = .next t ∧
          t.node.state = (if s.view.mutePending then .mute else .run) ∧ t.sched.credit = s.cap))

/-- RESTART (R165, R180, R15, R55, R60, R65, R72, R174): the node is in RUN with its configuration kept; the picture and
CONTROL queues, the send store, the transit buffer, the link error counts, the outbox, results and inbox are empty or 0; a
parcel in transmission is ended with EOPX at once, and nothing is put out otherwise;
the credit is CAP; the ring FORMING with an empty table; a new nonce is drawn from the seed and the old one retired; the
receive link keeps its state, the tick and the tag counter run on; the answer is DONE. Camera Priority's latches are clear
and its debounced level is that of the REVERSE pin (R161), which to the model is the level of the last tick (log 17). An
input port keeps its geometry, measurement and counter; its streams are settled with no frame and counts 0 (R92). An output
port's records have their initial subscriptions and positions and nothing else (R112); its Frame Lock is FREE or ACQUIRE at
INC_nom with the figures of its last computation 0 and the accumulator kept (R131); its Presenter has the last line fill, no
switch-blank, no flags and counts 0 (R149), and a running port keeps its timing position, a hold or stretch ending with its
line, while a stopped one starts an output frame (R148); the camera state is IDLE (R161). A hold or stretch left at its
limit ends first (log 2). While REVERSE is high a camera-mode port is then engaged, to return to its initial value (R161).
No cause is pending but CAMERA_CHANGE of that engage, and CAMERA_LATE kept from before while REVERSE is high (R160, R174).
A cut that waits is forgotten by the model's choice (log 49), and the active pixels still to come are fill, those of the line in
progress too (R149; deduced, log 50), reduced from the seeded generator. A cut-through parcel that still waits for its SOP is
lost without EOPX by the model's choice (log 53). With arguments the answer is BAD ARGUMENT,
and STATE in LOADING and FALLBACK (R164). -/
def Obligations.RestartRestarts : Prop :=
  (∀ s : State, s.running →
    (s.node.state.full = true → ∀ args, args.length ≤ 255 → args ≠ [] →
      exec (.restart args) s = .next (s.respond .badArg [])) ∧
    ((s.node.state = .loading ∨ s.node.state = .fallback) → ∀ args, args.length ≤ 255 →
      exec (.restart args) s = .next (s.respond .state []))) ∧
  ∀ (s : State) (c : RingCfg), s.running → s.node.state.full = true → s.node.ring = some c →
    let init : Sink → Sink := fun k =>
      { cfg := k.cfg, active := k.cfg.initSub, shadow := none, x := k.cfg.initX, y := k.cfg.initY, cur := none
        last := none, torn := false, overrun := false, presented := none, source := .absent, nonce := none, silent := 0
        markerSeen := false, mismatch := false, tornCount := 0, overrunCount := 0, queue := [], detached := [] }
    ∃ t, exec (.restart []) s = .next t ∧ t.node = { s.node with state := .run, waiting := none, wakeFound := false } ∧
      t.sched = { safeQ := [], normalQ := [], census := none, msgs := [], credit := c.cap, starved := false
                  yield := false, yieldTime := 0 } ∧
      t.store = [] ∧ t.link.transit = [] ∧ t.link.stage = .outside ∧ t.link.hdrErr = 0 ∧ t.link.payErr = 0 ∧
      t.link.ovf = 0 ∧ t.link.state = s.link.state ∧
      t.link.tx = (match s.link.tx with | .between g => .between g | _ => .between 0) ∧
      t.link.out = (match s.link.tx with | .between _ => s.link.out | _ => .eopx) ∧
      t.view.ring = .forming ∧ t.view.outstanding = false ∧ t.view.missed = 0 ∧ t.view.table = [] ∧
      t.view.nonce = some (advance (seedFor c.seed s.node.station)) ∧ t.view.retired = s.view.nonce ∧ t.view.retiredSends = 0 ∧
      (∃ n, t.view.timer = some n ∧ 1 ≤ n ∧ n ≤ 64) ∧ t.view.mutePending = false ∧ t.view.demand = t.ownDemand ∧
      t.svc.outbox = [] ∧ t.svc.results = [] ∧ t.svc.inbox = [] ∧ t.svc.tag = s.svc.tag ∧
      t.svc.response = some { code := .done, data := [] } ∧ t.tick = s.tick ∧ t.att.enable = s.att.enable ∧
      t.camera = { debounced := s.pins.reverse, stability := 0, ringLatch := false, localLatch := false } ∧
      (s.pins.reverse = false → t.att.pending = 0) ∧
      (s.pins.reverse = true → (∀ p o, s.port p = .output o → o.quiet s.tick = true) →
        t.att.pending = (s.att.pending &&& 0x0001#16) ||| (if s.hasCamera then 0x0010#16 else 0)) ∧
      ∀ p, (∀ k, s.port p = .unused k → t.port p = .unused k) ∧
        (∀ q, s.port p = .input q → t.port p = .input { q with
          streams := q.streams.map (fun k => { k with
            state :=
              if k.win.enabled = false ∨ q.geometry = none then .idle
              else if k.win.shed = true ∧ t.view.demand = true then .suspended
              else .running
            frame := none, drop := false, asm := [], lostLines := 0, lostMarks := 0 }) }) ∧
        ∀ o, s.port p = .output o → 1 ≤ o.cfg.t → ∃ o', t.port p = .output o' ∧ o'.cfg = o.cfg ∧
          o'.lock.acc = o.lock.acc ∧ o'.lock.inc = BitVec.ofNat 32 o.cfg.incNom ∧ o'.lock.integ = 0 ∧
          o'.lock.limited = .clear ∧ o'.lock.locked = false ∧ o'.lock.inWin = 0 ∧ o'.lock.outWin = 0 ∧
          o'.lock.holdCount = 0 ∧
          o'.pres.lastLine = List.replicate o.cfg.ha o.cfg.fill ∧ o'.pres.blank = 0 ∧ o'.pres.fillFrame = false ∧
          o'.pres.stopPending = false ∧ o'.pres.repeated = 0 ∧ o'.pres.underrun = 0 ∧
          o'.lock.lastLead = 0 ∧ o'.lock.lastError = 0 ∧ o'.lock.linesAdded = 0 ∧
          (o.pres.pos = .stopped → o.lock.stretch = none →
            o'.pres.pos = (if o.main.cfg.initSub = none then .active else .added) ∧
            o'.lock.stretch =
              (if o.main.cfg.initSub = none then none else some { added := 0, ending := false, limit := false })) ∧
          (o.pres.pos ≠ .stopped → o.quiet s.tick = true →
            (s.pins.reverse = true ∧ o.cfg.camMode = .full ∧ o.main.cfg.initSub ≠ some o.cfg.camStream ∧
              o.pres.pos = .active ∧ 0 < o.pres.nextLine → o.pres.pixel < o.cfg.ht) →
            o'.pres.pos = o.pres.pos ∧ o'.pres.line = o.pres.line ∧ o'.pres.pixel = o.pres.pixel ∧
            o'.pres.driven = o.pres.driven ∧ o'.pres.ahead = List.replicate o.pres.ahead.length o.cfg.fill ∧
            o'.pres.gen =
              (if o.cfg.dither = .temporal then (if o.cfg.ditherSeed = 0 then 0xFFFF#16 else o.cfg.ditherSeed)
              else o.pres.gen) ∧
            (o.lock.stretch = none → o'.lock.stretch = none) ∧
            ∀ x, o.lock.stretch = some x → ∃ x', o'.lock.stretch = some x' ∧ x'.added = x.added ∧ x'.ending = true) ∧
          (∀ x, o.pres.pos ≠ .stopped → o.lock.stretch = some x → x.limit = true → x.ending = false →
            (o.lock.state = .acquire ∨ (o.lock.state = .track ∧ o.main.silent < 3)) →
            o'.lock.stretch = none ∧ o'.pres.pos = .active) ∧
          ((s.pins.reverse = false ∨ o.cfg.camMode = .none) →
            o'.main = init o.main ∧ o'.overlay = o.overlay.map init ∧
            o'.cam = { state := .idle, deadline := none, resume := none, insetHold := false } ∧
            o'.pres.cutDone = false ∧ (o.main.cfg.initSub = none → o'.lock.state = .free) ∧
            (o.main.cfg.initSub ≠ none → o'.lock.state = .acquire) ∧
            (o.pres.pos ≠ .stopped → o.quiet s.tick = true → o'.pres.nextLine = o.pres.nextLine)) ∧
          (s.pins.reverse = true → o.cfg.camMode = .full → t.view.demand = true ∧
            o'.main.active = some o.cfg.camStream ∧ o'.main.shadow = none ∧ o'.main.cur = none ∧ o'.main.queue = [] ∧
            o'.overlay = o.overlay.map init ∧
            (o.main.cfg.initSub ≠ some o.cfg.camStream → o'.lock.state = .acquire ∧ o'.pres.cutDone = true ∧
              (o.pres.pos = .active → o.quiet s.tick = true → 0 < o.pres.nextLine → o.cfg.ht ≤ o.pres.pixel →
                o'.pres.pos = .blanking ∧ o'.pres.pixel = o.pres.pixel - o.cfg.ht ∧ o'.pres.nextLine = o.cfg.va ∧
                o'.pres.driven = [] ∧ o'.pres.ahead = [])) ∧
            o'.cam =
              { state := .switching, deadline := some (s.tick + BitVec.ofNat 32 (o.cfg.deadlineUnits * 10000))
                resume := some { sub := o.main.cfg.initSub, x := o.main.cfg.initX, y := o.main.cfg.initY }
                insetHold := false }) ∧
          ∀ k, s.pins.reverse = true → o.cfg.camMode = .inset → o.overlay = some k → t.view.demand = true ∧
            o'.main = init o.main ∧ (∃ k', o'.overlay = some k' ∧ k'.active = some o.cfg.camStream ∧ k'.shadow = none ∧
              k'.x = o.cfg.camX ∧ k'.y = o.cfg.camY ∧ k'.cur = none ∧ k'.queue = []) ∧
            o'.cam =
              { state := .switching, deadline := some (s.tick + BitVec.ofNat 32 (o.cfg.deadlineUnits * 10000))
                resume := some { sub := k.cfg.initSub, x := k.cfg.initX, y := k.cfg.initY }, insetHold := true }

/-! ## What every step keeps -/

/-- The capacities hold in cold reset, and so do the bounds of the Frame Locks and the order of the Station View. -/
def Obligations.ResetSound : Prop := State.reset.Bounded ∧ State.reset.Steady ∧ State.reset.Ordered

/-- Every step keeps the capacities (R12, R17, R42, R43, R44, R47, R63, R68, R89, R95, R168, R170, R171): those of the
queues, the CONTROL queue among them, the stores, the station table, the slots of the Line Store record by record and
together, the counts and the lists. -/
def Obligations.BoundedKept : Prop :=
  ∀ s t : State, s.Bounded → Sys2Proof.Machine.step s = .next t → t.Bounded

/-- Every step keeps INC between INC_nom − DEV and INC_nom + DEV and the integrator in its range, on every output port
whose frame-lock parameters the image check admits (R115, R116, R124). -/
def Obligations.SteadyKept : Prop :=
  ∀ s t : State, s.Steady → Sys2Proof.Machine.step s = .next t → t.Steady

/-- Every step keeps the station table in order of station number, one entry a station, and the nonce and the ring
generator nonzero (4.5, R59, R60). -/
def Obligations.OrderedKept : Prop :=
  ∀ s t : State, s.Ordered → Sys2Proof.Machine.step s = .next t → t.Ordered
end

