-- ==== Sys2Proof/Laws/State.lean ====
section
/-! SUPPORT. One lemma per field per update of the state, so that no later proof unfolds a record update. -/

namespace Sys2Proof.Machine

/-! ### State.raise -/

@[simp] theorem State.raise_pending (s : State) (m : Half) : (s.raise m).pending = s.pending := rfl
@[simp] theorem State.raise_pins (s : State) (m : Half) : (s.raise m).pins = s.pins := rfl
@[simp] theorem State.raise_node (s : State) (m : Half) : (s.raise m).node = s.node := rfl
@[simp] theorem State.raise_tick (s : State) (m : Half) : (s.raise m).tick = s.tick := rfl
@[simp] theorem State.raise_link (s : State) (m : Half) : (s.raise m).link = s.link := rfl
@[simp] theorem State.raise_sched (s : State) (m : Half) : (s.raise m).sched = s.sched := rfl
@[simp] theorem State.raise_view (s : State) (m : Half) : (s.raise m).view = s.view := rfl
@[simp] theorem State.raise_store (s : State) (m : Half) : (s.raise m).store = s.store := rfl
@[simp] theorem State.raise_portA (s : State) (m : Half) : (s.raise m).portA = s.portA := rfl
@[simp] theorem State.raise_portB (s : State) (m : Half) : (s.raise m).portB = s.portB := rfl
@[simp] theorem State.raise_svc (s : State) (m : Half) : (s.raise m).svc = s.svc := rfl
@[simp] theorem State.raise_camera (s : State) (m : Half) : (s.raise m).camera = s.camera := rfl
@[simp] theorem State.raise_free (s : State) (m : Half) : (s.raise m).free = s.free := rfl

/-! ### State.respond -/

@[simp] theorem State.respond_pending (s : State) (c : ResponseCode) (d : List Byte) : (s.respond c d).pending = s.pending := rfl
@[simp] theorem State.respond_pins (s : State) (c : ResponseCode) (d : List Byte) : (s.respond c d).pins = s.pins := rfl
@[simp] theorem State.respond_node (s : State) (c : ResponseCode) (d : List Byte) : (s.respond c d).node = s.node := rfl
@[simp] theorem State.respond_tick (s : State) (c : ResponseCode) (d : List Byte) : (s.respond c d).tick = s.tick := rfl
@[simp] theorem State.respond_link (s : State) (c : ResponseCode) (d : List Byte) : (s.respond c d).link = s.link := rfl
@[simp] theorem State.respond_sched (s : State) (c : ResponseCode) (d : List Byte) : (s.respond c d).sched = s.sched := rfl
@[simp] theorem State.respond_view (s : State) (c : ResponseCode) (d : List Byte) : (s.respond c d).view = s.view := rfl
@[simp] theorem State.respond_store (s : State) (c : ResponseCode) (d : List Byte) : (s.respond c d).store = s.store := rfl
@[simp] theorem State.respond_portA (s : State) (c : ResponseCode) (d : List Byte) : (s.respond c d).portA = s.portA := rfl
@[simp] theorem State.respond_portB (s : State) (c : ResponseCode) (d : List Byte) : (s.respond c d).portB = s.portB := rfl
@[simp] theorem State.respond_att (s : State) (c : ResponseCode) (d : List Byte) : (s.respond c d).att = s.att := rfl
@[simp] theorem State.respond_camera (s : State) (c : ResponseCode) (d : List Byte) : (s.respond c d).camera = s.camera := rfl
@[simp] theorem State.respond_free (s : State) (c : ResponseCode) (d : List Byte) : (s.respond c d).free = s.free := rfl

/-! ### State.returnSlots -/

@[simp] theorem State.returnSlots_pending (s : State) (l : List Nat) : (s.returnSlots l).pending = s.pending := rfl
@[simp] theorem State.returnSlots_pins (s : State) (l : List Nat) : (s.returnSlots l).pins = s.pins := rfl
@[simp] theorem State.returnSlots_node (s : State) (l : List Nat) : (s.returnSlots l).node = s.node := rfl
@[simp] theorem State.returnSlots_tick (s : State) (l : List Nat) : (s.returnSlots l).tick = s.tick := rfl
@[simp] theorem State.returnSlots_link (s : State) (l : List Nat) : (s.returnSlots l).link = s.link := rfl
@[simp] theorem State.returnSlots_sched (s : State) (l : List Nat) : (s.returnSlots l).sched = s.sched := rfl
@[simp] theorem State.returnSlots_view (s : State) (l : List Nat) : (s.returnSlots l).view = s.view := rfl
@[simp] theorem State.returnSlots_portA (s : State) (l : List Nat) : (s.returnSlots l).portA = s.portA := rfl
@[simp] theorem State.returnSlots_portB (s : State) (l : List Nat) : (s.returnSlots l).portB = s.portB := rfl
@[simp] theorem State.returnSlots_att (s : State) (l : List Nat) : (s.returnSlots l).att = s.att := rfl
@[simp] theorem State.returnSlots_svc (s : State) (l : List Nat) : (s.returnSlots l).svc = s.svc := rfl
@[simp] theorem State.returnSlots_camera (s : State) (l : List Nat) : (s.returnSlots l).camera = s.camera := rfl
@[simp] theorem State.returnSlots_free (s : State) (l : List Nat) : (s.returnSlots l).free = s.free := rfl

/-! ### State.judgeStarved -/

@[simp] theorem State.judgeStarved_pending (s : State) : (s.judgeStarved).pending = s.pending := rfl
@[simp] theorem State.judgeStarved_pins (s : State) : (s.judgeStarved).pins = s.pins := rfl
@[simp] theorem State.judgeStarved_node (s : State) : (s.judgeStarved).node = s.node := rfl
@[simp] theorem State.judgeStarved_tick (s : State) : (s.judgeStarved).tick = s.tick := rfl
@[simp] theorem State.judgeStarved_link (s : State) : (s.judgeStarved).link = s.link := rfl
@[simp] theorem State.judgeStarved_view (s : State) : (s.judgeStarved).view = s.view := rfl
@[simp] theorem State.judgeStarved_store (s : State) : (s.judgeStarved).store = s.store := rfl
@[simp] theorem State.judgeStarved_portA (s : State) : (s.judgeStarved).portA = s.portA := rfl
@[simp] theorem State.judgeStarved_portB (s : State) : (s.judgeStarved).portB = s.portB := rfl
@[simp] theorem State.judgeStarved_att (s : State) : (s.judgeStarved).att = s.att := rfl
@[simp] theorem State.judgeStarved_svc (s : State) : (s.judgeStarved).svc = s.svc := rfl
@[simp] theorem State.judgeStarved_camera (s : State) : (s.judgeStarved).camera = s.camera := rfl
@[simp] theorem State.judgeStarved_free (s : State) : (s.judgeStarved).free = s.free := rfl

/-! ### State.sighting -/

@[simp] theorem State.sighting_pending (s : State) : (s.sighting).pending = s.pending := rfl
@[simp] theorem State.sighting_pins (s : State) : (s.sighting).pins = s.pins := rfl
@[simp] theorem State.sighting_node (s : State) : (s.sighting).node = s.node := rfl
@[simp] theorem State.sighting_tick (s : State) : (s.sighting).tick = s.tick := rfl
@[simp] theorem State.sighting_link (s : State) : (s.sighting).link = s.link := rfl
@[simp] theorem State.sighting_view (s : State) : (s.sighting).view = s.view := rfl
@[simp] theorem State.sighting_store (s : State) : (s.sighting).store = s.store := rfl
@[simp] theorem State.sighting_portA (s : State) : (s.sighting).portA = s.portA := rfl
@[simp] theorem State.sighting_portB (s : State) : (s.sighting).portB = s.portB := rfl
@[simp] theorem State.sighting_att (s : State) : (s.sighting).att = s.att := rfl
@[simp] theorem State.sighting_svc (s : State) : (s.sighting).svc = s.svc := rfl
@[simp] theorem State.sighting_camera (s : State) : (s.sighting).camera = s.camera := rfl
@[simp] theorem State.sighting_free (s : State) : (s.sighting).free = s.free := rfl

/-! ### State.toStage -/

@[simp] theorem State.toStage_pending (s : State) (g : Stage) : (s.toStage g).pending = s.pending := rfl
@[simp] theorem State.toStage_pins (s : State) (g : Stage) : (s.toStage g).pins = s.pins := rfl
@[simp] theorem State.toStage_node (s : State) (g : Stage) : (s.toStage g).node = s.node := rfl
@[simp] theorem State.toStage_tick (s : State) (g : Stage) : (s.toStage g).tick = s.tick := rfl
@[simp] theorem State.toStage_sched (s : State) (g : Stage) : (s.toStage g).sched = s.sched := rfl
@[simp] theorem State.toStage_view (s : State) (g : Stage) : (s.toStage g).view = s.view := rfl
@[simp] theorem State.toStage_store (s : State) (g : Stage) : (s.toStage g).store = s.store := rfl
@[simp] theorem State.toStage_portA (s : State) (g : Stage) : (s.toStage g).portA = s.portA := rfl
@[simp] theorem State.toStage_portB (s : State) (g : Stage) : (s.toStage g).portB = s.portB := rfl
@[simp] theorem State.toStage_att (s : State) (g : Stage) : (s.toStage g).att = s.att := rfl
@[simp] theorem State.toStage_svc (s : State) (g : Stage) : (s.toStage g).svc = s.svc := rfl
@[simp] theorem State.toStage_camera (s : State) (g : Stage) : (s.toStage g).camera = s.camera := rfl
@[simp] theorem State.toStage_free (s : State) (g : Stage) : (s.toStage g).free = s.free := rfl

/-! ### State.headerError -/

@[simp] theorem State.headerError_pending (s : State) : (s.headerError).pending = s.pending := rfl
@[simp] theorem State.headerError_pins (s : State) : (s.headerError).pins = s.pins := rfl
@[simp] theorem State.headerError_node (s : State) : (s.headerError).node = s.node := rfl
@[simp] theorem State.headerError_tick (s : State) : (s.headerError).tick = s.tick := rfl
@[simp] theorem State.headerError_sched (s : State) : (s.headerError).sched = s.sched := rfl
@[simp] theorem State.headerError_view (s : State) : (s.headerError).view = s.view := rfl
@[simp] theorem State.headerError_store (s : State) : (s.headerError).store = s.store := rfl
@[simp] theorem State.headerError_portA (s : State) : (s.headerError).portA = s.portA := rfl
@[simp] theorem State.headerError_portB (s : State) : (s.headerError).portB = s.portB := rfl
@[simp] theorem State.headerError_att (s : State) : (s.headerError).att = s.att := rfl
@[simp] theorem State.headerError_svc (s : State) : (s.headerError).svc = s.svc := rfl
@[simp] theorem State.headerError_camera (s : State) : (s.headerError).camera = s.camera := rfl
@[simp] theorem State.headerError_free (s : State) : (s.headerError).free = s.free := rfl

/-! ### State.payloadError -/

@[simp] theorem State.payloadError_pending (s : State) : (s.payloadError).pending = s.pending := rfl
@[simp] theorem State.payloadError_pins (s : State) : (s.payloadError).pins = s.pins := rfl
@[simp] theorem State.payloadError_node (s : State) : (s.payloadError).node = s.node := rfl
@[simp] theorem State.payloadError_tick (s : State) : (s.payloadError).tick = s.tick := rfl
@[simp] theorem State.payloadError_sched (s : State) : (s.payloadError).sched = s.sched := rfl
@[simp] theorem State.payloadError_view (s : State) : (s.payloadError).view = s.view := rfl
@[simp] theorem State.payloadError_store (s : State) : (s.payloadError).store = s.store := rfl
@[simp] theorem State.payloadError_portA (s : State) : (s.payloadError).portA = s.portA := rfl
@[simp] theorem State.payloadError_portB (s : State) : (s.payloadError).portB = s.portB := rfl
@[simp] theorem State.payloadError_att (s : State) : (s.payloadError).att = s.att := rfl
@[simp] theorem State.payloadError_svc (s : State) : (s.payloadError).svc = s.svc := rfl
@[simp] theorem State.payloadError_camera (s : State) : (s.payloadError).camera = s.camera := rfl
@[simp] theorem State.payloadError_free (s : State) : (s.payloadError).free = s.free := rfl

/-! ### State.overflow -/

@[simp] theorem State.overflow_pending (s : State) : (s.overflow).pending = s.pending := rfl
@[simp] theorem State.overflow_pins (s : State) : (s.overflow).pins = s.pins := rfl
@[simp] theorem State.overflow_node (s : State) : (s.overflow).node = s.node := rfl
@[simp] theorem State.overflow_tick (s : State) : (s.overflow).tick = s.tick := rfl
@[simp] theorem State.overflow_sched (s : State) : (s.overflow).sched = s.sched := rfl
@[simp] theorem State.overflow_view (s : State) : (s.overflow).view = s.view := rfl
@[simp] theorem State.overflow_store (s : State) : (s.overflow).store = s.store := rfl
@[simp] theorem State.overflow_portA (s : State) : (s.overflow).portA = s.portA := rfl
@[simp] theorem State.overflow_portB (s : State) : (s.overflow).portB = s.portB := rfl
@[simp] theorem State.overflow_att (s : State) : (s.overflow).att = s.att := rfl
@[simp] theorem State.overflow_svc (s : State) : (s.overflow).svc = s.svc := rfl
@[simp] theorem State.overflow_camera (s : State) : (s.overflow).camera = s.camera := rfl
@[simp] theorem State.overflow_free (s : State) : (s.overflow).free = s.free := rfl

/-! ### State.onNewest -/

@[simp] theorem State.onNewest_pending (s : State) (f : TransitEntry → TransitEntry) : (s.onNewest f).pending = s.pending := rfl
@[simp] theorem State.onNewest_pins (s : State) (f : TransitEntry → TransitEntry) : (s.onNewest f).pins = s.pins := rfl
@[simp] theorem State.onNewest_node (s : State) (f : TransitEntry → TransitEntry) : (s.onNewest f).node = s.node := rfl
@[simp] theorem State.onNewest_tick (s : State) (f : TransitEntry → TransitEntry) : (s.onNewest f).tick = s.tick := rfl
@[simp] theorem State.onNewest_sched (s : State) (f : TransitEntry → TransitEntry) : (s.onNewest f).sched = s.sched := rfl
@[simp] theorem State.onNewest_view (s : State) (f : TransitEntry → TransitEntry) : (s.onNewest f).view = s.view := rfl
@[simp] theorem State.onNewest_store (s : State) (f : TransitEntry → TransitEntry) : (s.onNewest f).store = s.store := rfl
@[simp] theorem State.onNewest_portA (s : State) (f : TransitEntry → TransitEntry) : (s.onNewest f).portA = s.portA := rfl
@[simp] theorem State.onNewest_portB (s : State) (f : TransitEntry → TransitEntry) : (s.onNewest f).portB = s.portB := rfl
@[simp] theorem State.onNewest_att (s : State) (f : TransitEntry → TransitEntry) : (s.onNewest f).att = s.att := rfl
@[simp] theorem State.onNewest_svc (s : State) (f : TransitEntry → TransitEntry) : (s.onNewest f).svc = s.svc := rfl
@[simp] theorem State.onNewest_camera (s : State) (f : TransitEntry → TransitEntry) : (s.onNewest f).camera = s.camera := rfl
@[simp] theorem State.onNewest_free (s : State) (f : TransitEntry → TransitEntry) : (s.onNewest f).free = s.free := rfl

/-! ### State.begin -/

@[simp] theorem State.begin_pending (s : State) (t : Tx) : (s.begin t).pending = s.pending := rfl
@[simp] theorem State.begin_pins (s : State) (t : Tx) : (s.begin t).pins = s.pins := rfl
@[simp] theorem State.begin_node (s : State) (t : Tx) : (s.begin t).node = s.node := rfl
@[simp] theorem State.begin_tick (s : State) (t : Tx) : (s.begin t).tick = s.tick := rfl
@[simp] theorem State.begin_sched (s : State) (t : Tx) : (s.begin t).sched = s.sched := rfl
@[simp] theorem State.begin_view (s : State) (t : Tx) : (s.begin t).view = s.view := rfl
@[simp] theorem State.begin_store (s : State) (t : Tx) : (s.begin t).store = s.store := rfl
@[simp] theorem State.begin_portA (s : State) (t : Tx) : (s.begin t).portA = s.portA := rfl
@[simp] theorem State.begin_portB (s : State) (t : Tx) : (s.begin t).portB = s.portB := rfl
@[simp] theorem State.begin_att (s : State) (t : Tx) : (s.begin t).att = s.att := rfl
@[simp] theorem State.begin_svc (s : State) (t : Tx) : (s.begin t).svc = s.svc := rfl
@[simp] theorem State.begin_camera (s : State) (t : Tx) : (s.begin t).camera = s.camera := rfl
@[simp] theorem State.begin_free (s : State) (t : Tx) : (s.begin t).free = s.free := rfl

/-! ### State.wordSent -/

@[simp] theorem State.wordSent_pending (s : State) : (s.wordSent).pending = s.pending := rfl
@[simp] theorem State.wordSent_pins (s : State) : (s.wordSent).pins = s.pins := rfl
@[simp] theorem State.wordSent_node (s : State) : (s.wordSent).node = s.node := rfl
@[simp] theorem State.wordSent_tick (s : State) : (s.wordSent).tick = s.tick := rfl
@[simp] theorem State.wordSent_sched (s : State) : (s.wordSent).sched = s.sched := rfl
@[simp] theorem State.wordSent_view (s : State) : (s.wordSent).view = s.view := rfl
@[simp] theorem State.wordSent_store (s : State) : (s.wordSent).store = s.store := rfl
@[simp] theorem State.wordSent_portA (s : State) : (s.wordSent).portA = s.portA := rfl
@[simp] theorem State.wordSent_portB (s : State) : (s.wordSent).portB = s.portB := rfl
@[simp] theorem State.wordSent_att (s : State) : (s.wordSent).att = s.att := rfl
@[simp] theorem State.wordSent_svc (s : State) : (s.wordSent).svc = s.svc := rfl
@[simp] theorem State.wordSent_camera (s : State) : (s.wordSent).camera = s.camera := rfl
@[simp] theorem State.wordSent_free (s : State) : (s.wordSent).free = s.free := rfl

/-! ### State.giveResult -/

@[simp] theorem State.giveResult_pending (s : State) (r : MessageResult) : (s.giveResult r).pending = s.pending := rfl
@[simp] theorem State.giveResult_pins (s : State) (r : MessageResult) : (s.giveResult r).pins = s.pins := rfl
@[simp] theorem State.giveResult_node (s : State) (r : MessageResult) : (s.giveResult r).node = s.node := rfl
@[simp] theorem State.giveResult_tick (s : State) (r : MessageResult) : (s.giveResult r).tick = s.tick := rfl
@[simp] theorem State.giveResult_link (s : State) (r : MessageResult) : (s.giveResult r).link = s.link := rfl
@[simp] theorem State.giveResult_sched (s : State) (r : MessageResult) : (s.giveResult r).sched = s.sched := rfl
@[simp] theorem State.giveResult_view (s : State) (r : MessageResult) : (s.giveResult r).view = s.view := rfl
@[simp] theorem State.giveResult_store (s : State) (r : MessageResult) : (s.giveResult r).store = s.store := rfl
@[simp] theorem State.giveResult_portA (s : State) (r : MessageResult) : (s.giveResult r).portA = s.portA := rfl
@[simp] theorem State.giveResult_portB (s : State) (r : MessageResult) : (s.giveResult r).portB = s.portB := rfl
@[simp] theorem State.giveResult_camera (s : State) (r : MessageResult) : (s.giveResult r).camera = s.camera := rfl
@[simp] theorem State.giveResult_free (s : State) (r : MessageResult) : (s.giveResult r).free = s.free := rfl

/-! ### State.queueMessage -/

@[simp] theorem State.queueMessage_pending (s : State) (t : Option StationNo) (k : MessageKind) (u : List Word) : (s.queueMessage t k u).pending = s.pending := rfl
@[simp] theorem State.queueMessage_pins (s : State) (t : Option StationNo) (k : MessageKind) (u : List Word) : (s.queueMessage t k u).pins = s.pins := rfl
@[simp] theorem State.queueMessage_node (s : State) (t : Option StationNo) (k : MessageKind) (u : List Word) : (s.queueMessage t k u).node = s.node := rfl
@[simp] theorem State.queueMessage_tick (s : State) (t : Option StationNo) (k : MessageKind) (u : List Word) : (s.queueMessage t k u).tick = s.tick := rfl
@[simp] theorem State.queueMessage_link (s : State) (t : Option StationNo) (k : MessageKind) (u : List Word) : (s.queueMessage t k u).link = s.link := rfl
@[simp] theorem State.queueMessage_view (s : State) (t : Option StationNo) (k : MessageKind) (u : List Word) : (s.queueMessage t k u).view = s.view := rfl
@[simp] theorem State.queueMessage_store (s : State) (t : Option StationNo) (k : MessageKind) (u : List Word) : (s.queueMessage t k u).store = s.store := rfl
@[simp] theorem State.queueMessage_portA (s : State) (t : Option StationNo) (k : MessageKind) (u : List Word) : (s.queueMessage t k u).portA = s.portA := rfl
@[simp] theorem State.queueMessage_portB (s : State) (t : Option StationNo) (k : MessageKind) (u : List Word) : (s.queueMessage t k u).portB = s.portB := rfl
@[simp] theorem State.queueMessage_att (s : State) (t : Option StationNo) (k : MessageKind) (u : List Word) : (s.queueMessage t k u).att = s.att := rfl
@[simp] theorem State.queueMessage_camera (s : State) (t : Option StationNo) (k : MessageKind) (u : List Word) : (s.queueMessage t k u).camera = s.camera := rfl
@[simp] theorem State.queueMessage_free (s : State) (t : Option StationNo) (k : MessageKind) (u : List Word) : (s.queueMessage t k u).free = s.free := rfl

/-! ### State.markSent -/

@[simp] theorem State.markSent_pending (s : State) (t : Byte) : (s.markSent t).pending = s.pending := rfl
@[simp] theorem State.markSent_pins (s : State) (t : Byte) : (s.markSent t).pins = s.pins := rfl
@[simp] theorem State.markSent_node (s : State) (t : Byte) : (s.markSent t).node = s.node := rfl
@[simp] theorem State.markSent_tick (s : State) (t : Byte) : (s.markSent t).tick = s.tick := rfl
@[simp] theorem State.markSent_link (s : State) (t : Byte) : (s.markSent t).link = s.link := rfl
@[simp] theorem State.markSent_sched (s : State) (t : Byte) : (s.markSent t).sched = s.sched := rfl
@[simp] theorem State.markSent_view (s : State) (t : Byte) : (s.markSent t).view = s.view := rfl
@[simp] theorem State.markSent_store (s : State) (t : Byte) : (s.markSent t).store = s.store := rfl
@[simp] theorem State.markSent_portA (s : State) (t : Byte) : (s.markSent t).portA = s.portA := rfl
@[simp] theorem State.markSent_portB (s : State) (t : Byte) : (s.markSent t).portB = s.portB := rfl
@[simp] theorem State.markSent_att (s : State) (t : Byte) : (s.markSent t).att = s.att := rfl
@[simp] theorem State.markSent_camera (s : State) (t : Byte) : (s.markSent t).camera = s.camera := rfl
@[simp] theorem State.markSent_free (s : State) (t : Byte) : (s.markSent t).free = s.free := rfl

/-! ### State.reserve -/

@[simp] theorem State.reserve_pending (s : State) (e : InMessage) : (s.reserve e).pending = s.pending := rfl
@[simp] theorem State.reserve_pins (s : State) (e : InMessage) : (s.reserve e).pins = s.pins := rfl
@[simp] theorem State.reserve_node (s : State) (e : InMessage) : (s.reserve e).node = s.node := rfl
@[simp] theorem State.reserve_tick (s : State) (e : InMessage) : (s.reserve e).tick = s.tick := rfl
@[simp] theorem State.reserve_link (s : State) (e : InMessage) : (s.reserve e).link = s.link := rfl
@[simp] theorem State.reserve_sched (s : State) (e : InMessage) : (s.reserve e).sched = s.sched := rfl
@[simp] theorem State.reserve_view (s : State) (e : InMessage) : (s.reserve e).view = s.view := rfl
@[simp] theorem State.reserve_store (s : State) (e : InMessage) : (s.reserve e).store = s.store := rfl
@[simp] theorem State.reserve_portA (s : State) (e : InMessage) : (s.reserve e).portA = s.portA := rfl
@[simp] theorem State.reserve_portB (s : State) (e : InMessage) : (s.reserve e).portB = s.portB := rfl
@[simp] theorem State.reserve_att (s : State) (e : InMessage) : (s.reserve e).att = s.att := rfl
@[simp] theorem State.reserve_camera (s : State) (e : InMessage) : (s.reserve e).camera = s.camera := rfl
@[simp] theorem State.reserve_free (s : State) (e : InMessage) : (s.reserve e).free = s.free := rfl

/-! ### State.withdraw -/

@[simp] theorem State.withdraw_pending (s : State) : (s.withdraw).pending = s.pending := rfl
@[simp] theorem State.withdraw_pins (s : State) : (s.withdraw).pins = s.pins := rfl
@[simp] theorem State.withdraw_node (s : State) : (s.withdraw).node = s.node := rfl
@[simp] theorem State.withdraw_tick (s : State) : (s.withdraw).tick = s.tick := rfl
@[simp] theorem State.withdraw_link (s : State) : (s.withdraw).link = s.link := rfl
@[simp] theorem State.withdraw_sched (s : State) : (s.withdraw).sched = s.sched := rfl
@[simp] theorem State.withdraw_view (s : State) : (s.withdraw).view = s.view := rfl
@[simp] theorem State.withdraw_store (s : State) : (s.withdraw).store = s.store := rfl
@[simp] theorem State.withdraw_portA (s : State) : (s.withdraw).portA = s.portA := rfl
@[simp] theorem State.withdraw_portB (s : State) : (s.withdraw).portB = s.portB := rfl
@[simp] theorem State.withdraw_att (s : State) : (s.withdraw).att = s.att := rfl
@[simp] theorem State.withdraw_camera (s : State) : (s.withdraw).camera = s.camera := rfl
@[simp] theorem State.withdraw_free (s : State) : (s.withdraw).free = s.free := rfl

/-! ### State.completeEntry -/

@[simp] theorem State.completeEntry_pending (s : State) (u : List Word) : (s.completeEntry u).pending = s.pending := rfl
@[simp] theorem State.completeEntry_pins (s : State) (u : List Word) : (s.completeEntry u).pins = s.pins := rfl
@[simp] theorem State.completeEntry_node (s : State) (u : List Word) : (s.completeEntry u).node = s.node := rfl
@[simp] theorem State.completeEntry_tick (s : State) (u : List Word) : (s.completeEntry u).tick = s.tick := rfl
@[simp] theorem State.completeEntry_link (s : State) (u : List Word) : (s.completeEntry u).link = s.link := rfl
@[simp] theorem State.completeEntry_sched (s : State) (u : List Word) : (s.completeEntry u).sched = s.sched := rfl
@[simp] theorem State.completeEntry_view (s : State) (u : List Word) : (s.completeEntry u).view = s.view := rfl
@[simp] theorem State.completeEntry_store (s : State) (u : List Word) : (s.completeEntry u).store = s.store := rfl
@[simp] theorem State.completeEntry_portA (s : State) (u : List Word) : (s.completeEntry u).portA = s.portA := rfl
@[simp] theorem State.completeEntry_portB (s : State) (u : List Word) : (s.completeEntry u).portB = s.portB := rfl
@[simp] theorem State.completeEntry_camera (s : State) (u : List Word) : (s.completeEntry u).camera = s.camera := rfl
@[simp] theorem State.completeEntry_free (s : State) (u : List Word) : (s.completeEntry u).free = s.free := rfl

/-! ### State.ownCensusSend -/

@[simp] theorem State.ownCensusSend_pending (s : State) : (s.ownCensusSend).pending = s.pending := rfl
@[simp] theorem State.ownCensusSend_pins (s : State) : (s.ownCensusSend).pins = s.pins := rfl
@[simp] theorem State.ownCensusSend_node (s : State) : (s.ownCensusSend).node = s.node := rfl
@[simp] theorem State.ownCensusSend_tick (s : State) : (s.ownCensusSend).tick = s.tick := rfl
@[simp] theorem State.ownCensusSend_sched (s : State) : (s.ownCensusSend).sched = s.sched := rfl
@[simp] theorem State.ownCensusSend_store (s : State) : (s.ownCensusSend).store = s.store := rfl
@[simp] theorem State.ownCensusSend_portA (s : State) : (s.ownCensusSend).portA = s.portA := rfl
@[simp] theorem State.ownCensusSend_portB (s : State) : (s.ownCensusSend).portB = s.portB := rfl
@[simp] theorem State.ownCensusSend_svc (s : State) : (s.ownCensusSend).svc = s.svc := rfl
@[simp] theorem State.ownCensusSend_camera (s : State) : (s.ownCensusSend).camera = s.camera := rfl
@[simp] theorem State.ownCensusSend_free (s : State) : (s.ownCensusSend).free = s.free := rfl

/-! ### State.censusReturn -/

@[simp] theorem State.censusReturn_pending (s : State) : (s.censusReturn).pending = s.pending := rfl
@[simp] theorem State.censusReturn_pins (s : State) : (s.censusReturn).pins = s.pins := rfl
@[simp] theorem State.censusReturn_node (s : State) : (s.censusReturn).node = s.node := rfl
@[simp] theorem State.censusReturn_tick (s : State) : (s.censusReturn).tick = s.tick := rfl
@[simp] theorem State.censusReturn_link (s : State) : (s.censusReturn).link = s.link := rfl
@[simp] theorem State.censusReturn_sched (s : State) : (s.censusReturn).sched = s.sched := rfl
@[simp] theorem State.censusReturn_store (s : State) : (s.censusReturn).store = s.store := rfl
@[simp] theorem State.censusReturn_portA (s : State) : (s.censusReturn).portA = s.portA := rfl
@[simp] theorem State.censusReturn_portB (s : State) : (s.censusReturn).portB = s.portB := rfl
@[simp] theorem State.censusReturn_svc (s : State) : (s.censusReturn).svc = s.svc := rfl
@[simp] theorem State.censusReturn_camera (s : State) : (s.censusReturn).camera = s.camera := rfl
@[simp] theorem State.censusReturn_free (s : State) : (s.censusReturn).free = s.free := rfl

/-! ### State.discardFrame -/

@[simp] theorem State.discardFrame_pending (s : State) : (s.discardFrame).pending = s.pending := rfl
@[simp] theorem State.discardFrame_pins (s : State) : (s.discardFrame).pins = s.pins := rfl
@[simp] theorem State.discardFrame_node (s : State) : (s.discardFrame).node = s.node := rfl
@[simp] theorem State.discardFrame_tick (s : State) : (s.discardFrame).tick = s.tick := rfl
@[simp] theorem State.discardFrame_link (s : State) : (s.discardFrame).link = s.link := rfl
@[simp] theorem State.discardFrame_sched (s : State) : (s.discardFrame).sched = s.sched := rfl
@[simp] theorem State.discardFrame_view (s : State) : (s.discardFrame).view = s.view := rfl
@[simp] theorem State.discardFrame_store (s : State) : (s.discardFrame).store = s.store := rfl
@[simp] theorem State.discardFrame_portA (s : State) : (s.discardFrame).portA = s.portA := rfl
@[simp] theorem State.discardFrame_portB (s : State) : (s.discardFrame).portB = s.portB := rfl
@[simp] theorem State.discardFrame_att (s : State) : (s.discardFrame).att = s.att := rfl
@[simp] theorem State.discardFrame_camera (s : State) : (s.discardFrame).camera = s.camera := rfl
@[simp] theorem State.discardFrame_free (s : State) : (s.discardFrame).free = s.free := rfl

/-! ### State.readFrame -/

@[simp] theorem State.readFrame_pending (s : State) (n : Nat) : (s.readFrame n).pending = s.pending := rfl
@[simp] theorem State.readFrame_pins (s : State) (n : Nat) : (s.readFrame n).pins = s.pins := rfl
@[simp] theorem State.readFrame_node (s : State) (n : Nat) : (s.readFrame n).node = s.node := rfl
@[simp] theorem State.readFrame_tick (s : State) (n : Nat) : (s.readFrame n).tick = s.tick := rfl
@[simp] theorem State.readFrame_link (s : State) (n : Nat) : (s.readFrame n).link = s.link := rfl
@[simp] theorem State.readFrame_sched (s : State) (n : Nat) : (s.readFrame n).sched = s.sched := rfl
@[simp] theorem State.readFrame_view (s : State) (n : Nat) : (s.readFrame n).view = s.view := rfl
@[simp] theorem State.readFrame_store (s : State) (n : Nat) : (s.readFrame n).store = s.store := rfl
@[simp] theorem State.readFrame_portA (s : State) (n : Nat) : (s.readFrame n).portA = s.portA := rfl
@[simp] theorem State.readFrame_portB (s : State) (n : Nat) : (s.readFrame n).portB = s.portB := rfl
@[simp] theorem State.readFrame_att (s : State) (n : Nat) : (s.readFrame n).att = s.att := rfl
@[simp] theorem State.readFrame_camera (s : State) (n : Nat) : (s.readFrame n).camera = s.camera := rfl
@[simp] theorem State.readFrame_free (s : State) (n : Nat) : (s.readFrame n).free = s.free := rfl

/-! ### State.countTick -/

@[simp] theorem State.countTick_pending (s : State) (r w : Bool) : (s.countTick r w).pending = s.pending := rfl
@[simp] theorem State.countTick_link (s : State) (r w : Bool) : (s.countTick r w).link = s.link := rfl
@[simp] theorem State.countTick_store (s : State) (r w : Bool) : (s.countTick r w).store = s.store := rfl
@[simp] theorem State.countTick_att (s : State) (r w : Bool) : (s.countTick r w).att = s.att := rfl
@[simp] theorem State.countTick_svc (s : State) (r w : Bool) : (s.countTick r w).svc = s.svc := rfl
@[simp] theorem State.countTick_free (s : State) (r w : Bool) : (s.countTick r w).free = s.free := rfl

/-! ### The fields the updates change -/

@[simp] theorem State.raise_pending_set (s : State) (m : Half) : (s.raise m).att.pending = s.att.pending ||| m := rfl
@[simp] theorem State.raise_enable_set (s : State) (m : Half) : (s.raise m).att.enable = s.att.enable := rfl
@[simp] theorem State.respond_response (s : State) (c : ResponseCode) (d : List Byte) :
    (s.respond c d).svc.response = some { code := c, data := d } := rfl
@[simp] theorem State.respond_outbox (s : State) (c : ResponseCode) (d : List Byte) :
    (s.respond c d).svc.outbox = s.svc.outbox := rfl
@[simp] theorem State.respond_inbox (s : State) (c : ResponseCode) (d : List Byte) :
    (s.respond c d).svc.inbox = s.svc.inbox := rfl
@[simp] theorem State.respond_results (s : State) (c : ResponseCode) (d : List Byte) :
    (s.respond c d).svc.results = s.svc.results := rfl
@[simp] theorem State.respond_tag (s : State) (c : ResponseCode) (d : List Byte) :
    (s.respond c d).svc.tag = s.svc.tag := rfl
@[simp] theorem State.toStage_stage (s : State) (g : Stage) : (s.toStage g).link.stage = g := rfl
@[simp] theorem State.toStage_transit (s : State) (g : Stage) : (s.toStage g).link.transit = s.link.transit := rfl
@[simp] theorem State.headerError_hdrErr (s : State) : s.headerError.link.hdrErr = holdInc s.link.hdrErr := rfl
@[simp] theorem State.headerError_transit (s : State) : s.headerError.link.transit = s.link.transit := rfl
@[simp] theorem State.payloadError_payErr (s : State) : s.payloadError.link.payErr = holdInc s.link.payErr := rfl
@[simp] theorem State.payloadError_transit (s : State) : s.payloadError.link.transit = s.link.transit := rfl
@[simp] theorem State.overflow_ovf (s : State) : s.overflow.link.ovf = holdInc s.link.ovf := rfl
@[simp] theorem State.overflow_transit (s : State) : s.overflow.link.transit = s.link.transit := rfl
@[simp] theorem State.onNewest_transit (s : State) (f : TransitEntry → TransitEntry) :
    (s.onNewest f).link.transit = mapNewest f s.link.transit := rfl
@[simp] theorem State.begin_tx (s : State) (t : Tx) : (s.begin t).link.tx = t := rfl
@[simp] theorem State.begin_out (s : State) (t : Tx) : (s.begin t).link.out = .sop := rfl
@[simp] theorem State.begin_transit (s : State) (t : Tx) : (s.begin t).link.transit = s.link.transit := rfl
@[simp] theorem State.judgeStarved_safeQ (s : State) : s.judgeStarved.sched.safeQ = s.sched.safeQ := rfl
@[simp] theorem State.judgeStarved_normalQ (s : State) : s.judgeStarved.sched.normalQ = s.sched.normalQ := rfl
@[simp] theorem State.judgeStarved_credit (s : State) : s.judgeStarved.sched.credit = s.sched.credit := rfl
@[simp] theorem State.countTick_tick (s : State) (r w : Bool) : (s.countTick r w).tick = s.tick + 1 := rfl
@[simp] theorem State.countTick_credit (s : State) (r w : Bool) :
    (s.countTick r w).sched.credit = creditAfterTick s := rfl

/-! ### State.setPort and State.port -/

@[simp] theorem State.setPort_pending (s : State) (p : PortId) (q : Port) : (s.setPort p q).pending = s.pending := by
  cases p <;> rfl
@[simp] theorem State.setPort_pins (s : State) (p : PortId) (q : Port) : (s.setPort p q).pins = s.pins := by
  cases p <;> rfl
@[simp] theorem State.setPort_node (s : State) (p : PortId) (q : Port) : (s.setPort p q).node = s.node := by
  cases p <;> rfl
@[simp] theorem State.setPort_tick (s : State) (p : PortId) (q : Port) : (s.setPort p q).tick = s.tick := by
  cases p <;> rfl
@[simp] theorem State.setPort_link (s : State) (p : PortId) (q : Port) : (s.setPort p q).link = s.link := by
  cases p <;> rfl
@[simp] theorem State.setPort_sched (s : State) (p : PortId) (q : Port) : (s.setPort p q).sched = s.sched := by
  cases p <;> rfl
@[simp] theorem State.setPort_view (s : State) (p : PortId) (q : Port) : (s.setPort p q).view = s.view := by
  cases p <;> rfl
@[simp] theorem State.setPort_store (s : State) (p : PortId) (q : Port) : (s.setPort p q).store = s.store := by
  cases p <;> rfl
@[simp] theorem State.setPort_att (s : State) (p : PortId) (q : Port) : (s.setPort p q).att = s.att := by
  cases p <;> rfl
@[simp] theorem State.setPort_svc (s : State) (p : PortId) (q : Port) : (s.setPort p q).svc = s.svc := by
  cases p <;> rfl
@[simp] theorem State.setPort_camera (s : State) (p : PortId) (q : Port) : (s.setPort p q).camera = s.camera := by
  cases p <;> rfl
@[simp] theorem State.setPort_free (s : State) (p : PortId) (q : Port) : (s.setPort p q).free = s.free := by
  cases p <;> rfl
@[simp] theorem State.port_a (s : State) : s.port .a = s.portA := rfl
@[simp] theorem State.port_b (s : State) : s.port .b = s.portB := rfl
@[simp] theorem State.port_raise (s : State) (m : Half) (p : PortId) : (s.raise m).port p = s.port p := by
  cases p <;> rfl
@[simp] theorem State.setPort_port (s : State) (p : PortId) (q : Port) : (s.setPort p q).port p = q := by
  cases p <;> rfl
theorem State.setPort_port_other (s : State) (p q : PortId) (x : Port) (h : p ≠ q) :
    (s.setPort p x).port q = s.port q := by
  cases p <;> cases q <;> first | rfl | exact absurd rfl h

/-! ### State.onOut and State.onOuts -/

@[simp] theorem State.onOut_pending (s : State) (p : PortId) (g : OutPort → OutPort × Half) :
    (s.onOut p g).pending = s.pending := by
  unfold State.onOut; split <;> simp
@[simp] theorem State.onOuts_pending (s : State) (g : OutPort → OutPort × Half) : (s.onOuts g).pending = s.pending := by
  simp [State.onOuts]
@[simp] theorem State.onOut_pins (s : State) (p : PortId) (g : OutPort → OutPort × Half) :
    (s.onOut p g).pins = s.pins := by
  unfold State.onOut; split <;> simp
@[simp] theorem State.onOuts_pins (s : State) (g : OutPort → OutPort × Half) : (s.onOuts g).pins = s.pins := by
  simp [State.onOuts]
@[simp] theorem State.onOut_node (s : State) (p : PortId) (g : OutPort → OutPort × Half) :
    (s.onOut p g).node = s.node := by
  unfold State.onOut; split <;> simp
@[simp] theorem State.onOuts_node (s : State) (g : OutPort → OutPort × Half) : (s.onOuts g).node = s.node := by
  simp [State.onOuts]
@[simp] theorem State.onOut_tick (s : State) (p : PortId) (g : OutPort → OutPort × Half) :
    (s.onOut p g).tick = s.tick := by
  unfold State.onOut; split <;> simp
@[simp] theorem State.onOuts_tick (s : State) (g : OutPort → OutPort × Half) : (s.onOuts g).tick = s.tick := by
  simp [State.onOuts]
@[simp] theorem State.onOut_link (s : State) (p : PortId) (g : OutPort → OutPort × Half) :
    (s.onOut p g).link = s.link := by
  unfold State.onOut; split <;> simp
@[simp] theorem State.onOuts_link (s : State) (g : OutPort → OutPort × Half) : (s.onOuts g).link = s.link := by
  simp [State.onOuts]
@[simp] theorem State.onOut_sched (s : State) (p : PortId) (g : OutPort → OutPort × Half) :
    (s.onOut p g).sched = s.sched := by
  unfold State.onOut; split <;> simp
@[simp] theorem State.onOuts_sched (s : State) (g : OutPort → OutPort × Half) : (s.onOuts g).sched = s.sched := by
  simp [State.onOuts]
@[simp] theorem State.onOut_view (s : State) (p : PortId) (g : OutPort → OutPort × Half) :
    (s.onOut p g).view = s.view := by
  unfold State.onOut; split <;> simp
@[simp] theorem State.onOuts_view (s : State) (g : OutPort → OutPort × Half) : (s.onOuts g).view = s.view := by
  simp [State.onOuts]
@[simp] theorem State.onOut_store (s : State) (p : PortId) (g : OutPort → OutPort × Half) :
    (s.onOut p g).store = s.store := by
  unfold State.onOut; split <;> simp
@[simp] theorem State.onOuts_store (s : State) (g : OutPort → OutPort × Half) : (s.onOuts g).store = s.store := by
  simp [State.onOuts]
@[simp] theorem State.onOut_svc (s : State) (p : PortId) (g : OutPort → OutPort × Half) :
    (s.onOut p g).svc = s.svc := by
  unfold State.onOut; split <;> simp
@[simp] theorem State.onOuts_svc (s : State) (g : OutPort → OutPort × Half) : (s.onOuts g).svc = s.svc := by
  simp [State.onOuts]
@[simp] theorem State.onOut_camera (s : State) (p : PortId) (g : OutPort → OutPort × Half) :
    (s.onOut p g).camera = s.camera := by
  unfold State.onOut; split <;> simp
@[simp] theorem State.onOuts_camera (s : State) (g : OutPort → OutPort × Half) : (s.onOuts g).camera = s.camera := by
  simp [State.onOuts]
@[simp] theorem State.onOut_free (s : State) (p : PortId) (g : OutPort → OutPort × Half) :
    (s.onOut p g).free = s.free := by
  unfold State.onOut; split <;> simp
@[simp] theorem State.onOuts_free (s : State) (g : OutPort → OutPort × Half) : (s.onOuts g).free = s.free := by
  simp [State.onOuts]

end Sys2Proof.Machine
end

