-- ==== Sys2Proof/Laws/Answers.lean ====
section
/-! SUPPORT. What the answers of the service port can be: the order of a station entry's streams (12.5), and what STATUS
answers. -/

namespace Sys2Proof.Machine

/-- A stream put in its place is added to the list, and nothing else changes. -/
theorem insertOffer_perm (o : Offer) (l : List Offer) : (insertOffer o l).Perm (o :: l) := by
  induction l with
  | nil => exact .refl _
  | cons x xs ih =>
    unfold insertOffer; split
    · exact .refl _
    · exact (ih.cons x).trans (.swap _ _ _)

/-- The streams in order are the streams. -/
theorem sortOffers_perm (l : List Offer) : (sortOffers l).Perm l := by
  induction l with
  | nil => exact .refl _
  | cons x xs ih => exact (insertOffer_perm x _).trans (ih.cons x)

/-- A stream put in its place leaves an ordered list ordered. -/
theorem insertOffer_sorted (o : Offer) (l : List Offer)
    (h : l.Pairwise (fun a b => a.index.toNat ≤ b.index.toNat)) :
    (insertOffer o l).Pairwise (fun a b => a.index.toNat ≤ b.index.toNat) := by
  induction l with
  | nil => simp [insertOffer]
  | cons x xs ih =>
    rw [List.pairwise_cons] at h
    unfold insertOffer; split <;> rename_i hx <;> rw [List.pairwise_cons]
    · refine ⟨fun y hy => ?_, List.pairwise_cons.mpr h⟩
      rcases List.mem_cons.mp hy with rfl | hy
      · exact hx
      · exact hx.trans (h.1 y hy)
    · refine ⟨fun y hy => ?_, ih h.2⟩
      rcases List.mem_cons.mp ((insertOffer_perm o xs).mem_iff.mp hy) with rfl | hy
      · omega
      · exact h.1 y hy

/-- The streams in order are in order of stream index (12.5). -/
theorem sortOffers_sorted (l : List Offer) : (sortOffers l).Pairwise (fun a b => a.index.toNat ≤ b.index.toNat) := by
  induction l with
  | nil => exact .nil
  | cons x xs ih => exact insertOffer_sorted x _ ih

/-- STATUS with a selector of 12.5 answers its record, in every node state (R167). -/
theorem execStatus_selected (s : State) (b : Byte) (r : Selector) (hr : s.node.held = false)
    (h : selectorOf b.toNat = some r) : execStatus [b] s = .next (s.respond .done (s.record r)) := by
  simp [execStatus, live, hr, argsFit, State.status, State.serve, statusArg, h]

/-- The CONTROL queue's entries are its census, if any, and its messages (R44). -/
theorem Scheduler.controlCount_eq (q : Scheduler) : q.controlCount = q.census.toList.length + q.msgs.length := by
  unfold Scheduler.controlCount; cases q.census <;> simp

end Sys2Proof.Machine
end

