-- ==== Sys2Proof/Laws/Frames.lean ====
section
/-! SUPPORT. What each shared operation leaves as it was: one lemma per field it does not touch. -/

namespace Sys2Proof.Machine

/-- What a fold's step keeps, the fold keeps. -/
theorem foldl_frame {α β : Type} (g : State → β) (f : State → α → State) (h : ∀ s a, g (f s a) = g s)
    (l : List α) (s : State) : g (l.foldl f s) = g s := by
  induction l generalizing s with
  | nil => rfl
  | cons a l ih => rw [List.foldl_cons, ih, h]

/-! ### State.purge -/

@[simp] theorem State.purge_pending (s : State) (kill : PicEntry → Bool) : (s.purge kill).pending = s.pending := by
  unfold State.purge; dsimp only; split <;> rfl
@[simp] theorem State.purge_pins (s : State) (kill : PicEntry → Bool) : (s.purge kill).pins = s.pins := by
  unfold State.purge; dsimp only; split <;> rfl
@[simp] theorem State.purge_node (s : State) (kill : PicEntry → Bool) : (s.purge kill).node = s.node := by
  unfold State.purge; dsimp only; split <;> rfl
@[simp] theorem State.purge_tick (s : State) (kill : PicEntry → Bool) : (s.purge kill).tick = s.tick := by
  unfold State.purge; dsimp only; split <;> rfl
@[simp] theorem State.purge_link (s : State) (kill : PicEntry → Bool) : (s.purge kill).link = s.link := by
  unfold State.purge; dsimp only; split <;> rfl
@[simp] theorem State.purge_view (s : State) (kill : PicEntry → Bool) : (s.purge kill).view = s.view := by
  unfold State.purge; dsimp only; split <;> rfl
@[simp] theorem State.purge_portA (s : State) (kill : PicEntry → Bool) : (s.purge kill).portA = s.portA := by
  unfold State.purge; dsimp only; split <;> rfl
@[simp] theorem State.purge_portB (s : State) (kill : PicEntry → Bool) : (s.purge kill).portB = s.portB := by
  unfold State.purge; dsimp only; split <;> rfl
@[simp] theorem State.purge_att (s : State) (kill : PicEntry → Bool) : (s.purge kill).att = s.att := by
  unfold State.purge; dsimp only; split <;> rfl
@[simp] theorem State.purge_svc (s : State) (kill : PicEntry → Bool) : (s.purge kill).svc = s.svc := by
  unfold State.purge; dsimp only; split <;> rfl
@[simp] theorem State.purge_camera (s : State) (kill : PicEntry → Bool) : (s.purge kill).camera = s.camera := by
  unfold State.purge; dsimp only; split <;> rfl
@[simp] theorem State.purge_free (s : State) (kill : PicEntry → Bool) : (s.purge kill).free = s.free := by
  unfold State.purge; dsimp only; split <;> rfl

/-! ### State.purgeStream -/

@[simp] theorem State.purgeStream_pending (s : State) (i : BitVec 3) : (s.purgeStream i).pending = s.pending := by simp [State.purgeStream]
@[simp] theorem State.purgeStream_pins (s : State) (i : BitVec 3) : (s.purgeStream i).pins = s.pins := by simp [State.purgeStream]
@[simp] theorem State.purgeStream_node (s : State) (i : BitVec 3) : (s.purgeStream i).node = s.node := by simp [State.purgeStream]
@[simp] theorem State.purgeStream_tick (s : State) (i : BitVec 3) : (s.purgeStream i).tick = s.tick := by simp [State.purgeStream]
@[simp] theorem State.purgeStream_link (s : State) (i : BitVec 3) : (s.purgeStream i).link = s.link := by simp [State.purgeStream]
@[simp] theorem State.purgeStream_view (s : State) (i : BitVec 3) : (s.purgeStream i).view = s.view := by simp [State.purgeStream]
@[simp] theorem State.purgeStream_portA (s : State) (i : BitVec 3) : (s.purgeStream i).portA = s.portA := by simp [State.purgeStream]
@[simp] theorem State.purgeStream_portB (s : State) (i : BitVec 3) : (s.purgeStream i).portB = s.portB := by simp [State.purgeStream]
@[simp] theorem State.purgeStream_att (s : State) (i : BitVec 3) : (s.purgeStream i).att = s.att := by simp [State.purgeStream]
@[simp] theorem State.purgeStream_svc (s : State) (i : BitVec 3) : (s.purgeStream i).svc = s.svc := by simp [State.purgeStream]
@[simp] theorem State.purgeStream_camera (s : State) (i : BitVec 3) : (s.purgeStream i).camera = s.camera := by simp [State.purgeStream]
@[simp] theorem State.purgeStream_free (s : State) (i : BitVec 3) : (s.purgeStream i).free = s.free := by simp [State.purgeStream]

/-! ### State.purgePictures -/

@[simp] theorem State.purgePictures_pending (s : State) : s.purgePictures.pending = s.pending := by simp [State.purgePictures]
@[simp] theorem State.purgePictures_pins (s : State) : s.purgePictures.pins = s.pins := by simp [State.purgePictures]
@[simp] theorem State.purgePictures_node (s : State) : s.purgePictures.node = s.node := by simp [State.purgePictures]
@[simp] theorem State.purgePictures_tick (s : State) : s.purgePictures.tick = s.tick := by simp [State.purgePictures]
@[simp] theorem State.purgePictures_link (s : State) : s.purgePictures.link = s.link := by simp [State.purgePictures]
@[simp] theorem State.purgePictures_view (s : State) : s.purgePictures.view = s.view := by simp [State.purgePictures]
@[simp] theorem State.purgePictures_portA (s : State) : s.purgePictures.portA = s.portA := by simp [State.purgePictures]
@[simp] theorem State.purgePictures_portB (s : State) : s.purgePictures.portB = s.portB := by simp [State.purgePictures]
@[simp] theorem State.purgePictures_att (s : State) : s.purgePictures.att = s.att := by simp [State.purgePictures]
@[simp] theorem State.purgePictures_svc (s : State) : s.purgePictures.svc = s.svc := by simp [State.purgePictures]
@[simp] theorem State.purgePictures_camera (s : State) : s.purgePictures.camera = s.camera := by simp [State.purgePictures]
@[simp] theorem State.purgePictures_free (s : State) : s.purgePictures.free = s.free := by simp [State.purgePictures]

/-! ### State.purgeStale -/

@[simp] theorem State.purgeStale_pending (s : State) (i : BitVec 3) : (s.purgeStale i).pending = s.pending := by simp [State.purgeStale]
@[simp] theorem State.purgeStale_pins (s : State) (i : BitVec 3) : (s.purgeStale i).pins = s.pins := by simp [State.purgeStale]
@[simp] theorem State.purgeStale_node (s : State) (i : BitVec 3) : (s.purgeStale i).node = s.node := by simp [State.purgeStale]
@[simp] theorem State.purgeStale_tick (s : State) (i : BitVec 3) : (s.purgeStale i).tick = s.tick := by simp [State.purgeStale]
@[simp] theorem State.purgeStale_link (s : State) (i : BitVec 3) : (s.purgeStale i).link = s.link := by simp [State.purgeStale]
@[simp] theorem State.purgeStale_view (s : State) (i : BitVec 3) : (s.purgeStale i).view = s.view := by simp [State.purgeStale]
@[simp] theorem State.purgeStale_portA (s : State) (i : BitVec 3) : (s.purgeStale i).portA = s.portA := by simp [State.purgeStale]
@[simp] theorem State.purgeStale_portB (s : State) (i : BitVec 3) : (s.purgeStale i).portB = s.portB := by simp [State.purgeStale]
@[simp] theorem State.purgeStale_att (s : State) (i : BitVec 3) : (s.purgeStale i).att = s.att := by simp [State.purgeStale]
@[simp] theorem State.purgeStale_svc (s : State) (i : BitVec 3) : (s.purgeStale i).svc = s.svc := by simp [State.purgeStale]
@[simp] theorem State.purgeStale_camera (s : State) (i : BitVec 3) : (s.purgeStale i).camera = s.camera := by simp [State.purgeStale]
@[simp] theorem State.purgeStale_free (s : State) (i : BitVec 3) : (s.purgeStale i).free = s.free := by simp [State.purgeStale]

/-! ### State.append -/

@[simp] theorem State.append_pending (s : State) (e : PicEntry) : (s.append e).1.pending = s.pending := by
  unfold State.append; dsimp only; split_ifs <;> simp
@[simp] theorem State.append_pins (s : State) (e : PicEntry) : (s.append e).1.pins = s.pins := by
  unfold State.append; dsimp only; split_ifs <;> simp
@[simp] theorem State.append_node (s : State) (e : PicEntry) : (s.append e).1.node = s.node := by
  unfold State.append; dsimp only; split_ifs <;> simp
@[simp] theorem State.append_tick (s : State) (e : PicEntry) : (s.append e).1.tick = s.tick := by
  unfold State.append; dsimp only; split_ifs <;> simp
@[simp] theorem State.append_link (s : State) (e : PicEntry) : (s.append e).1.link = s.link := by
  unfold State.append; dsimp only; split_ifs <;> simp
@[simp] theorem State.append_view (s : State) (e : PicEntry) : (s.append e).1.view = s.view := by
  unfold State.append; dsimp only; split_ifs <;> simp
@[simp] theorem State.append_portA (s : State) (e : PicEntry) : (s.append e).1.portA = s.portA := by
  unfold State.append; dsimp only; split_ifs <;> simp
@[simp] theorem State.append_portB (s : State) (e : PicEntry) : (s.append e).1.portB = s.portB := by
  unfold State.append; dsimp only; split_ifs <;> simp
@[simp] theorem State.append_att (s : State) (e : PicEntry) : (s.append e).1.att = s.att := by
  unfold State.append; dsimp only; split_ifs <;> simp
@[simp] theorem State.append_svc (s : State) (e : PicEntry) : (s.append e).1.svc = s.svc := by
  unfold State.append; dsimp only; split_ifs <;> simp
@[simp] theorem State.append_camera (s : State) (e : PicEntry) : (s.append e).1.camera = s.camera := by
  unfold State.append; dsimp only; split_ifs <;> simp
@[simp] theorem State.append_free (s : State) (e : PicEntry) : (s.append e).1.free = s.free := by
  unfold State.append; dsimp only; split_ifs <;> simp

/-! ### State.settlePort -/

@[simp] theorem State.settlePort_pending (s : State) (p : PortId) : (s.settlePort p).pending = s.pending := by
  unfold State.settlePort; split <;> first | rfl | (rw [foldl_frame (fun s : State => s.pending) _ (by intros; simp)]; simp)
@[simp] theorem State.settlePort_pins (s : State) (p : PortId) : (s.settlePort p).pins = s.pins := by
  unfold State.settlePort; split <;> first | rfl | (rw [foldl_frame (fun s : State => s.pins) _ (by intros; simp)]; simp)
@[simp] theorem State.settlePort_node (s : State) (p : PortId) : (s.settlePort p).node = s.node := by
  unfold State.settlePort; split <;> first | rfl | (rw [foldl_frame (fun s : State => s.node) _ (by intros; simp)]; simp)
@[simp] theorem State.settlePort_tick (s : State) (p : PortId) : (s.settlePort p).tick = s.tick := by
  unfold State.settlePort; split <;> first | rfl | (rw [foldl_frame (fun s : State => s.tick) _ (by intros; simp)]; simp)
@[simp] theorem State.settlePort_link (s : State) (p : PortId) : (s.settlePort p).link = s.link := by
  unfold State.settlePort; split <;> first | rfl | (rw [foldl_frame (fun s : State => s.link) _ (by intros; simp)]; simp)
@[simp] theorem State.settlePort_view (s : State) (p : PortId) : (s.settlePort p).view = s.view := by
  unfold State.settlePort; split <;> first | rfl | (rw [foldl_frame (fun s : State => s.view) _ (by intros; simp)]; simp)
@[simp] theorem State.settlePort_att (s : State) (p : PortId) : (s.settlePort p).att = s.att := by
  unfold State.settlePort; split <;> first | rfl | (rw [foldl_frame (fun s : State => s.att) _ (by intros; simp)]; simp)
@[simp] theorem State.settlePort_svc (s : State) (p : PortId) : (s.settlePort p).svc = s.svc := by
  unfold State.settlePort; split <;> first | rfl | (rw [foldl_frame (fun s : State => s.svc) _ (by intros; simp)]; simp)
@[simp] theorem State.settlePort_camera (s : State) (p : PortId) : (s.settlePort p).camera = s.camera := by
  unfold State.settlePort; split <;> first | rfl | (rw [foldl_frame (fun s : State => s.camera) _ (by intros; simp)]; simp)
@[simp] theorem State.settlePort_free (s : State) (p : PortId) : (s.settlePort p).free = s.free := by
  unfold State.settlePort; split <;> first | rfl | (rw [foldl_frame (fun s : State => s.free) _ (by intros; simp)]; simp)

/-! ### State.settleStreams -/

@[simp] theorem State.settleStreams_pending (s : State) : s.settleStreams.pending = s.pending := by simp [State.settleStreams]
@[simp] theorem State.settleStreams_pins (s : State) : s.settleStreams.pins = s.pins := by simp [State.settleStreams]
@[simp] theorem State.settleStreams_node (s : State) : s.settleStreams.node = s.node := by simp [State.settleStreams]
@[simp] theorem State.settleStreams_tick (s : State) : s.settleStreams.tick = s.tick := by simp [State.settleStreams]
@[simp] theorem State.settleStreams_link (s : State) : s.settleStreams.link = s.link := by simp [State.settleStreams]
@[simp] theorem State.settleStreams_view (s : State) : s.settleStreams.view = s.view := by simp [State.settleStreams]
@[simp] theorem State.settleStreams_att (s : State) : s.settleStreams.att = s.att := by simp [State.settleStreams]
@[simp] theorem State.settleStreams_svc (s : State) : s.settleStreams.svc = s.svc := by simp [State.settleStreams]
@[simp] theorem State.settleStreams_camera (s : State) : s.settleStreams.camera = s.camera := by simp [State.settleStreams]
@[simp] theorem State.settleStreams_free (s : State) : s.settleStreams.free = s.free := by simp [State.settleStreams]

/-! ### State.setStream -/

@[simp] theorem State.setStream_pending (s : State) (p : PortId) (i : Nat) (k : Stream) : (s.setStream p i k).pending = s.pending := by
  unfold State.setStream; split <;> simp
@[simp] theorem State.setStream_pins (s : State) (p : PortId) (i : Nat) (k : Stream) : (s.setStream p i k).pins = s.pins := by
  unfold State.setStream; split <;> simp
@[simp] theorem State.setStream_node (s : State) (p : PortId) (i : Nat) (k : Stream) : (s.setStream p i k).node = s.node := by
  unfold State.setStream; split <;> simp
@[simp] theorem State.setStream_tick (s : State) (p : PortId) (i : Nat) (k : Stream) : (s.setStream p i k).tick = s.tick := by
  unfold State.setStream; split <;> simp
@[simp] theorem State.setStream_link (s : State) (p : PortId) (i : Nat) (k : Stream) : (s.setStream p i k).link = s.link := by
  unfold State.setStream; split <;> simp
@[simp] theorem State.setStream_sched (s : State) (p : PortId) (i : Nat) (k : Stream) : (s.setStream p i k).sched = s.sched := by
  unfold State.setStream; split <;> simp
@[simp] theorem State.setStream_view (s : State) (p : PortId) (i : Nat) (k : Stream) : (s.setStream p i k).view = s.view := by
  unfold State.setStream; split <;> simp
@[simp] theorem State.setStream_store (s : State) (p : PortId) (i : Nat) (k : Stream) : (s.setStream p i k).store = s.store := by
  unfold State.setStream; split <;> simp
@[simp] theorem State.setStream_att (s : State) (p : PortId) (i : Nat) (k : Stream) : (s.setStream p i k).att = s.att := by
  unfold State.setStream; split <;> simp
@[simp] theorem State.setStream_svc (s : State) (p : PortId) (i : Nat) (k : Stream) : (s.setStream p i k).svc = s.svc := by
  unfold State.setStream; split <;> simp
@[simp] theorem State.setStream_camera (s : State) (p : PortId) (i : Nat) (k : Stream) : (s.setStream p i k).camera = s.camera := by
  unfold State.setStream; split <;> simp
@[simp] theorem State.setStream_free (s : State) (p : PortId) (i : Nat) (k : Stream) : (s.setStream p i k).free = s.free := by
  unfold State.setStream; split <;> simp

/-! ### State.dropLine -/

@[simp] theorem State.dropLine_pending (s : State) (p : PortId) (i : Nat) (k : Stream) : (s.dropLine p i k).pending = s.pending := by simp [State.dropLine]
@[simp] theorem State.dropLine_pins (s : State) (p : PortId) (i : Nat) (k : Stream) : (s.dropLine p i k).pins = s.pins := by simp [State.dropLine]
@[simp] theorem State.dropLine_node (s : State) (p : PortId) (i : Nat) (k : Stream) : (s.dropLine p i k).node = s.node := by simp [State.dropLine]
@[simp] theorem State.dropLine_tick (s : State) (p : PortId) (i : Nat) (k : Stream) : (s.dropLine p i k).tick = s.tick := by simp [State.dropLine]
@[simp] theorem State.dropLine_link (s : State) (p : PortId) (i : Nat) (k : Stream) : (s.dropLine p i k).link = s.link := by simp [State.dropLine]
@[simp] theorem State.dropLine_sched (s : State) (p : PortId) (i : Nat) (k : Stream) : (s.dropLine p i k).sched = s.sched := by simp [State.dropLine]
@[simp] theorem State.dropLine_view (s : State) (p : PortId) (i : Nat) (k : Stream) : (s.dropLine p i k).view = s.view := by simp [State.dropLine]
@[simp] theorem State.dropLine_store (s : State) (p : PortId) (i : Nat) (k : Stream) : (s.dropLine p i k).store = s.store := by simp [State.dropLine]
@[simp] theorem State.dropLine_svc (s : State) (p : PortId) (i : Nat) (k : Stream) : (s.dropLine p i k).svc = s.svc := by simp [State.dropLine]
@[simp] theorem State.dropLine_camera (s : State) (p : PortId) (i : Nat) (k : Stream) : (s.dropLine p i k).camera = s.camera := by simp [State.dropLine]
@[simp] theorem State.dropLine_free (s : State) (p : PortId) (i : Nat) (k : Stream) : (s.dropLine p i k).free = s.free := by simp [State.dropLine]

/-! ### State.dropMark -/

@[simp] theorem State.dropMark_pending (s : State) (p : PortId) (i : Nat) (k : Stream) : (s.dropMark p i k).pending = s.pending := by simp [State.dropMark]
@[simp] theorem State.dropMark_pins (s : State) (p : PortId) (i : Nat) (k : Stream) : (s.dropMark p i k).pins = s.pins := by simp [State.dropMark]
@[simp] theorem State.dropMark_node (s : State) (p : PortId) (i : Nat) (k : Stream) : (s.dropMark p i k).node = s.node := by simp [State.dropMark]
@[simp] theorem State.dropMark_tick (s : State) (p : PortId) (i : Nat) (k : Stream) : (s.dropMark p i k).tick = s.tick := by simp [State.dropMark]
@[simp] theorem State.dropMark_link (s : State) (p : PortId) (i : Nat) (k : Stream) : (s.dropMark p i k).link = s.link := by simp [State.dropMark]
@[simp] theorem State.dropMark_sched (s : State) (p : PortId) (i : Nat) (k : Stream) : (s.dropMark p i k).sched = s.sched := by simp [State.dropMark]
@[simp] theorem State.dropMark_view (s : State) (p : PortId) (i : Nat) (k : Stream) : (s.dropMark p i k).view = s.view := by simp [State.dropMark]
@[simp] theorem State.dropMark_store (s : State) (p : PortId) (i : Nat) (k : Stream) : (s.dropMark p i k).store = s.store := by simp [State.dropMark]
@[simp] theorem State.dropMark_svc (s : State) (p : PortId) (i : Nat) (k : Stream) : (s.dropMark p i k).svc = s.svc := by simp [State.dropMark]
@[simp] theorem State.dropMark_camera (s : State) (p : PortId) (i : Nat) (k : Stream) : (s.dropMark p i k).camera = s.camera := by simp [State.dropMark]
@[simp] theorem State.dropMark_free (s : State) (p : PortId) (i : Nat) (k : Stream) : (s.dropMark p i k).free = s.free := by simp [State.dropMark]

/-! ### State.placeLine -/

@[simp] theorem State.placeLine_pending (s : State) (p : PortId) (i : Nat) (y : Nat) (n : Half) (k : Stream) : (s.placeLine p i y n k).pending = s.pending := by
  unfold State.placeLine; dsimp only; split_ifs
  · simp
  · split
    · simp
    · split_ifs <;> simp
@[simp] theorem State.placeLine_pins (s : State) (p : PortId) (i : Nat) (y : Nat) (n : Half) (k : Stream) : (s.placeLine p i y n k).pins = s.pins := by
  unfold State.placeLine; dsimp only; split_ifs
  · simp
  · split
    · simp
    · split_ifs <;> simp
@[simp] theorem State.placeLine_node (s : State) (p : PortId) (i : Nat) (y : Nat) (n : Half) (k : Stream) : (s.placeLine p i y n k).node = s.node := by
  unfold State.placeLine; dsimp only; split_ifs
  · simp
  · split
    · simp
    · split_ifs <;> simp
@[simp] theorem State.placeLine_tick (s : State) (p : PortId) (i : Nat) (y : Nat) (n : Half) (k : Stream) : (s.placeLine p i y n k).tick = s.tick := by
  unfold State.placeLine; dsimp only; split_ifs
  · simp
  · split
    · simp
    · split_ifs <;> simp
@[simp] theorem State.placeLine_link (s : State) (p : PortId) (i : Nat) (y : Nat) (n : Half) (k : Stream) : (s.placeLine p i y n k).link = s.link := by
  unfold State.placeLine; dsimp only; split_ifs
  · simp
  · split
    · simp
    · split_ifs <;> simp
@[simp] theorem State.placeLine_view (s : State) (p : PortId) (i : Nat) (y : Nat) (n : Half) (k : Stream) : (s.placeLine p i y n k).view = s.view := by
  unfold State.placeLine; dsimp only; split_ifs
  · simp
  · split
    · simp
    · split_ifs <;> simp
@[simp] theorem State.placeLine_svc (s : State) (p : PortId) (i : Nat) (y : Nat) (n : Half) (k : Stream) : (s.placeLine p i y n k).svc = s.svc := by
  unfold State.placeLine; dsimp only; split_ifs
  · simp
  · split
    · simp
    · split_ifs <;> simp
@[simp] theorem State.placeLine_camera (s : State) (p : PortId) (i : Nat) (y : Nat) (n : Half) (k : Stream) : (s.placeLine p i y n k).camera = s.camera := by
  unfold State.placeLine; dsimp only; split_ifs
  · simp
  · split
    · simp
    · split_ifs <;> simp
@[simp] theorem State.placeLine_free (s : State) (p : PortId) (i : Nat) (y : Nat) (n : Half) (k : Stream) : (s.placeLine p i y n k).free = s.free := by
  unfold State.placeLine; dsimp only; split_ifs
  · simp
  · split
    · simp
    · split_ifs <;> simp

/-! ### State.cutPixel -/

@[simp] theorem State.cutPixel_pending (s : State) (p : PortId) (x : Pixel) (i : Nat) : (s.cutPixel p x i).pending = s.pending := by
  unfold State.cutPixel; split <;> try rfl
  split <;> try rfl
  dsimp only; split_ifs <;> simp
@[simp] theorem State.cutPixel_pins (s : State) (p : PortId) (x : Pixel) (i : Nat) : (s.cutPixel p x i).pins = s.pins := by
  unfold State.cutPixel; split <;> try rfl
  split <;> try rfl
  dsimp only; split_ifs <;> simp
@[simp] theorem State.cutPixel_node (s : State) (p : PortId) (x : Pixel) (i : Nat) : (s.cutPixel p x i).node = s.node := by
  unfold State.cutPixel; split <;> try rfl
  split <;> try rfl
  dsimp only; split_ifs <;> simp
@[simp] theorem State.cutPixel_tick (s : State) (p : PortId) (x : Pixel) (i : Nat) : (s.cutPixel p x i).tick = s.tick := by
  unfold State.cutPixel; split <;> try rfl
  split <;> try rfl
  dsimp only; split_ifs <;> simp
@[simp] theorem State.cutPixel_link (s : State) (p : PortId) (x : Pixel) (i : Nat) : (s.cutPixel p x i).link = s.link := by
  unfold State.cutPixel; split <;> try rfl
  split <;> try rfl
  dsimp only; split_ifs <;> simp
@[simp] theorem State.cutPixel_view (s : State) (p : PortId) (x : Pixel) (i : Nat) : (s.cutPixel p x i).view = s.view := by
  unfold State.cutPixel; split <;> try rfl
  split <;> try rfl
  dsimp only; split_ifs <;> simp
@[simp] theorem State.cutPixel_svc (s : State) (p : PortId) (x : Pixel) (i : Nat) : (s.cutPixel p x i).svc = s.svc := by
  unfold State.cutPixel; split <;> try rfl
  split <;> try rfl
  dsimp only; split_ifs <;> simp
@[simp] theorem State.cutPixel_camera (s : State) (p : PortId) (x : Pixel) (i : Nat) : (s.cutPixel p x i).camera = s.camera := by
  unfold State.cutPixel; split <;> try rfl
  split <;> try rfl
  dsimp only; split_ifs <;> simp
@[simp] theorem State.cutPixel_free (s : State) (p : PortId) (x : Pixel) (i : Nat) : (s.cutPixel p x i).free = s.free := by
  unfold State.cutPixel; split <;> try rfl
  split <;> try rfl
  dsimp only; split_ifs <;> simp

/-! ### State.countPixel -/

@[simp] theorem State.countPixel_pending (s : State) (p : PortId) : (s.countPixel p).pending = s.pending := by
  unfold State.countPixel; split <;> simp
@[simp] theorem State.countPixel_pins (s : State) (p : PortId) : (s.countPixel p).pins = s.pins := by
  unfold State.countPixel; split <;> simp
@[simp] theorem State.countPixel_node (s : State) (p : PortId) : (s.countPixel p).node = s.node := by
  unfold State.countPixel; split <;> simp
@[simp] theorem State.countPixel_tick (s : State) (p : PortId) : (s.countPixel p).tick = s.tick := by
  unfold State.countPixel; split <;> simp
@[simp] theorem State.countPixel_link (s : State) (p : PortId) : (s.countPixel p).link = s.link := by
  unfold State.countPixel; split <;> simp
@[simp] theorem State.countPixel_sched (s : State) (p : PortId) : (s.countPixel p).sched = s.sched := by
  unfold State.countPixel; split <;> simp
@[simp] theorem State.countPixel_view (s : State) (p : PortId) : (s.countPixel p).view = s.view := by
  unfold State.countPixel; split <;> simp
@[simp] theorem State.countPixel_store (s : State) (p : PortId) : (s.countPixel p).store = s.store := by
  unfold State.countPixel; split <;> simp
@[simp] theorem State.countPixel_att (s : State) (p : PortId) : (s.countPixel p).att = s.att := by
  unfold State.countPixel; split <;> simp
@[simp] theorem State.countPixel_svc (s : State) (p : PortId) : (s.countPixel p).svc = s.svc := by
  unfold State.countPixel; split <;> simp
@[simp] theorem State.countPixel_camera (s : State) (p : PortId) : (s.countPixel p).camera = s.camera := by
  unfold State.countPixel; split <;> simp
@[simp] theorem State.countPixel_free (s : State) (p : PortId) : (s.countPixel p).free = s.free := by
  unfold State.countPixel; split <;> simp

/-! ### State.activePixel -/

@[simp] theorem State.activePixel_pending (s : State) (p : PortId) (r : Component) (g : Component) (b : Component) : (s.activePixel p r g b).pending = s.pending := by
  unfold State.activePixel; split <;> try rfl
  split_ifs
  · rw [State.countPixel_pending]; exact foldl_frame (fun s : State => s.pending) _ (by intros; simp) _ _
  · rfl
@[simp] theorem State.activePixel_pins (s : State) (p : PortId) (r : Component) (g : Component) (b : Component) : (s.activePixel p r g b).pins = s.pins := by
  unfold State.activePixel; split <;> try rfl
  split_ifs
  · rw [State.countPixel_pins]; exact foldl_frame (fun s : State => s.pins) _ (by intros; simp) _ _
  · rfl
@[simp] theorem State.activePixel_node (s : State) (p : PortId) (r : Component) (g : Component) (b : Component) : (s.activePixel p r g b).node = s.node := by
  unfold State.activePixel; split <;> try rfl
  split_ifs
  · rw [State.countPixel_node]; exact foldl_frame (fun s : State => s.node) _ (by intros; simp) _ _
  · rfl
@[simp] theorem State.activePixel_tick (s : State) (p : PortId) (r : Component) (g : Component) (b : Component) : (s.activePixel p r g b).tick = s.tick := by
  unfold State.activePixel; split <;> try rfl
  split_ifs
  · rw [State.countPixel_tick]; exact foldl_frame (fun s : State => s.tick) _ (by intros; simp) _ _
  · rfl
@[simp] theorem State.activePixel_link (s : State) (p : PortId) (r : Component) (g : Component) (b : Component) : (s.activePixel p r g b).link = s.link := by
  unfold State.activePixel; split <;> try rfl
  split_ifs
  · rw [State.countPixel_link]; exact foldl_frame (fun s : State => s.link) _ (by intros; simp) _ _
  · rfl
@[simp] theorem State.activePixel_view (s : State) (p : PortId) (r : Component) (g : Component) (b : Component) : (s.activePixel p r g b).view = s.view := by
  unfold State.activePixel; split <;> try rfl
  split_ifs
  · rw [State.countPixel_view]; exact foldl_frame (fun s : State => s.view) _ (by intros; simp) _ _
  · rfl
@[simp] theorem State.activePixel_svc (s : State) (p : PortId) (r : Component) (g : Component) (b : Component) : (s.activePixel p r g b).svc = s.svc := by
  unfold State.activePixel; split <;> try rfl
  split_ifs
  · rw [State.countPixel_svc]; exact foldl_frame (fun s : State => s.svc) _ (by intros; simp) _ _
  · rfl
@[simp] theorem State.activePixel_camera (s : State) (p : PortId) (r : Component) (g : Component) (b : Component) : (s.activePixel p r g b).camera = s.camera := by
  unfold State.activePixel; split <;> try rfl
  split_ifs
  · rw [State.countPixel_camera]; exact foldl_frame (fun s : State => s.camera) _ (by intros; simp) _ _
  · rfl
@[simp] theorem State.activePixel_free (s : State) (p : PortId) (r : Component) (g : Component) (b : Component) : (s.activePixel p r g b).free = s.free := by
  unfold State.activePixel; split <;> try rfl
  split_ifs
  · rw [State.countPixel_free]; exact foldl_frame (fun s : State => s.free) _ (by intros; simp) _ _
  · rfl

/-! ### State.endWindowLine -/

@[simp] theorem State.endWindowLine_pending (s : State) (p : PortId) (i : Nat) : (s.endWindowLine p i).pending = s.pending := by
  unfold State.endWindowLine; split <;> try rfl
  split <;> try rfl
  split_ifs <;> simp
@[simp] theorem State.endWindowLine_pins (s : State) (p : PortId) (i : Nat) : (s.endWindowLine p i).pins = s.pins := by
  unfold State.endWindowLine; split <;> try rfl
  split <;> try rfl
  split_ifs <;> simp
@[simp] theorem State.endWindowLine_node (s : State) (p : PortId) (i : Nat) : (s.endWindowLine p i).node = s.node := by
  unfold State.endWindowLine; split <;> try rfl
  split <;> try rfl
  split_ifs <;> simp
@[simp] theorem State.endWindowLine_tick (s : State) (p : PortId) (i : Nat) : (s.endWindowLine p i).tick = s.tick := by
  unfold State.endWindowLine; split <;> try rfl
  split <;> try rfl
  split_ifs <;> simp
@[simp] theorem State.endWindowLine_link (s : State) (p : PortId) (i : Nat) : (s.endWindowLine p i).link = s.link := by
  unfold State.endWindowLine; split <;> try rfl
  split <;> try rfl
  split_ifs <;> simp
@[simp] theorem State.endWindowLine_view (s : State) (p : PortId) (i : Nat) : (s.endWindowLine p i).view = s.view := by
  unfold State.endWindowLine; split <;> try rfl
  split <;> try rfl
  split_ifs <;> simp
@[simp] theorem State.endWindowLine_svc (s : State) (p : PortId) (i : Nat) : (s.endWindowLine p i).svc = s.svc := by
  unfold State.endWindowLine; split <;> try rfl
  split <;> try rfl
  split_ifs <;> simp
@[simp] theorem State.endWindowLine_camera (s : State) (p : PortId) (i : Nat) : (s.endWindowLine p i).camera = s.camera := by
  unfold State.endWindowLine; split <;> try rfl
  split <;> try rfl
  split_ifs <;> simp
@[simp] theorem State.endWindowLine_free (s : State) (p : PortId) (i : Nat) : (s.endWindowLine p i).free = s.free := by
  unfold State.endWindowLine; split <;> try rfl
  split <;> try rfl
  split_ifs <;> simp

/-! ### State.measureLine -/

@[simp] theorem State.measureLine_pending (s : State) (p : PortId) : (s.measureLine p).pending = s.pending := by
  unfold State.measureLine; split <;> simp
@[simp] theorem State.measureLine_pins (s : State) (p : PortId) : (s.measureLine p).pins = s.pins := by
  unfold State.measureLine; split <;> simp
@[simp] theorem State.measureLine_node (s : State) (p : PortId) : (s.measureLine p).node = s.node := by
  unfold State.measureLine; split <;> simp
@[simp] theorem State.measureLine_tick (s : State) (p : PortId) : (s.measureLine p).tick = s.tick := by
  unfold State.measureLine; split <;> simp
@[simp] theorem State.measureLine_link (s : State) (p : PortId) : (s.measureLine p).link = s.link := by
  unfold State.measureLine; split <;> simp
@[simp] theorem State.measureLine_sched (s : State) (p : PortId) : (s.measureLine p).sched = s.sched := by
  unfold State.measureLine; split <;> simp
@[simp] theorem State.measureLine_view (s : State) (p : PortId) : (s.measureLine p).view = s.view := by
  unfold State.measureLine; split <;> simp
@[simp] theorem State.measureLine_store (s : State) (p : PortId) : (s.measureLine p).store = s.store := by
  unfold State.measureLine; split <;> simp
@[simp] theorem State.measureLine_att (s : State) (p : PortId) : (s.measureLine p).att = s.att := by
  unfold State.measureLine; split <;> simp
@[simp] theorem State.measureLine_svc (s : State) (p : PortId) : (s.measureLine p).svc = s.svc := by
  unfold State.measureLine; split <;> simp
@[simp] theorem State.measureLine_camera (s : State) (p : PortId) : (s.measureLine p).camera = s.camera := by
  unfold State.measureLine; split <;> simp
@[simp] theorem State.measureLine_free (s : State) (p : PortId) : (s.measureLine p).free = s.free := by
  unfold State.measureLine; split <;> simp

/-! ### State.inputLineEnd -/

@[simp] theorem State.inputLineEnd_pending (s : State) (p : PortId) : (s.inputLineEnd p).pending = s.pending := by
  unfold State.inputLineEnd; split <;> try rfl
  split_ifs
  · rw [State.measureLine_pending]; exact foldl_frame (fun s : State => s.pending) _ (by intros; simp) _ _
  · rfl
@[simp] theorem State.inputLineEnd_pins (s : State) (p : PortId) : (s.inputLineEnd p).pins = s.pins := by
  unfold State.inputLineEnd; split <;> try rfl
  split_ifs
  · rw [State.measureLine_pins]; exact foldl_frame (fun s : State => s.pins) _ (by intros; simp) _ _
  · rfl
@[simp] theorem State.inputLineEnd_node (s : State) (p : PortId) : (s.inputLineEnd p).node = s.node := by
  unfold State.inputLineEnd; split <;> try rfl
  split_ifs
  · rw [State.measureLine_node]; exact foldl_frame (fun s : State => s.node) _ (by intros; simp) _ _
  · rfl
@[simp] theorem State.inputLineEnd_tick (s : State) (p : PortId) : (s.inputLineEnd p).tick = s.tick := by
  unfold State.inputLineEnd; split <;> try rfl
  split_ifs
  · rw [State.measureLine_tick]; exact foldl_frame (fun s : State => s.tick) _ (by intros; simp) _ _
  · rfl
@[simp] theorem State.inputLineEnd_link (s : State) (p : PortId) : (s.inputLineEnd p).link = s.link := by
  unfold State.inputLineEnd; split <;> try rfl
  split_ifs
  · rw [State.measureLine_link]; exact foldl_frame (fun s : State => s.link) _ (by intros; simp) _ _
  · rfl
@[simp] theorem State.inputLineEnd_view (s : State) (p : PortId) : (s.inputLineEnd p).view = s.view := by
  unfold State.inputLineEnd; split <;> try rfl
  split_ifs
  · rw [State.measureLine_view]; exact foldl_frame (fun s : State => s.view) _ (by intros; simp) _ _
  · rfl
@[simp] theorem State.inputLineEnd_svc (s : State) (p : PortId) : (s.inputLineEnd p).svc = s.svc := by
  unfold State.inputLineEnd; split <;> try rfl
  split_ifs
  · rw [State.measureLine_svc]; exact foldl_frame (fun s : State => s.svc) _ (by intros; simp) _ _
  · rfl
@[simp] theorem State.inputLineEnd_camera (s : State) (p : PortId) : (s.inputLineEnd p).camera = s.camera := by
  unfold State.inputLineEnd; split <;> try rfl
  split_ifs
  · rw [State.measureLine_camera]; exact foldl_frame (fun s : State => s.camera) _ (by intros; simp) _ _
  · rfl
@[simp] theorem State.inputLineEnd_free (s : State) (p : PortId) : (s.inputLineEnd p).free = s.free := by
  unfold State.inputLineEnd; split <;> try rfl
  split_ifs
  · rw [State.measureLine_free]; exact foldl_frame (fun s : State => s.free) _ (by intros; simp) _ _
  · rfl

/-! ### State.openFrame -/

@[simp] theorem State.openFrame_pending (s : State) (p : PortId) (i : Nat) (n : Half) (z : Size) (k : Stream) : (s.openFrame p i n z k).pending = s.pending := by
  unfold State.openFrame; dsimp only; split_ifs <;> simp
@[simp] theorem State.openFrame_pins (s : State) (p : PortId) (i : Nat) (n : Half) (z : Size) (k : Stream) : (s.openFrame p i n z k).pins = s.pins := by
  unfold State.openFrame; dsimp only; split_ifs <;> simp
@[simp] theorem State.openFrame_node (s : State) (p : PortId) (i : Nat) (n : Half) (z : Size) (k : Stream) : (s.openFrame p i n z k).node = s.node := by
  unfold State.openFrame; dsimp only; split_ifs <;> simp
@[simp] theorem State.openFrame_tick (s : State) (p : PortId) (i : Nat) (n : Half) (z : Size) (k : Stream) : (s.openFrame p i n z k).tick = s.tick := by
  unfold State.openFrame; dsimp only; split_ifs <;> simp
@[simp] theorem State.openFrame_link (s : State) (p : PortId) (i : Nat) (n : Half) (z : Size) (k : Stream) : (s.openFrame p i n z k).link = s.link := by
  unfold State.openFrame; dsimp only; split_ifs <;> simp
@[simp] theorem State.openFrame_view (s : State) (p : PortId) (i : Nat) (n : Half) (z : Size) (k : Stream) : (s.openFrame p i n z k).view = s.view := by
  unfold State.openFrame; dsimp only; split_ifs <;> simp
@[simp] theorem State.openFrame_svc (s : State) (p : PortId) (i : Nat) (n : Half) (z : Size) (k : Stream) : (s.openFrame p i n z k).svc = s.svc := by
  unfold State.openFrame; dsimp only; split_ifs <;> simp
@[simp] theorem State.openFrame_camera (s : State) (p : PortId) (i : Nat) (n : Half) (z : Size) (k : Stream) : (s.openFrame p i n z k).camera = s.camera := by
  unfold State.openFrame; dsimp only; split_ifs <;> simp
@[simp] theorem State.openFrame_free (s : State) (p : PortId) (i : Nat) (n : Half) (z : Size) (k : Stream) : (s.openFrame p i n z k).free = s.free := by
  unfold State.openFrame; dsimp only; split_ifs <;> simp

/-! ### State.frameStream -/

@[simp] theorem State.frameStream_pending (s : State) (p : PortId) (i : Nat) : (s.frameStream p i).pending = s.pending := by
  unfold State.frameStream; split <;> try rfl
  split <;> try rfl
  split
  · split_ifs <;> simp
  · simp
@[simp] theorem State.frameStream_pins (s : State) (p : PortId) (i : Nat) : (s.frameStream p i).pins = s.pins := by
  unfold State.frameStream; split <;> try rfl
  split <;> try rfl
  split
  · split_ifs <;> simp
  · simp
@[simp] theorem State.frameStream_node (s : State) (p : PortId) (i : Nat) : (s.frameStream p i).node = s.node := by
  unfold State.frameStream; split <;> try rfl
  split <;> try rfl
  split
  · split_ifs <;> simp
  · simp
@[simp] theorem State.frameStream_tick (s : State) (p : PortId) (i : Nat) : (s.frameStream p i).tick = s.tick := by
  unfold State.frameStream; split <;> try rfl
  split <;> try rfl
  split
  · split_ifs <;> simp
  · simp
@[simp] theorem State.frameStream_link (s : State) (p : PortId) (i : Nat) : (s.frameStream p i).link = s.link := by
  unfold State.frameStream; split <;> try rfl
  split <;> try rfl
  split
  · split_ifs <;> simp
  · simp
@[simp] theorem State.frameStream_view (s : State) (p : PortId) (i : Nat) : (s.frameStream p i).view = s.view := by
  unfold State.frameStream; split <;> try rfl
  split <;> try rfl
  split
  · split_ifs <;> simp
  · simp
@[simp] theorem State.frameStream_svc (s : State) (p : PortId) (i : Nat) : (s.frameStream p i).svc = s.svc := by
  unfold State.frameStream; split <;> try rfl
  split <;> try rfl
  split
  · split_ifs <;> simp
  · simp
@[simp] theorem State.frameStream_camera (s : State) (p : PortId) (i : Nat) : (s.frameStream p i).camera = s.camera := by
  unfold State.frameStream; split <;> try rfl
  split <;> try rfl
  split
  · split_ifs <;> simp
  · simp
@[simp] theorem State.frameStream_free (s : State) (p : PortId) (i : Nat) : (s.frameStream p i).free = s.free := by
  unfold State.frameStream; split <;> try rfl
  split <;> try rfl
  split
  · split_ifs <;> simp
  · simp

/-! ### State.newFrame -/

@[simp] theorem State.newFrame_pending (s : State) (p : PortId) : (s.newFrame p).pending = s.pending := by
  unfold State.newFrame; split <;> simp
@[simp] theorem State.newFrame_pins (s : State) (p : PortId) : (s.newFrame p).pins = s.pins := by
  unfold State.newFrame; split <;> simp
@[simp] theorem State.newFrame_node (s : State) (p : PortId) : (s.newFrame p).node = s.node := by
  unfold State.newFrame; split <;> simp
@[simp] theorem State.newFrame_tick (s : State) (p : PortId) : (s.newFrame p).tick = s.tick := by
  unfold State.newFrame; split <;> simp
@[simp] theorem State.newFrame_link (s : State) (p : PortId) : (s.newFrame p).link = s.link := by
  unfold State.newFrame; split <;> simp
@[simp] theorem State.newFrame_sched (s : State) (p : PortId) : (s.newFrame p).sched = s.sched := by
  unfold State.newFrame; split <;> simp
@[simp] theorem State.newFrame_view (s : State) (p : PortId) : (s.newFrame p).view = s.view := by
  unfold State.newFrame; split <;> simp
@[simp] theorem State.newFrame_store (s : State) (p : PortId) : (s.newFrame p).store = s.store := by
  unfold State.newFrame; split <;> simp
@[simp] theorem State.newFrame_att (s : State) (p : PortId) : (s.newFrame p).att = s.att := by
  unfold State.newFrame; split <;> simp
@[simp] theorem State.newFrame_svc (s : State) (p : PortId) : (s.newFrame p).svc = s.svc := by
  unfold State.newFrame; split <;> simp
@[simp] theorem State.newFrame_camera (s : State) (p : PortId) : (s.newFrame p).camera = s.camera := by
  unfold State.newFrame; split <;> simp
@[simp] theorem State.newFrame_free (s : State) (p : PortId) : (s.newFrame p).free = s.free := by
  unfold State.newFrame; split <;> simp

/-! ### State.inputFrameStart -/

@[simp] theorem State.inputFrameStart_pending (s : State) (p : PortId) : (s.inputFrameStart p).pending = s.pending := by
  unfold State.inputFrameStart; split <;> try rfl
  split_ifs
  · rw [foldl_frame (fun s : State => s.pending) _ (by intros; simp)]; simp
  · rfl
@[simp] theorem State.inputFrameStart_pins (s : State) (p : PortId) : (s.inputFrameStart p).pins = s.pins := by
  unfold State.inputFrameStart; split <;> try rfl
  split_ifs
  · rw [foldl_frame (fun s : State => s.pins) _ (by intros; simp)]; simp
  · rfl
@[simp] theorem State.inputFrameStart_node (s : State) (p : PortId) : (s.inputFrameStart p).node = s.node := by
  unfold State.inputFrameStart; split <;> try rfl
  split_ifs
  · rw [foldl_frame (fun s : State => s.node) _ (by intros; simp)]; simp
  · rfl
@[simp] theorem State.inputFrameStart_tick (s : State) (p : PortId) : (s.inputFrameStart p).tick = s.tick := by
  unfold State.inputFrameStart; split <;> try rfl
  split_ifs
  · rw [foldl_frame (fun s : State => s.tick) _ (by intros; simp)]; simp
  · rfl
@[simp] theorem State.inputFrameStart_link (s : State) (p : PortId) : (s.inputFrameStart p).link = s.link := by
  unfold State.inputFrameStart; split <;> try rfl
  split_ifs
  · rw [foldl_frame (fun s : State => s.link) _ (by intros; simp)]; simp
  · rfl
@[simp] theorem State.inputFrameStart_view (s : State) (p : PortId) : (s.inputFrameStart p).view = s.view := by
  unfold State.inputFrameStart; split <;> try rfl
  split_ifs
  · rw [foldl_frame (fun s : State => s.view) _ (by intros; simp)]; simp
  · rfl
@[simp] theorem State.inputFrameStart_svc (s : State) (p : PortId) : (s.inputFrameStart p).svc = s.svc := by
  unfold State.inputFrameStart; split <;> try rfl
  split_ifs
  · rw [foldl_frame (fun s : State => s.svc) _ (by intros; simp)]; simp
  · rfl
@[simp] theorem State.inputFrameStart_camera (s : State) (p : PortId) : (s.inputFrameStart p).camera = s.camera := by
  unfold State.inputFrameStart; split <;> try rfl
  split_ifs
  · rw [foldl_frame (fun s : State => s.camera) _ (by intros; simp)]; simp
  · rfl
@[simp] theorem State.inputFrameStart_free (s : State) (p : PortId) : (s.inputFrameStart p).free = s.free := by
  unfold State.inputFrameStart; split <;> try rfl
  split_ifs
  · rw [foldl_frame (fun s : State => s.free) _ (by intros; simp)]; simp
  · rfl

/-! ### State.silenceTimeout -/

@[simp] theorem State.silenceTimeout_pending (s : State) (p : PortId) : (s.silenceTimeout p).pending = s.pending := by
  unfold State.silenceTimeout; split <;> try rfl
  split_ifs <;> simp
@[simp] theorem State.silenceTimeout_pins (s : State) (p : PortId) : (s.silenceTimeout p).pins = s.pins := by
  unfold State.silenceTimeout; split <;> try rfl
  split_ifs <;> simp
@[simp] theorem State.silenceTimeout_node (s : State) (p : PortId) : (s.silenceTimeout p).node = s.node := by
  unfold State.silenceTimeout; split <;> try rfl
  split_ifs <;> simp
@[simp] theorem State.silenceTimeout_tick (s : State) (p : PortId) : (s.silenceTimeout p).tick = s.tick := by
  unfold State.silenceTimeout; split <;> try rfl
  split_ifs <;> simp
@[simp] theorem State.silenceTimeout_link (s : State) (p : PortId) : (s.silenceTimeout p).link = s.link := by
  unfold State.silenceTimeout; split <;> try rfl
  split_ifs <;> simp
@[simp] theorem State.silenceTimeout_view (s : State) (p : PortId) : (s.silenceTimeout p).view = s.view := by
  unfold State.silenceTimeout; split <;> try rfl
  split_ifs <;> simp
@[simp] theorem State.silenceTimeout_att (s : State) (p : PortId) : (s.silenceTimeout p).att = s.att := by
  unfold State.silenceTimeout; split <;> try rfl
  split_ifs <;> simp
@[simp] theorem State.silenceTimeout_svc (s : State) (p : PortId) : (s.silenceTimeout p).svc = s.svc := by
  unfold State.silenceTimeout; split <;> try rfl
  split_ifs <;> simp
@[simp] theorem State.silenceTimeout_camera (s : State) (p : PortId) : (s.silenceTimeout p).camera = s.camera := by
  unfold State.silenceTimeout; split <;> try rfl
  split_ifs <;> simp
@[simp] theorem State.silenceTimeout_free (s : State) (p : PortId) : (s.silenceTimeout p).free = s.free := by
  unfold State.silenceTimeout; split <;> try rfl
  split_ifs <;> simp

/-! ### State.recomputeDemand -/

@[simp] theorem State.recomputeDemand_pending (s : State) : s.recomputeDemand.pending = s.pending := by
  unfold State.recomputeDemand; split_ifs <;> simp
@[simp] theorem State.recomputeDemand_pins (s : State) : s.recomputeDemand.pins = s.pins := by
  unfold State.recomputeDemand; split_ifs <;> simp
@[simp] theorem State.recomputeDemand_node (s : State) : s.recomputeDemand.node = s.node := by
  unfold State.recomputeDemand; split_ifs <;> simp
@[simp] theorem State.recomputeDemand_tick (s : State) : s.recomputeDemand.tick = s.tick := by
  unfold State.recomputeDemand; split_ifs <;> simp
@[simp] theorem State.recomputeDemand_link (s : State) : s.recomputeDemand.link = s.link := by
  unfold State.recomputeDemand; split_ifs <;> simp
@[simp] theorem State.recomputeDemand_att (s : State) : s.recomputeDemand.att = s.att := by
  unfold State.recomputeDemand; split_ifs <;> simp
@[simp] theorem State.recomputeDemand_svc (s : State) : s.recomputeDemand.svc = s.svc := by
  unfold State.recomputeDemand; split_ifs <;> simp
@[simp] theorem State.recomputeDemand_camera (s : State) : s.recomputeDemand.camera = s.camera := by
  unfold State.recomputeDemand; split_ifs <;> simp
@[simp] theorem State.recomputeDemand_free (s : State) : s.recomputeDemand.free = s.free := by
  unfold State.recomputeDemand; split_ifs <;> simp

/-! ### State.tableReport -/

@[simp] theorem State.tableReport_pending (s : State) (st : StationNo) : (s.tableReport st).pending = s.pending := by simp [State.tableReport]
@[simp] theorem State.tableReport_pins (s : State) (st : StationNo) : (s.tableReport st).pins = s.pins := by simp [State.tableReport]
@[simp] theorem State.tableReport_node (s : State) (st : StationNo) : (s.tableReport st).node = s.node := by simp [State.tableReport]
@[simp] theorem State.tableReport_tick (s : State) (st : StationNo) : (s.tableReport st).tick = s.tick := by simp [State.tableReport]
@[simp] theorem State.tableReport_link (s : State) (st : StationNo) : (s.tableReport st).link = s.link := by simp [State.tableReport]
@[simp] theorem State.tableReport_svc (s : State) (st : StationNo) : (s.tableReport st).svc = s.svc := by simp [State.tableReport]
@[simp] theorem State.tableReport_camera (s : State) (st : StationNo) : (s.tableReport st).camera = s.camera := by simp [State.tableReport]
@[simp] theorem State.tableReport_free (s : State) (st : StationNo) : (s.tableReport st).free = s.free := by simp [State.tableReport]

/-! ### State.censusCopy -/

@[simp] theorem State.censusCopy_pending (s : State) (st : StationNo) (h : BitVec 4) (ws : List Word) : (s.censusCopy st h ws).pending = s.pending := by
  unfold State.censusCopy; split <;> simp
@[simp] theorem State.censusCopy_pins (s : State) (st : StationNo) (h : BitVec 4) (ws : List Word) : (s.censusCopy st h ws).pins = s.pins := by
  unfold State.censusCopy; split <;> simp
@[simp] theorem State.censusCopy_node (s : State) (st : StationNo) (h : BitVec 4) (ws : List Word) : (s.censusCopy st h ws).node = s.node := by
  unfold State.censusCopy; split <;> simp
@[simp] theorem State.censusCopy_tick (s : State) (st : StationNo) (h : BitVec 4) (ws : List Word) : (s.censusCopy st h ws).tick = s.tick := by
  unfold State.censusCopy; split <;> simp
@[simp] theorem State.censusCopy_link (s : State) (st : StationNo) (h : BitVec 4) (ws : List Word) : (s.censusCopy st h ws).link = s.link := by
  unfold State.censusCopy; split <;> simp
@[simp] theorem State.censusCopy_svc (s : State) (st : StationNo) (h : BitVec 4) (ws : List Word) : (s.censusCopy st h ws).svc = s.svc := by
  unfold State.censusCopy; split <;> simp
@[simp] theorem State.censusCopy_camera (s : State) (st : StationNo) (h : BitVec 4) (ws : List Word) : (s.censusCopy st h ws).camera = s.camera := by
  unfold State.censusCopy; split <;> simp
@[simp] theorem State.censusCopy_free (s : State) (st : StationNo) (h : BitVec 4) (ws : List Word) : (s.censusCopy st h ws).free = s.free := by
  unfold State.censusCopy; split <;> simp

/-! ### State.removeEntry -/

@[simp] theorem State.removeEntry_pending (s : State) (st : StationNo) : (s.removeEntry st).pending = s.pending := by simp [State.removeEntry]
@[simp] theorem State.removeEntry_pins (s : State) (st : StationNo) : (s.removeEntry st).pins = s.pins := by simp [State.removeEntry]
@[simp] theorem State.removeEntry_node (s : State) (st : StationNo) : (s.removeEntry st).node = s.node := by simp [State.removeEntry]
@[simp] theorem State.removeEntry_tick (s : State) (st : StationNo) : (s.removeEntry st).tick = s.tick := by simp [State.removeEntry]
@[simp] theorem State.removeEntry_link (s : State) (st : StationNo) : (s.removeEntry st).link = s.link := by simp [State.removeEntry]
@[simp] theorem State.removeEntry_svc (s : State) (st : StationNo) : (s.removeEntry st).svc = s.svc := by simp [State.removeEntry]
@[simp] theorem State.removeEntry_camera (s : State) (st : StationNo) : (s.removeEntry st).camera = s.camera := by simp [State.removeEntry]
@[simp] theorem State.removeEntry_free (s : State) (st : StationNo) : (s.removeEntry st).free = s.free := by simp [State.removeEntry]

/-! ### State.entryExpiry -/

@[simp] theorem State.entryExpiry_pending (s : State) (st : StationNo) : (s.entryExpiry st).pending = s.pending := by
  unfold State.entryExpiry; split <;> try rfl
  split_ifs <;> simp
@[simp] theorem State.entryExpiry_pins (s : State) (st : StationNo) : (s.entryExpiry st).pins = s.pins := by
  unfold State.entryExpiry; split <;> try rfl
  split_ifs <;> simp
@[simp] theorem State.entryExpiry_node (s : State) (st : StationNo) : (s.entryExpiry st).node = s.node := by
  unfold State.entryExpiry; split <;> try rfl
  split_ifs <;> simp
@[simp] theorem State.entryExpiry_tick (s : State) (st : StationNo) : (s.entryExpiry st).tick = s.tick := by
  unfold State.entryExpiry; split <;> try rfl
  split_ifs <;> simp
@[simp] theorem State.entryExpiry_link (s : State) (st : StationNo) : (s.entryExpiry st).link = s.link := by
  unfold State.entryExpiry; split <;> try rfl
  split_ifs <;> simp
@[simp] theorem State.entryExpiry_svc (s : State) (st : StationNo) : (s.entryExpiry st).svc = s.svc := by
  unfold State.entryExpiry; split <;> try rfl
  split_ifs <;> simp
@[simp] theorem State.entryExpiry_camera (s : State) (st : StationNo) : (s.entryExpiry st).camera = s.camera := by
  unfold State.entryExpiry; split <;> try rfl
  split_ifs <;> simp
@[simp] theorem State.entryExpiry_free (s : State) (st : StationNo) : (s.entryExpiry st).free = s.free := by
  unfold State.entryExpiry; split <;> try rfl
  split_ifs <;> simp

/-! ### State.censusExpiry -/

@[simp] theorem State.censusExpiry_pending (s : State) : s.censusExpiry.pending = s.pending := by
  unfold State.censusExpiry; split_ifs <;> rfl
@[simp] theorem State.censusExpiry_pins (s : State) : s.censusExpiry.pins = s.pins := by
  unfold State.censusExpiry; split_ifs <;> rfl
@[simp] theorem State.censusExpiry_node (s : State) : s.censusExpiry.node = s.node := by
  unfold State.censusExpiry; split_ifs <;> rfl
@[simp] theorem State.censusExpiry_tick (s : State) : s.censusExpiry.tick = s.tick := by
  unfold State.censusExpiry; split_ifs <;> rfl
@[simp] theorem State.censusExpiry_link (s : State) : s.censusExpiry.link = s.link := by
  unfold State.censusExpiry; split_ifs <;> rfl
@[simp] theorem State.censusExpiry_store (s : State) : s.censusExpiry.store = s.store := by
  unfold State.censusExpiry; split_ifs <;> rfl
@[simp] theorem State.censusExpiry_portA (s : State) : s.censusExpiry.portA = s.portA := by
  unfold State.censusExpiry; split_ifs <;> rfl
@[simp] theorem State.censusExpiry_portB (s : State) : s.censusExpiry.portB = s.portB := by
  unfold State.censusExpiry; split_ifs <;> rfl
@[simp] theorem State.censusExpiry_att (s : State) : s.censusExpiry.att = s.att := by
  unfold State.censusExpiry; split_ifs <;> rfl
@[simp] theorem State.censusExpiry_svc (s : State) : s.censusExpiry.svc = s.svc := by
  unfold State.censusExpiry; split_ifs <;> rfl
@[simp] theorem State.censusExpiry_camera (s : State) : s.censusExpiry.camera = s.camera := by
  unfold State.censusExpiry; split_ifs <;> rfl
@[simp] theorem State.censusExpiry_free (s : State) : s.censusExpiry.free = s.free := by
  unfold State.censusExpiry; split_ifs <;> rfl

/-! ### State.enterState -/

@[simp] theorem State.enterState_pending (s : State) (n : NodeState) : (s.enterState n).pending = s.pending := by simp [State.enterState]
@[simp] theorem State.enterState_pins (s : State) (n : NodeState) : (s.enterState n).pins = s.pins := by simp [State.enterState]
@[simp] theorem State.enterState_tick (s : State) (n : NodeState) : (s.enterState n).tick = s.tick := by simp [State.enterState]
@[simp] theorem State.enterState_link (s : State) (n : NodeState) : (s.enterState n).link = s.link := by simp [State.enterState]
@[simp] theorem State.enterState_view (s : State) (n : NodeState) : (s.enterState n).view = s.view := by simp [State.enterState]
@[simp] theorem State.enterState_att (s : State) (n : NodeState) : (s.enterState n).att = s.att := by simp [State.enterState]
@[simp] theorem State.enterState_svc (s : State) (n : NodeState) : (s.enterState n).svc = s.svc := by simp [State.enterState]
@[simp] theorem State.enterState_camera (s : State) (n : NodeState) : (s.enterState n).camera = s.camera := by simp [State.enterState]
@[simp] theorem State.enterState_free (s : State) (n : NodeState) : (s.enterState n).free = s.free := by simp [State.enterState]

/-! ### State.enterMute -/

@[simp] theorem State.enterMute_pending (s : State) : s.enterMute.pending = s.pending := by
  unfold State.enterMute; split_ifs <;> simp
@[simp] theorem State.enterMute_pins (s : State) : s.enterMute.pins = s.pins := by
  unfold State.enterMute; split_ifs <;> simp
@[simp] theorem State.enterMute_tick (s : State) : s.enterMute.tick = s.tick := by
  unfold State.enterMute; split_ifs <;> simp
@[simp] theorem State.enterMute_link (s : State) : s.enterMute.link = s.link := by
  unfold State.enterMute; split_ifs <;> simp
@[simp] theorem State.enterMute_view (s : State) : s.enterMute.view = s.view := by
  unfold State.enterMute; split_ifs <;> simp
@[simp] theorem State.enterMute_att (s : State) : s.enterMute.att = s.att := by
  unfold State.enterMute; split_ifs <;> simp
@[simp] theorem State.enterMute_svc (s : State) : s.enterMute.svc = s.svc := by
  unfold State.enterMute; split_ifs <;> simp
@[simp] theorem State.enterMute_camera (s : State) : s.enterMute.camera = s.camera := by
  unfold State.enterMute; split_ifs <;> simp
@[simp] theorem State.enterMute_free (s : State) : s.enterMute.free = s.free := by
  unfold State.enterMute; split_ifs <;> simp

/-! ### State.enterStandby -/

@[simp] theorem State.enterStandby_pending (s : State) : s.enterStandby.pending = s.pending := by
  unfold State.enterStandby; dsimp only; split_ifs <;> simp
@[simp] theorem State.enterStandby_pins (s : State) : s.enterStandby.pins = s.pins := by
  unfold State.enterStandby; dsimp only; split_ifs <;> simp
@[simp] theorem State.enterStandby_tick (s : State) : s.enterStandby.tick = s.tick := by
  unfold State.enterStandby; dsimp only; split_ifs <;> simp
@[simp] theorem State.enterStandby_view (s : State) : s.enterStandby.view = s.view := by
  unfold State.enterStandby; dsimp only; split_ifs <;> simp
@[simp] theorem State.enterStandby_svc (s : State) : s.enterStandby.svc = s.svc := by
  unfold State.enterStandby; dsimp only; split_ifs <;> simp
@[simp] theorem State.enterStandby_camera (s : State) : s.enterStandby.camera = s.camera := by
  unfold State.enterStandby; dsimp only; split_ifs <;> simp
@[simp] theorem State.enterStandby_free (s : State) : s.enterStandby.free = s.free := by
  unfold State.enterStandby; dsimp only; split_ifs <;> simp

/-- What of the link an entry to STANDBY keeps: all but the picture copies of the parcel in reception (R30). -/
theorem State.enterStandby_link (s : State) :
    s.enterStandby.link = { s.link with stage := if s.entryDue .standby then s.link.stage.dropCopies else s.link.stage } := by
  unfold State.enterStandby; dsimp only; split_ifs <;> simp

/-! ### State.takeEntry, State.askEntry -/

@[simp] theorem State.takeEntry_pending (s : State) : (s.takeEntry).pending = s.pending := by
  simp [State.takeEntry]
@[simp] theorem State.takeEntry_pins (s : State) : (s.takeEntry).pins = s.pins := by
  simp [State.takeEntry]
@[simp] theorem State.takeEntry_tick (s : State) : (s.takeEntry).tick = s.tick := by
  simp [State.takeEntry]
@[simp] theorem State.takeEntry_view (s : State) : (s.takeEntry).view = s.view := by
  simp [State.takeEntry]
@[simp] theorem State.takeEntry_svc (s : State) : (s.takeEntry).svc = s.svc := by
  simp [State.takeEntry]
@[simp] theorem State.takeEntry_camera (s : State) : (s.takeEntry).camera = s.camera := by
  simp [State.takeEntry]
@[simp] theorem State.takeEntry_free (s : State) : (s.takeEntry).free = s.free := by
  simp [State.takeEntry]

/-- What of the link the taking of an entry keeps. -/
theorem State.takeEntry_link (s : State) :
    s.takeEntry.link = { s.link with
      stage := if s.enterMute.entryDue .standby then s.link.stage.dropCopies else s.link.stage } := by
  rw [State.takeEntry, State.enterStandby_link]; simp

/-- Outside a parcel in reception the taking of an entry leaves the link. -/
theorem State.takeEntry_link_outside (s : State) (h : s.link.stage = .outside) : s.takeEntry.link = s.link := by
  rw [State.takeEntry_link, h]
  cases hl : s.link; rw [hl] at h; simp_all [Stage.dropCopies]

/-- Where no entry is due, none is taken. -/
theorem State.takeEntry_none (s : State) (h : ∀ e, s.entryDue e = false) : s.takeEntry = s := by
  simp [State.takeEntry, State.enterMute, State.enterStandby, h]

@[simp] theorem State.askEntry_pending (s : State) (e : Entry) : (s.askEntry e).pending = s.pending := by
  simp [State.askEntry]
@[simp] theorem State.askEntry_pins (s : State) (e : Entry) : (s.askEntry e).pins = s.pins := by
  simp [State.askEntry]
@[simp] theorem State.askEntry_tick (s : State) (e : Entry) : (s.askEntry e).tick = s.tick := by
  simp [State.askEntry]
@[simp] theorem State.askEntry_view (s : State) (e : Entry) : (s.askEntry e).view = s.view := by
  simp [State.askEntry]
@[simp] theorem State.askEntry_svc (s : State) (e : Entry) : (s.askEntry e).svc = s.svc := by
  simp [State.askEntry]
@[simp] theorem State.askEntry_camera (s : State) (e : Entry) : (s.askEntry e).camera = s.camera := by
  simp [State.askEntry]
@[simp] theorem State.askEntry_free (s : State) (e : Entry) : (s.askEntry e).free = s.free := by
  simp [State.askEntry]

/-! ### State.conflictFound -/

@[simp] theorem State.conflictFound_pending (s : State) : (s.conflictFound).pending = s.pending := by
  unfold State.conflictFound; split <;> simp
@[simp] theorem State.conflictFound_pins (s : State) : (s.conflictFound).pins = s.pins := by
  unfold State.conflictFound; split <;> simp
@[simp] theorem State.conflictFound_tick (s : State) : (s.conflictFound).tick = s.tick := by
  unfold State.conflictFound; split <;> simp
@[simp] theorem State.conflictFound_svc (s : State) : (s.conflictFound).svc = s.svc := by
  unfold State.conflictFound; split <;> simp
@[simp] theorem State.conflictFound_camera (s : State) : (s.conflictFound).camera = s.camera := by
  unfold State.conflictFound; split <;> simp
@[simp] theorem State.conflictFound_free (s : State) : (s.conflictFound).free = s.free := by
  unfold State.conflictFound; split <;> simp

/-! ### State.conflict -/

@[simp] theorem State.conflict_pending (s : State) : (s.conflict).pending = s.pending := by
  simp [State.conflict]
@[simp] theorem State.conflict_pins (s : State) : (s.conflict).pins = s.pins := by
  simp [State.conflict]
@[simp] theorem State.conflict_tick (s : State) : (s.conflict).tick = s.tick := by
  simp [State.conflict]
@[simp] theorem State.conflict_svc (s : State) : (s.conflict).svc = s.svc := by
  simp [State.conflict]
@[simp] theorem State.conflict_camera (s : State) : (s.conflict).camera = s.camera := by
  simp [State.conflict]
@[simp] theorem State.conflict_free (s : State) : (s.conflict).free = s.free := by
  simp [State.conflict]

/-! ### State.strippedCensus -/

@[simp] theorem State.strippedCensus_pending (s : State) (ws : List Word) : (s.strippedCensus ws).pending = s.pending := by
  unfold State.strippedCensus; dsimp only; split_ifs <;> simp
@[simp] theorem State.strippedCensus_pins (s : State) (ws : List Word) : (s.strippedCensus ws).pins = s.pins := by
  unfold State.strippedCensus; dsimp only; split_ifs <;> simp
@[simp] theorem State.strippedCensus_tick (s : State) (ws : List Word) : (s.strippedCensus ws).tick = s.tick := by
  unfold State.strippedCensus; dsimp only; split_ifs <;> simp
@[simp] theorem State.strippedCensus_svc (s : State) (ws : List Word) : (s.strippedCensus ws).svc = s.svc := by
  unfold State.strippedCensus; dsimp only; split_ifs <;> simp
@[simp] theorem State.strippedCensus_camera (s : State) (ws : List Word) : (s.strippedCensus ws).camera = s.camera := by
  unfold State.strippedCensus; dsimp only; split_ifs <;> simp
@[simp] theorem State.strippedCensus_free (s : State) (ws : List Word) : (s.strippedCensus ws).free = s.free := by
  unfold State.strippedCensus; dsimp only; split_ifs <;> simp

/-- A conflict report outside a parcel in reception leaves the link. -/
theorem State.conflict_link (s : State) (h : s.link.stage = .outside) : s.conflict.link = s.link := by
  have h1 := s.takeEntry_link_outside h
  unfold State.conflict State.conflictFound; split <;> try exact h1
  all_goals simp only [State.askEntry]; rw [State.takeEntry_link_outside] <;> simp [h1, h]

/-- A stripped census is judged after its parcel, so the link stays. -/
theorem State.strippedCensus_link (s : State) (ws : List Word) (h : s.link.stage = .outside) :
    (s.strippedCensus ws).link = s.link := by
  unfold State.strippedCensus; dsimp only; split_ifs <;> simp [State.conflict_link _ h]

/-! ### State.strippedCensusFallback -/

@[simp] theorem State.strippedCensusFallback_pending (s : State) (ws : List Word) : (s.strippedCensusFallback ws).pending = s.pending := by
  unfold State.strippedCensusFallback; split_ifs <;> simp
@[simp] theorem State.strippedCensusFallback_pins (s : State) (ws : List Word) : (s.strippedCensusFallback ws).pins = s.pins := by
  unfold State.strippedCensusFallback; split_ifs <;> simp
@[simp] theorem State.strippedCensusFallback_node (s : State) (ws : List Word) : (s.strippedCensusFallback ws).node = s.node := by
  unfold State.strippedCensusFallback; split_ifs <;> simp
@[simp] theorem State.strippedCensusFallback_tick (s : State) (ws : List Word) : (s.strippedCensusFallback ws).tick = s.tick := by
  unfold State.strippedCensusFallback; split_ifs <;> simp
@[simp] theorem State.strippedCensusFallback_link (s : State) (ws : List Word) : (s.strippedCensusFallback ws).link = s.link := by
  unfold State.strippedCensusFallback; split_ifs <;> simp
@[simp] theorem State.strippedCensusFallback_sched (s : State) (ws : List Word) : (s.strippedCensusFallback ws).sched = s.sched := by
  unfold State.strippedCensusFallback; split_ifs <;> simp
@[simp] theorem State.strippedCensusFallback_store (s : State) (ws : List Word) : (s.strippedCensusFallback ws).store = s.store := by
  unfold State.strippedCensusFallback; split_ifs <;> simp
@[simp] theorem State.strippedCensusFallback_portA (s : State) (ws : List Word) : (s.strippedCensusFallback ws).portA = s.portA := by
  unfold State.strippedCensusFallback; split_ifs <;> simp
@[simp] theorem State.strippedCensusFallback_portB (s : State) (ws : List Word) : (s.strippedCensusFallback ws).portB = s.portB := by
  unfold State.strippedCensusFallback; split_ifs <;> simp
@[simp] theorem State.strippedCensusFallback_svc (s : State) (ws : List Word) : (s.strippedCensusFallback ws).svc = s.svc := by
  unfold State.strippedCensusFallback; split_ifs <;> simp
@[simp] theorem State.strippedCensusFallback_camera (s : State) (ws : List Word) : (s.strippedCensusFallback ws).camera = s.camera := by
  unfold State.strippedCensusFallback; split_ifs <;> simp
@[simp] theorem State.strippedCensusFallback_free (s : State) (ws : List Word) : (s.strippedCensusFallback ws).free = s.free := by
  unfold State.strippedCensusFallback; split_ifs <;> simp

/-! ### State.wakeNode -/

@[simp] theorem State.wakeNode_pending (s : State) : s.wakeNode.pending = s.pending := by
  unfold State.wakeNode; dsimp only; split_ifs <;> simp
@[simp] theorem State.wakeNode_pins (s : State) : s.wakeNode.pins = s.pins := by
  unfold State.wakeNode; dsimp only; split_ifs <;> simp
@[simp] theorem State.wakeNode_tick (s : State) : s.wakeNode.tick = s.tick := by
  unfold State.wakeNode; dsimp only; split_ifs <;> simp
@[simp] theorem State.wakeNode_link (s : State) : s.wakeNode.link = s.link := by
  unfold State.wakeNode; dsimp only; split_ifs <;> simp
@[simp] theorem State.wakeNode_svc (s : State) : s.wakeNode.svc = s.svc := by
  unfold State.wakeNode; dsimp only; split_ifs <;> simp
@[simp] theorem State.wakeNode_camera (s : State) : s.wakeNode.camera = s.camera := by
  unfold State.wakeNode; dsimp only; split_ifs <;> simp
@[simp] theorem State.wakeNode_free (s : State) : s.wakeNode.free = s.free := by
  unfold State.wakeNode; dsimp only; split_ifs <;> simp

/-! ### State.dropStandby -/

@[simp] theorem State.dropStandby_pending (s : State) : s.dropStandby.pending = s.pending := by
  unfold State.dropStandby; split_ifs <;> rfl
@[simp] theorem State.dropStandby_pins (s : State) : s.dropStandby.pins = s.pins := by
  unfold State.dropStandby; split_ifs <;> rfl
@[simp] theorem State.dropStandby_tick (s : State) : s.dropStandby.tick = s.tick := by
  unfold State.dropStandby; split_ifs <;> rfl
@[simp] theorem State.dropStandby_link (s : State) : s.dropStandby.link = s.link := by
  unfold State.dropStandby; split_ifs <;> rfl
@[simp] theorem State.dropStandby_sched (s : State) : s.dropStandby.sched = s.sched := by
  unfold State.dropStandby; split_ifs <;> rfl
@[simp] theorem State.dropStandby_view (s : State) : s.dropStandby.view = s.view := by
  unfold State.dropStandby; split_ifs <;> rfl
@[simp] theorem State.dropStandby_store (s : State) : s.dropStandby.store = s.store := by
  unfold State.dropStandby; split_ifs <;> rfl
@[simp] theorem State.dropStandby_portA (s : State) : s.dropStandby.portA = s.portA := by
  unfold State.dropStandby; split_ifs <;> rfl
@[simp] theorem State.dropStandby_portB (s : State) : s.dropStandby.portB = s.portB := by
  unfold State.dropStandby; split_ifs <;> rfl
@[simp] theorem State.dropStandby_att (s : State) : s.dropStandby.att = s.att := by
  unfold State.dropStandby; split_ifs <;> rfl
@[simp] theorem State.dropStandby_svc (s : State) : s.dropStandby.svc = s.svc := by
  unfold State.dropStandby; split_ifs <;> rfl
@[simp] theorem State.dropStandby_camera (s : State) : s.dropStandby.camera = s.camera := by
  unfold State.dropStandby; split_ifs <;> rfl
@[simp] theorem State.dropStandby_free (s : State) : s.dropStandby.free = s.free := by
  unfold State.dropStandby; split_ifs <;> rfl

/-! ### State.engage -/

@[simp] theorem State.engage_pending (s : State) : s.engage.pending = s.pending := by
  unfold State.engage; dsimp only; split_ifs <;> simp
@[simp] theorem State.engage_pins (s : State) : s.engage.pins = s.pins := by
  unfold State.engage; dsimp only; split_ifs <;> simp
@[simp] theorem State.engage_tick (s : State) : s.engage.tick = s.tick := by
  unfold State.engage; dsimp only; split_ifs <;> simp
@[simp] theorem State.engage_svc (s : State) : s.engage.svc = s.svc := by
  unfold State.engage; dsimp only; split_ifs <;> simp
@[simp] theorem State.engage_camera (s : State) : s.engage.camera = s.camera := by
  unfold State.engage; dsimp only; split_ifs <;> simp
@[simp] theorem State.engage_free (s : State) : s.engage.free = s.free := by
  unfold State.engage; dsimp only; split_ifs <;> simp

/-- An engage outside a parcel in reception leaves the link. -/
theorem State.engage_link (s : State) (h : s.link.stage = .outside) : s.engage.link = s.link := by
  unfold State.engage; dsimp only; split_ifs <;> simp [State.takeEntry_link_outside _ h]

/-- An engage that finds no entry due leaves the link. -/
theorem State.engage_link_none (s : State) (h : ∀ e, s.entryDue e = false) : s.engage.link = s.link := by
  unfold State.engage; dsimp only; split_ifs <;> simp [State.takeEntry_none _ h]

/-! ### State.release -/

@[simp] theorem State.release_pending (s : State) : s.release.pending = s.pending := by
  unfold State.release; split_ifs <;> simp
@[simp] theorem State.release_pins (s : State) : s.release.pins = s.pins := by
  unfold State.release; split_ifs <;> simp
@[simp] theorem State.release_node (s : State) : s.release.node = s.node := by
  unfold State.release; split_ifs <;> simp
@[simp] theorem State.release_tick (s : State) : s.release.tick = s.tick := by
  unfold State.release; split_ifs <;> simp
@[simp] theorem State.release_link (s : State) : s.release.link = s.link := by
  unfold State.release; split_ifs <;> simp
@[simp] theorem State.release_svc (s : State) : s.release.svc = s.svc := by
  unfold State.release; split_ifs <;> simp
@[simp] theorem State.release_camera (s : State) : s.release.camera = s.camera := by
  unfold State.release; split_ifs <;> simp
@[simp] theorem State.release_free (s : State) : s.release.free = s.free := by
  unfold State.release; split_ifs <;> simp

/-! ### State.setSources -/

@[simp] theorem State.setSources_pending (s : State) (c : CameraControl) : (s.setSources c).pending = s.pending := by
  unfold State.setSources; dsimp only; split_ifs <;> simp
@[simp] theorem State.setSources_pins (s : State) (c : CameraControl) : (s.setSources c).pins = s.pins := by
  unfold State.setSources; dsimp only; split_ifs <;> simp
@[simp] theorem State.setSources_tick (s : State) (c : CameraControl) : (s.setSources c).tick = s.tick := by
  unfold State.setSources; dsimp only; split_ifs <;> simp
@[simp] theorem State.setSources_svc (s : State) (c : CameraControl) : (s.setSources c).svc = s.svc := by
  unfold State.setSources; dsimp only; split_ifs <;> simp
@[simp] theorem State.setSources_free (s : State) (c : CameraControl) : (s.setSources c).free = s.free := by
  unfold State.setSources; dsimp only; split_ifs <;> simp

/-- New sources outside a parcel in reception leave the link. -/
theorem State.setSources_link (s : State) (c : CameraControl) (h : s.link.stage = .outside) :
    (s.setSources c).link = s.link := by
  unfold State.setSources; dsimp only; split_ifs <;> simp [State.engage_link { s with camera := c } h]

/-- New sources where no entry is due leave the link. -/
theorem State.setSources_link_none (s : State) (c : CameraControl) (h : ∀ e, s.entryDue e = false) :
    (s.setSources c).link = s.link := by
  unfold State.setSources; dsimp only; split_ifs <;> simp [State.engage_link_none { s with camera := c } h]

/-! ### State.setRingLatch -/

@[simp] theorem State.setRingLatch_pending (s : State) (b : Bool) : (s.setRingLatch b).pending = s.pending := by simp [State.setRingLatch]
@[simp] theorem State.setRingLatch_pins (s : State) (b : Bool) : (s.setRingLatch b).pins = s.pins := by simp [State.setRingLatch]
@[simp] theorem State.setRingLatch_tick (s : State) (b : Bool) : (s.setRingLatch b).tick = s.tick := by simp [State.setRingLatch]
@[simp] theorem State.setRingLatch_svc (s : State) (b : Bool) : (s.setRingLatch b).svc = s.svc := by simp [State.setRingLatch]
@[simp] theorem State.setRingLatch_free (s : State) (b : Bool) : (s.setRingLatch b).free = s.free := by simp [State.setRingLatch]

/-! ### State.setLocalLatch -/

@[simp] theorem State.setLocalLatch_pending (s : State) (b : Bool) : (s.setLocalLatch b).pending = s.pending := by simp [State.setLocalLatch]
@[simp] theorem State.setLocalLatch_pins (s : State) (b : Bool) : (s.setLocalLatch b).pins = s.pins := by simp [State.setLocalLatch]
@[simp] theorem State.setLocalLatch_tick (s : State) (b : Bool) : (s.setLocalLatch b).tick = s.tick := by simp [State.setLocalLatch]
@[simp] theorem State.setLocalLatch_svc (s : State) (b : Bool) : (s.setLocalLatch b).svc = s.svc := by simp [State.setLocalLatch]
@[simp] theorem State.setLocalLatch_free (s : State) (b : Bool) : (s.setLocalLatch b).free = s.free := by simp [State.setLocalLatch]

/-! ### State.reverseDebounced -/

@[simp] theorem State.reverseDebounced_pending (s : State) : s.reverseDebounced.pending = s.pending := by
  unfold State.reverseDebounced; split_ifs <;> simp
@[simp] theorem State.reverseDebounced_pins (s : State) : s.reverseDebounced.pins = s.pins := by
  unfold State.reverseDebounced; split_ifs <;> simp
@[simp] theorem State.reverseDebounced_tick (s : State) : s.reverseDebounced.tick = s.tick := by
  unfold State.reverseDebounced; split_ifs <;> simp
@[simp] theorem State.reverseDebounced_svc (s : State) : s.reverseDebounced.svc = s.svc := by
  unfold State.reverseDebounced; split_ifs <;> simp
@[simp] theorem State.reverseDebounced_free (s : State) : s.reverseDebounced.free = s.free := by
  unfold State.reverseDebounced; split_ifs <;> simp

/-! ### State.wakePin -/

@[simp] theorem State.wakePin_pending (s : State) : s.wakePin.pending = s.pending := by
  unfold State.wakePin; split_ifs <;> simp
@[simp] theorem State.wakePin_pins (s : State) : s.wakePin.pins = s.pins := by
  unfold State.wakePin; split_ifs <;> simp
@[simp] theorem State.wakePin_tick (s : State) : s.wakePin.tick = s.tick := by
  unfold State.wakePin; split_ifs <;> simp
@[simp] theorem State.wakePin_link (s : State) : s.wakePin.link = s.link := by
  unfold State.wakePin; split_ifs <;> simp
@[simp] theorem State.wakePin_svc (s : State) : s.wakePin.svc = s.svc := by
  unfold State.wakePin; split_ifs <;> simp
@[simp] theorem State.wakePin_camera (s : State) : s.wakePin.camera = s.camera := by
  unfold State.wakePin; split_ifs <;> simp
@[simp] theorem State.wakePin_free (s : State) : s.wakePin.free = s.free := by
  unfold State.wakePin; split_ifs <;> simp

/-! ### State.setStarved -/

@[simp] theorem State.setStarved_pending (s : State) : s.setStarved.pending = s.pending := by
  unfold State.setStarved; split_ifs <;> rfl
@[simp] theorem State.setStarved_pins (s : State) : s.setStarved.pins = s.pins := by
  unfold State.setStarved; split_ifs <;> rfl
@[simp] theorem State.setStarved_node (s : State) : s.setStarved.node = s.node := by
  unfold State.setStarved; split_ifs <;> rfl
@[simp] theorem State.setStarved_tick (s : State) : s.setStarved.tick = s.tick := by
  unfold State.setStarved; split_ifs <;> rfl
@[simp] theorem State.setStarved_link (s : State) : s.setStarved.link = s.link := by
  unfold State.setStarved; split_ifs <;> rfl
@[simp] theorem State.setStarved_view (s : State) : s.setStarved.view = s.view := by
  unfold State.setStarved; split_ifs <;> rfl
@[simp] theorem State.setStarved_store (s : State) : s.setStarved.store = s.store := by
  unfold State.setStarved; split_ifs <;> rfl
@[simp] theorem State.setStarved_portA (s : State) : s.setStarved.portA = s.portA := by
  unfold State.setStarved; split_ifs <;> rfl
@[simp] theorem State.setStarved_portB (s : State) : s.setStarved.portB = s.portB := by
  unfold State.setStarved; split_ifs <;> rfl
@[simp] theorem State.setStarved_svc (s : State) : s.setStarved.svc = s.svc := by
  unfold State.setStarved; split_ifs <;> rfl
@[simp] theorem State.setStarved_camera (s : State) : s.setStarved.camera = s.camera := by
  unfold State.setStarved; split_ifs <;> rfl
@[simp] theorem State.setStarved_free (s : State) : s.setStarved.free = s.free := by
  unfold State.setStarved; split_ifs <;> rfl

/-! ### State.clearYield -/

@[simp] theorem State.clearYield_pending (s : State) : s.clearYield.pending = s.pending := by
  unfold State.clearYield; split_ifs <;> rfl
@[simp] theorem State.clearYield_pins (s : State) : s.clearYield.pins = s.pins := by
  unfold State.clearYield; split_ifs <;> rfl
@[simp] theorem State.clearYield_node (s : State) : s.clearYield.node = s.node := by
  unfold State.clearYield; split_ifs <;> rfl
@[simp] theorem State.clearYield_tick (s : State) : s.clearYield.tick = s.tick := by
  unfold State.clearYield; split_ifs <;> rfl
@[simp] theorem State.clearYield_link (s : State) : s.clearYield.link = s.link := by
  unfold State.clearYield; split_ifs <;> rfl
@[simp] theorem State.clearYield_view (s : State) : s.clearYield.view = s.view := by
  unfold State.clearYield; split_ifs <;> rfl
@[simp] theorem State.clearYield_store (s : State) : s.clearYield.store = s.store := by
  unfold State.clearYield; split_ifs <;> rfl
@[simp] theorem State.clearYield_portA (s : State) : s.clearYield.portA = s.portA := by
  unfold State.clearYield; split_ifs <;> rfl
@[simp] theorem State.clearYield_portB (s : State) : s.clearYield.portB = s.portB := by
  unfold State.clearYield; split_ifs <;> rfl
@[simp] theorem State.clearYield_att (s : State) : s.clearYield.att = s.att := by
  unfold State.clearYield; split_ifs <;> rfl
@[simp] theorem State.clearYield_svc (s : State) : s.clearYield.svc = s.svc := by
  unfold State.clearYield; split_ifs <;> rfl
@[simp] theorem State.clearYield_camera (s : State) : s.clearYield.camera = s.camera := by
  unfold State.clearYield; split_ifs <;> rfl
@[simp] theorem State.clearYield_free (s : State) : s.clearYield.free = s.free := by
  unfold State.clearYield; split_ifs <;> rfl

/-! ### State.returnReport -/

@[simp] theorem State.returnReport_pending (s : State) (ws : List Word) (g : Bool) (b : Byte) : (s.returnReport ws g b).pending = s.pending := by
  unfold State.returnReport; split <;> try rfl
  split <;> simp
@[simp] theorem State.returnReport_pins (s : State) (ws : List Word) (g : Bool) (b : Byte) : (s.returnReport ws g b).pins = s.pins := by
  unfold State.returnReport; split <;> try rfl
  split <;> simp
@[simp] theorem State.returnReport_node (s : State) (ws : List Word) (g : Bool) (b : Byte) : (s.returnReport ws g b).node = s.node := by
  unfold State.returnReport; split <;> try rfl
  split <;> simp
@[simp] theorem State.returnReport_tick (s : State) (ws : List Word) (g : Bool) (b : Byte) : (s.returnReport ws g b).tick = s.tick := by
  unfold State.returnReport; split <;> try rfl
  split <;> simp
@[simp] theorem State.returnReport_link (s : State) (ws : List Word) (g : Bool) (b : Byte) : (s.returnReport ws g b).link = s.link := by
  unfold State.returnReport; split <;> try rfl
  split <;> simp
@[simp] theorem State.returnReport_sched (s : State) (ws : List Word) (g : Bool) (b : Byte) : (s.returnReport ws g b).sched = s.sched := by
  unfold State.returnReport; split <;> try rfl
  split <;> simp
@[simp] theorem State.returnReport_view (s : State) (ws : List Word) (g : Bool) (b : Byte) : (s.returnReport ws g b).view = s.view := by
  unfold State.returnReport; split <;> try rfl
  split <;> simp
@[simp] theorem State.returnReport_store (s : State) (ws : List Word) (g : Bool) (b : Byte) : (s.returnReport ws g b).store = s.store := by
  unfold State.returnReport; split <;> try rfl
  split <;> simp
@[simp] theorem State.returnReport_portA (s : State) (ws : List Word) (g : Bool) (b : Byte) : (s.returnReport ws g b).portA = s.portA := by
  unfold State.returnReport; split <;> try rfl
  split <;> simp
@[simp] theorem State.returnReport_portB (s : State) (ws : List Word) (g : Bool) (b : Byte) : (s.returnReport ws g b).portB = s.portB := by
  unfold State.returnReport; split <;> try rfl
  split <;> simp
@[simp] theorem State.returnReport_camera (s : State) (ws : List Word) (g : Bool) (b : Byte) : (s.returnReport ws g b).camera = s.camera := by
  unfold State.returnReport; split <;> try rfl
  split <;> simp
@[simp] theorem State.returnReport_free (s : State) (ws : List Word) (g : Bool) (b : Byte) : (s.returnReport ws g b).free = s.free := by
  unfold State.returnReport; split <;> try rfl
  split <;> simp

/-! ### State.messageTimeout -/

@[simp] theorem State.messageTimeout_pending (s : State) (t : Byte) : (s.messageTimeout t).pending = s.pending := by
  unfold State.messageTimeout; split <;> try rfl
  split_ifs <;> simp
@[simp] theorem State.messageTimeout_pins (s : State) (t : Byte) : (s.messageTimeout t).pins = s.pins := by
  unfold State.messageTimeout; split <;> try rfl
  split_ifs <;> simp
@[simp] theorem State.messageTimeout_node (s : State) (t : Byte) : (s.messageTimeout t).node = s.node := by
  unfold State.messageTimeout; split <;> try rfl
  split_ifs <;> simp
@[simp] theorem State.messageTimeout_tick (s : State) (t : Byte) : (s.messageTimeout t).tick = s.tick := by
  unfold State.messageTimeout; split <;> try rfl
  split_ifs <;> simp
@[simp] theorem State.messageTimeout_link (s : State) (t : Byte) : (s.messageTimeout t).link = s.link := by
  unfold State.messageTimeout; split <;> try rfl
  split_ifs <;> simp
@[simp] theorem State.messageTimeout_sched (s : State) (t : Byte) : (s.messageTimeout t).sched = s.sched := by
  unfold State.messageTimeout; split <;> try rfl
  split_ifs <;> simp
@[simp] theorem State.messageTimeout_view (s : State) (t : Byte) : (s.messageTimeout t).view = s.view := by
  unfold State.messageTimeout; split <;> try rfl
  split_ifs <;> simp
@[simp] theorem State.messageTimeout_store (s : State) (t : Byte) : (s.messageTimeout t).store = s.store := by
  unfold State.messageTimeout; split <;> try rfl
  split_ifs <;> simp
@[simp] theorem State.messageTimeout_portA (s : State) (t : Byte) : (s.messageTimeout t).portA = s.portA := by
  unfold State.messageTimeout; split <;> try rfl
  split_ifs <;> simp
@[simp] theorem State.messageTimeout_portB (s : State) (t : Byte) : (s.messageTimeout t).portB = s.portB := by
  unfold State.messageTimeout; split <;> try rfl
  split_ifs <;> simp
@[simp] theorem State.messageTimeout_camera (s : State) (t : Byte) : (s.messageTimeout t).camera = s.camera := by
  unfold State.messageTimeout; split <;> try rfl
  split_ifs <;> simp

/-! ### State.messageAction -/

@[simp] theorem State.messageAction_pending (s : State) (k : Option MessageKind) : (s.messageAction k).pending = s.pending := by
  unfold State.messageAction; split <;> simp
@[simp] theorem State.messageAction_pins (s : State) (k : Option MessageKind) : (s.messageAction k).pins = s.pins := by
  unfold State.messageAction; split <;> simp
@[simp] theorem State.messageAction_tick (s : State) (k : Option MessageKind) : (s.messageAction k).tick = s.tick := by
  unfold State.messageAction; split <;> simp
/-- A message acts after its parcel, so the link stays. -/
theorem State.messageAction_link (s : State) (k : Option MessageKind) (h : s.link.stage = .outside) :
    (s.messageAction k).link = s.link := by
  unfold State.messageAction; split <;> simp [State.setRingLatch, State.setSources_link _ _ h]
@[simp] theorem State.messageAction_svc (s : State) (k : Option MessageKind) : (s.messageAction k).svc = s.svc := by
  unfold State.messageAction; split <;> simp
@[simp] theorem State.messageAction_free (s : State) (k : Option MessageKind) : (s.messageAction k).free = s.free := by
  unfold State.messageAction; split <;> simp

/-! ### State.messageEnd -/

@[simp] theorem State.messageEnd_pending (s : State) (ws : List Word) (a : Bool) (r : Bool) (g : Bool) : (s.messageEnd ws a r g).pending = s.pending := by
  unfold State.messageEnd; dsimp only; split_ifs <;> simp
@[simp] theorem State.messageEnd_pins (s : State) (ws : List Word) (a : Bool) (r : Bool) (g : Bool) : (s.messageEnd ws a r g).pins = s.pins := by
  unfold State.messageEnd; dsimp only; split_ifs <;> simp
@[simp] theorem State.messageEnd_tick (s : State) (ws : List Word) (a : Bool) (r : Bool) (g : Bool) : (s.messageEnd ws a r g).tick = s.tick := by
  unfold State.messageEnd; dsimp only; split_ifs <;> simp
/-- The end of a message comes after its parcel, so the link stays. -/
theorem State.messageEnd_link (s : State) (ws : List Word) (a r g : Bool) (h : s.link.stage = .outside) :
    (s.messageEnd ws a r g).link = s.link := by
  have h1 : (s.completeEntry (ws.drop 2)).link.stage = .outside := by simp [h]
  unfold State.messageEnd; dsimp only
  split_ifs <;> simp [State.messageAction_link _ _ h, State.messageAction_link _ _ h1]
@[simp] theorem State.messageEnd_free (s : State) (ws : List Word) (a : Bool) (r : Bool) (g : Bool) : (s.messageEnd ws a r g).free = s.free := by
  unfold State.messageEnd; dsimp only; split_ifs <;> simp

/-! ### State.offerTo -/

@[simp] theorem State.offerTo_pending (s : State) (h : Header) (x : RingFormat) (k : SinkId) : (s.offerTo h x k).pending = s.pending := by simp [State.offerTo]
@[simp] theorem State.offerTo_pins (s : State) (h : Header) (x : RingFormat) (k : SinkId) : (s.offerTo h x k).pins = s.pins := by simp [State.offerTo]
@[simp] theorem State.offerTo_node (s : State) (h : Header) (x : RingFormat) (k : SinkId) : (s.offerTo h x k).node = s.node := by simp [State.offerTo]
@[simp] theorem State.offerTo_tick (s : State) (h : Header) (x : RingFormat) (k : SinkId) : (s.offerTo h x k).tick = s.tick := by simp [State.offerTo]
@[simp] theorem State.offerTo_link (s : State) (h : Header) (x : RingFormat) (k : SinkId) : (s.offerTo h x k).link = s.link := by simp [State.offerTo]
@[simp] theorem State.offerTo_sched (s : State) (h : Header) (x : RingFormat) (k : SinkId) : (s.offerTo h x k).sched = s.sched := by simp [State.offerTo]
@[simp] theorem State.offerTo_view (s : State) (h : Header) (x : RingFormat) (k : SinkId) : (s.offerTo h x k).view = s.view := by simp [State.offerTo]
@[simp] theorem State.offerTo_store (s : State) (h : Header) (x : RingFormat) (k : SinkId) : (s.offerTo h x k).store = s.store := by simp [State.offerTo]
@[simp] theorem State.offerTo_svc (s : State) (h : Header) (x : RingFormat) (k : SinkId) : (s.offerTo h x k).svc = s.svc := by simp [State.offerTo]
@[simp] theorem State.offerTo_camera (s : State) (h : Header) (x : RingFormat) (k : SinkId) : (s.offerTo h x k).camera = s.camera := by simp [State.offerTo]
@[simp] theorem State.offerTo_free (s : State) (h : Header) (x : RingFormat) (k : SinkId) : (s.offerTo h x k).free = s.free := by simp [State.offerTo]

/-! ### State.offerLine -/

@[simp] theorem State.offerLine_pending (s : State) (h : Header) : (s.offerLine h).pending = s.pending := by
  exact foldl_frame (fun s : State => s.pending) _ (by intros; simp [State.offerTo]) _ _
@[simp] theorem State.offerLine_pins (s : State) (h : Header) : (s.offerLine h).pins = s.pins := by
  exact foldl_frame (fun s : State => s.pins) _ (by intros; simp [State.offerTo]) _ _
@[simp] theorem State.offerLine_node (s : State) (h : Header) : (s.offerLine h).node = s.node := by
  exact foldl_frame (fun s : State => s.node) _ (by intros; simp [State.offerTo]) _ _
@[simp] theorem State.offerLine_tick (s : State) (h : Header) : (s.offerLine h).tick = s.tick := by
  exact foldl_frame (fun s : State => s.tick) _ (by intros; simp [State.offerTo]) _ _
@[simp] theorem State.offerLine_link (s : State) (h : Header) : (s.offerLine h).link = s.link := by
  exact foldl_frame (fun s : State => s.link) _ (by intros; simp [State.offerTo]) _ _
@[simp] theorem State.offerLine_sched (s : State) (h : Header) : (s.offerLine h).sched = s.sched := by
  exact foldl_frame (fun s : State => s.sched) _ (by intros; simp [State.offerTo]) _ _
@[simp] theorem State.offerLine_view (s : State) (h : Header) : (s.offerLine h).view = s.view := by
  exact foldl_frame (fun s : State => s.view) _ (by intros; simp [State.offerTo]) _ _
@[simp] theorem State.offerLine_store (s : State) (h : Header) : (s.offerLine h).store = s.store := by
  exact foldl_frame (fun s : State => s.store) _ (by intros; simp [State.offerTo]) _ _
@[simp] theorem State.offerLine_svc (s : State) (h : Header) : (s.offerLine h).svc = s.svc := by
  exact foldl_frame (fun s : State => s.svc) _ (by intros; simp [State.offerTo]) _ _
@[simp] theorem State.offerLine_camera (s : State) (h : Header) : (s.offerLine h).camera = s.camera := by
  exact foldl_frame (fun s : State => s.camera) _ (by intros; simp [State.offerTo]) _ _
@[simp] theorem State.offerLine_free (s : State) (h : Header) : (s.offerLine h).free = s.free := by
  exact foldl_frame (fun s : State => s.free) _ (by intros; simp [State.offerTo]) _ _

/-! ### State.writeLine -/

@[simp] theorem State.writeLine_pending (s : State) (l : List SinkId) (x : List Pixel) : (s.writeLine l x).pending = s.pending := by
  exact foldl_frame (fun s : State => s.pending) _ (by intros; simp) _ _
@[simp] theorem State.writeLine_pins (s : State) (l : List SinkId) (x : List Pixel) : (s.writeLine l x).pins = s.pins := by
  exact foldl_frame (fun s : State => s.pins) _ (by intros; simp) _ _
@[simp] theorem State.writeLine_node (s : State) (l : List SinkId) (x : List Pixel) : (s.writeLine l x).node = s.node := by
  exact foldl_frame (fun s : State => s.node) _ (by intros; simp) _ _
@[simp] theorem State.writeLine_tick (s : State) (l : List SinkId) (x : List Pixel) : (s.writeLine l x).tick = s.tick := by
  exact foldl_frame (fun s : State => s.tick) _ (by intros; simp) _ _
@[simp] theorem State.writeLine_link (s : State) (l : List SinkId) (x : List Pixel) : (s.writeLine l x).link = s.link := by
  exact foldl_frame (fun s : State => s.link) _ (by intros; simp) _ _
@[simp] theorem State.writeLine_sched (s : State) (l : List SinkId) (x : List Pixel) : (s.writeLine l x).sched = s.sched := by
  exact foldl_frame (fun s : State => s.sched) _ (by intros; simp) _ _
@[simp] theorem State.writeLine_view (s : State) (l : List SinkId) (x : List Pixel) : (s.writeLine l x).view = s.view := by
  exact foldl_frame (fun s : State => s.view) _ (by intros; simp) _ _
@[simp] theorem State.writeLine_store (s : State) (l : List SinkId) (x : List Pixel) : (s.writeLine l x).store = s.store := by
  exact foldl_frame (fun s : State => s.store) _ (by intros; simp) _ _
@[simp] theorem State.writeLine_svc (s : State) (l : List SinkId) (x : List Pixel) : (s.writeLine l x).svc = s.svc := by
  exact foldl_frame (fun s : State => s.svc) _ (by intros; simp) _ _
@[simp] theorem State.writeLine_camera (s : State) (l : List SinkId) (x : List Pixel) : (s.writeLine l x).camera = s.camera := by
  exact foldl_frame (fun s : State => s.camera) _ (by intros; simp) _ _
@[simp] theorem State.writeLine_free (s : State) (l : List SinkId) (x : List Pixel) : (s.writeLine l x).free = s.free := by
  exact foldl_frame (fun s : State => s.free) _ (by intros; simp) _ _

/-! ### State.finishLine -/

@[simp] theorem State.finishLine_pending (s : State) (l : List SinkId) (g : Bool) : (s.finishLine l g).pending = s.pending := by
  exact foldl_frame (fun s : State => s.pending) _ (by intros; simp) _ _
@[simp] theorem State.finishLine_pins (s : State) (l : List SinkId) (g : Bool) : (s.finishLine l g).pins = s.pins := by
  exact foldl_frame (fun s : State => s.pins) _ (by intros; simp) _ _
@[simp] theorem State.finishLine_node (s : State) (l : List SinkId) (g : Bool) : (s.finishLine l g).node = s.node := by
  exact foldl_frame (fun s : State => s.node) _ (by intros; simp) _ _
@[simp] theorem State.finishLine_tick (s : State) (l : List SinkId) (g : Bool) : (s.finishLine l g).tick = s.tick := by
  exact foldl_frame (fun s : State => s.tick) _ (by intros; simp) _ _
@[simp] theorem State.finishLine_link (s : State) (l : List SinkId) (g : Bool) : (s.finishLine l g).link = s.link := by
  exact foldl_frame (fun s : State => s.link) _ (by intros; simp) _ _
@[simp] theorem State.finishLine_sched (s : State) (l : List SinkId) (g : Bool) : (s.finishLine l g).sched = s.sched := by
  exact foldl_frame (fun s : State => s.sched) _ (by intros; simp) _ _
@[simp] theorem State.finishLine_view (s : State) (l : List SinkId) (g : Bool) : (s.finishLine l g).view = s.view := by
  exact foldl_frame (fun s : State => s.view) _ (by intros; simp) _ _
@[simp] theorem State.finishLine_store (s : State) (l : List SinkId) (g : Bool) : (s.finishLine l g).store = s.store := by
  exact foldl_frame (fun s : State => s.store) _ (by intros; simp) _ _
@[simp] theorem State.finishLine_svc (s : State) (l : List SinkId) (g : Bool) : (s.finishLine l g).svc = s.svc := by
  exact foldl_frame (fun s : State => s.svc) _ (by intros; simp) _ _
@[simp] theorem State.finishLine_camera (s : State) (l : List SinkId) (g : Bool) : (s.finishLine l g).camera = s.camera := by
  exact foldl_frame (fun s : State => s.camera) _ (by intros; simp) _ _
@[simp] theorem State.finishLine_free (s : State) (l : List SinkId) (g : Bool) : (s.finishLine l g).free = s.free := by
  exact foldl_frame (fun s : State => s.free) _ (by intros; simp) _ _

/-! ### State.deliverMark -/

@[simp] theorem State.deliverMark_pending (s : State) (r : Reception) : (s.deliverMark r).pending = s.pending := by
  unfold State.deliverMark; dsimp only; split_ifs
  · exact foldl_frame (fun s : State => s.pending) _ (by intros; simp) _ _
  · rfl
@[simp] theorem State.deliverMark_pins (s : State) (r : Reception) : (s.deliverMark r).pins = s.pins := by
  unfold State.deliverMark; dsimp only; split_ifs
  · exact foldl_frame (fun s : State => s.pins) _ (by intros; simp) _ _
  · rfl
@[simp] theorem State.deliverMark_node (s : State) (r : Reception) : (s.deliverMark r).node = s.node := by
  unfold State.deliverMark; dsimp only; split_ifs
  · exact foldl_frame (fun s : State => s.node) _ (by intros; simp) _ _
  · rfl
@[simp] theorem State.deliverMark_tick (s : State) (r : Reception) : (s.deliverMark r).tick = s.tick := by
  unfold State.deliverMark; dsimp only; split_ifs
  · exact foldl_frame (fun s : State => s.tick) _ (by intros; simp) _ _
  · rfl
@[simp] theorem State.deliverMark_link (s : State) (r : Reception) : (s.deliverMark r).link = s.link := by
  unfold State.deliverMark; dsimp only; split_ifs
  · exact foldl_frame (fun s : State => s.link) _ (by intros; simp) _ _
  · rfl
@[simp] theorem State.deliverMark_sched (s : State) (r : Reception) : (s.deliverMark r).sched = s.sched := by
  unfold State.deliverMark; dsimp only; split_ifs
  · exact foldl_frame (fun s : State => s.sched) _ (by intros; simp) _ _
  · rfl
@[simp] theorem State.deliverMark_view (s : State) (r : Reception) : (s.deliverMark r).view = s.view := by
  unfold State.deliverMark; dsimp only; split_ifs
  · exact foldl_frame (fun s : State => s.view) _ (by intros; simp) _ _
  · rfl
@[simp] theorem State.deliverMark_store (s : State) (r : Reception) : (s.deliverMark r).store = s.store := by
  unfold State.deliverMark; dsimp only; split_ifs
  · exact foldl_frame (fun s : State => s.store) _ (by intros; simp) _ _
  · rfl
@[simp] theorem State.deliverMark_svc (s : State) (r : Reception) : (s.deliverMark r).svc = s.svc := by
  unfold State.deliverMark; dsimp only; split_ifs
  · exact foldl_frame (fun s : State => s.svc) _ (by intros; simp) _ _
  · rfl
@[simp] theorem State.deliverMark_camera (s : State) (r : Reception) : (s.deliverMark r).camera = s.camera := by
  unfold State.deliverMark; dsimp only; split_ifs
  · exact foldl_frame (fun s : State => s.camera) _ (by intros; simp) _ _
  · rfl
@[simp] theorem State.deliverMark_free (s : State) (r : Reception) : (s.deliverMark r).free = s.free := by
  unfold State.deliverMark; dsimp only; split_ifs
  · exact foldl_frame (fun s : State => s.free) _ (by intros; simp) _ _
  · rfl

/-! ### State.filterEnd -/

@[simp] theorem State.filterEnd_pending (s : State) (r : Reception) (g : Bool) : (s.filterEnd r g).pending = s.pending := by
  unfold State.filterEnd; split <;> try rfl
  all_goals split <;> first | rfl | simp | (split_ifs <;> simp)
@[simp] theorem State.filterEnd_pins (s : State) (r : Reception) (g : Bool) : (s.filterEnd r g).pins = s.pins := by
  unfold State.filterEnd; split <;> try rfl
  all_goals split <;> first | rfl | simp | (split_ifs <;> simp)
@[simp] theorem State.filterEnd_tick (s : State) (r : Reception) (g : Bool) : (s.filterEnd r g).tick = s.tick := by
  unfold State.filterEnd; split <;> try rfl
  all_goals split <;> first | rfl | simp | (split_ifs <;> simp)
/-- The Parcel Filter is told of an end after the parcel, so the link stays. -/
theorem State.filterEnd_link (s : State) (r : Reception) (g : Bool) (h : s.link.stage = .outside) :
    (s.filterEnd r g).link = s.link := by
  have h1 := State.messageEnd_link s r.payload r.addressed r.reserved g h
  have h2 := State.strippedCensus_link s r.payload h
  unfold State.filterEnd; split <;> try rfl
  all_goals split <;> first | rfl | exact h1 | simp | (split_ifs <;> first | exact h2 | simp)
@[simp] theorem State.filterEnd_free (s : State) (r : Reception) (g : Bool) : (s.filterEnd r g).free = s.free := by
  unfold State.filterEnd; split <;> try rfl
  all_goals split <;> first | rfl | simp | (split_ifs <;> simp)

/-! ### State.endParcel -/

@[simp] theorem State.endParcel_pending (s : State) (r : Reception) (g : Bool) : (s.endParcel r g).pending = s.pending := by
  unfold State.endParcel; dsimp only; split_ifs <;> simp
@[simp] theorem State.endParcel_pins (s : State) (r : Reception) (g : Bool) : (s.endParcel r g).pins = s.pins := by
  unfold State.endParcel; dsimp only; split_ifs <;> simp
@[simp] theorem State.endParcel_tick (s : State) (r : Reception) (g : Bool) : (s.endParcel r g).tick = s.tick := by
  unfold State.endParcel; dsimp only; split_ifs <;> simp
@[simp] theorem State.endParcel_free (s : State) (r : Reception) (g : Bool) : (s.endParcel r g).free = s.free := by
  unfold State.endParcel; dsimp only; split_ifs <;> simp

/-! ### State.leaveUp -/

@[simp] theorem State.leaveUp_pending (s : State) (st : LinkState) : (s.leaveUp st).pending = s.pending := by
  unfold State.leaveUp; dsimp only; split <;> simp
@[simp] theorem State.leaveUp_pins (s : State) (st : LinkState) : (s.leaveUp st).pins = s.pins := by
  unfold State.leaveUp; dsimp only; split <;> simp
@[simp] theorem State.leaveUp_tick (s : State) (st : LinkState) : (s.leaveUp st).tick = s.tick := by
  unfold State.leaveUp; dsimp only; split <;> simp
@[simp] theorem State.leaveUp_free (s : State) (st : LinkState) : (s.leaveUp st).free = s.free := by
  unfold State.leaveUp; dsimp only; split <;> simp

/-! ### State.breakParcel -/

@[simp] theorem State.breakParcel_pending (s : State) : s.breakParcel.pending = s.pending := by
  unfold State.breakParcel; split <;> simp
@[simp] theorem State.breakParcel_pins (s : State) : s.breakParcel.pins = s.pins := by
  unfold State.breakParcel; split <;> simp
@[simp] theorem State.breakParcel_tick (s : State) : s.breakParcel.tick = s.tick := by
  unfold State.breakParcel; split <;> simp
@[simp] theorem State.breakParcel_free (s : State) : s.breakParcel.free = s.free := by
  unfold State.breakParcel; split <;> simp

/-! ### State.lossOfSignal -/

@[simp] theorem State.lossOfSignal_pending (s : State) : s.lossOfSignal.pending = s.pending := by
  unfold State.lossOfSignal; split <;> simp
@[simp] theorem State.lossOfSignal_pins (s : State) : s.lossOfSignal.pins = s.pins := by
  unfold State.lossOfSignal; split <;> simp
@[simp] theorem State.lossOfSignal_tick (s : State) : s.lossOfSignal.tick = s.tick := by
  unfold State.lossOfSignal; split <;> simp
@[simp] theorem State.lossOfSignal_free (s : State) : s.lossOfSignal.free = s.free := by
  unfold State.lossOfSignal; split <;> simp

/-! ### State.decideHeader -/

@[simp] theorem State.decideHeader_pending (s : State) (h : Header) (k : ParcelKind) : (s.decideHeader h k).pending = s.pending := by
  unfold State.decideHeader; dsimp only; split_ifs <;> simp
@[simp] theorem State.decideHeader_pins (s : State) (h : Header) (k : ParcelKind) : (s.decideHeader h k).pins = s.pins := by
  unfold State.decideHeader; dsimp only; split_ifs <;> simp
@[simp] theorem State.decideHeader_tick (s : State) (h : Header) (k : ParcelKind) : (s.decideHeader h k).tick = s.tick := by
  unfold State.decideHeader; dsimp only; split_ifs <;> simp
@[simp] theorem State.decideHeader_free (s : State) (h : Header) (k : ParcelKind) : (s.decideHeader h k).free = s.free := by
  unfold State.decideHeader; dsimp only; split_ifs <;> simp

/-! ### State.copyWord -/

@[simp] theorem State.copyWord_pending (s : State) (r : Reception) (w : Word) : (s.copyWord r w).1.pending = s.pending := by
  unfold State.copyWord; dsimp only; split_ifs <;> simp
@[simp] theorem State.copyWord_pins (s : State) (r : Reception) (w : Word) : (s.copyWord r w).1.pins = s.pins := by
  unfold State.copyWord; dsimp only; split_ifs <;> simp
@[simp] theorem State.copyWord_node (s : State) (r : Reception) (w : Word) : (s.copyWord r w).1.node = s.node := by
  unfold State.copyWord; dsimp only; split_ifs <;> simp
@[simp] theorem State.copyWord_tick (s : State) (r : Reception) (w : Word) : (s.copyWord r w).1.tick = s.tick := by
  unfold State.copyWord; dsimp only; split_ifs <;> simp
@[simp] theorem State.copyWord_link (s : State) (r : Reception) (w : Word) : (s.copyWord r w).1.link = s.link := by
  unfold State.copyWord; dsimp only; split_ifs <;> simp
@[simp] theorem State.copyWord_sched (s : State) (r : Reception) (w : Word) : (s.copyWord r w).1.sched = s.sched := by
  unfold State.copyWord; dsimp only; split_ifs <;> simp
@[simp] theorem State.copyWord_view (s : State) (r : Reception) (w : Word) : (s.copyWord r w).1.view = s.view := by
  unfold State.copyWord; dsimp only; split_ifs <;> simp
@[simp] theorem State.copyWord_store (s : State) (r : Reception) (w : Word) : (s.copyWord r w).1.store = s.store := by
  unfold State.copyWord; dsimp only; split_ifs <;> simp
@[simp] theorem State.copyWord_svc (s : State) (r : Reception) (w : Word) : (s.copyWord r w).1.svc = s.svc := by
  unfold State.copyWord; dsimp only; split_ifs <;> simp
@[simp] theorem State.copyWord_camera (s : State) (r : Reception) (w : Word) : (s.copyWord r w).1.camera = s.camera := by
  unfold State.copyWord; dsimp only; split_ifs <;> simp
@[simp] theorem State.copyWord_free (s : State) (r : Reception) (w : Word) : (s.copyWord r w).1.free = s.free := by
  unfold State.copyWord; dsimp only; split_ifs <;> simp

/-! ### State.decideFirst -/

@[simp] theorem State.decideFirst_pending (s : State) (r : Reception) (w : Word) : (s.decideFirst r w).1.pending = s.pending := by
  unfold State.decideFirst; dsimp only; split <;> simp
@[simp] theorem State.decideFirst_pins (s : State) (r : Reception) (w : Word) : (s.decideFirst r w).1.pins = s.pins := by
  unfold State.decideFirst; dsimp only; split <;> simp
@[simp] theorem State.decideFirst_node (s : State) (r : Reception) (w : Word) : (s.decideFirst r w).1.node = s.node := by
  unfold State.decideFirst; dsimp only; split <;> simp
@[simp] theorem State.decideFirst_tick (s : State) (r : Reception) (w : Word) : (s.decideFirst r w).1.tick = s.tick := by
  unfold State.decideFirst; dsimp only; split <;> simp
@[simp] theorem State.decideFirst_sched (s : State) (r : Reception) (w : Word) : (s.decideFirst r w).1.sched = s.sched := by
  unfold State.decideFirst; dsimp only; split <;> simp
@[simp] theorem State.decideFirst_view (s : State) (r : Reception) (w : Word) : (s.decideFirst r w).1.view = s.view := by
  unfold State.decideFirst; dsimp only; split <;> simp
@[simp] theorem State.decideFirst_store (s : State) (r : Reception) (w : Word) : (s.decideFirst r w).1.store = s.store := by
  unfold State.decideFirst; dsimp only; split <;> simp
@[simp] theorem State.decideFirst_portA (s : State) (r : Reception) (w : Word) : (s.decideFirst r w).1.portA = s.portA := by
  unfold State.decideFirst; dsimp only; split <;> simp
@[simp] theorem State.decideFirst_portB (s : State) (r : Reception) (w : Word) : (s.decideFirst r w).1.portB = s.portB := by
  unfold State.decideFirst; dsimp only; split <;> simp
@[simp] theorem State.decideFirst_att (s : State) (r : Reception) (w : Word) : (s.decideFirst r w).1.att = s.att := by
  unfold State.decideFirst; dsimp only; split <;> simp
@[simp] theorem State.decideFirst_camera (s : State) (r : Reception) (w : Word) : (s.decideFirst r w).1.camera = s.camera := by
  unfold State.decideFirst; dsimp only; split <;> simp
@[simp] theorem State.decideFirst_free (s : State) (r : Reception) (w : Word) : (s.decideFirst r w).1.free = s.free := by
  unfold State.decideFirst; dsimp only; split <;> simp

/-! ### State.maybeDecide -/

@[simp] theorem State.maybeDecide_pending (s : State) (r : Reception) (w : Word) : (s.maybeDecide r w).1.pending = s.pending := by
  unfold State.maybeDecide; split_ifs <;> simp
@[simp] theorem State.maybeDecide_pins (s : State) (r : Reception) (w : Word) : (s.maybeDecide r w).1.pins = s.pins := by
  unfold State.maybeDecide; split_ifs <;> simp
@[simp] theorem State.maybeDecide_node (s : State) (r : Reception) (w : Word) : (s.maybeDecide r w).1.node = s.node := by
  unfold State.maybeDecide; split_ifs <;> simp
@[simp] theorem State.maybeDecide_tick (s : State) (r : Reception) (w : Word) : (s.maybeDecide r w).1.tick = s.tick := by
  unfold State.maybeDecide; split_ifs <;> simp
@[simp] theorem State.maybeDecide_sched (s : State) (r : Reception) (w : Word) : (s.maybeDecide r w).1.sched = s.sched := by
  unfold State.maybeDecide; split_ifs <;> simp
@[simp] theorem State.maybeDecide_view (s : State) (r : Reception) (w : Word) : (s.maybeDecide r w).1.view = s.view := by
  unfold State.maybeDecide; split_ifs <;> simp
@[simp] theorem State.maybeDecide_store (s : State) (r : Reception) (w : Word) : (s.maybeDecide r w).1.store = s.store := by
  unfold State.maybeDecide; split_ifs <;> simp
@[simp] theorem State.maybeDecide_portA (s : State) (r : Reception) (w : Word) : (s.maybeDecide r w).1.portA = s.portA := by
  unfold State.maybeDecide; split_ifs <;> simp
@[simp] theorem State.maybeDecide_portB (s : State) (r : Reception) (w : Word) : (s.maybeDecide r w).1.portB = s.portB := by
  unfold State.maybeDecide; split_ifs <;> simp
@[simp] theorem State.maybeDecide_att (s : State) (r : Reception) (w : Word) : (s.maybeDecide r w).1.att = s.att := by
  unfold State.maybeDecide; split_ifs <;> simp
@[simp] theorem State.maybeDecide_camera (s : State) (r : Reception) (w : Word) : (s.maybeDecide r w).1.camera = s.camera := by
  unfold State.maybeDecide; split_ifs <;> simp
@[simp] theorem State.maybeDecide_free (s : State) (r : Reception) (w : Word) : (s.maybeDecide r w).1.free = s.free := by
  unfold State.maybeDecide; split_ifs <;> simp

/-! ### State.takeWord -/

@[simp] theorem State.takeWord_pending (s : State) (r : Reception) (w : Word) : (s.takeWord r w).pending = s.pending := by
  unfold State.takeWord; dsimp only; split_ifs <;> simp
@[simp] theorem State.takeWord_pins (s : State) (r : Reception) (w : Word) : (s.takeWord r w).pins = s.pins := by
  unfold State.takeWord; dsimp only; split_ifs <;> simp
@[simp] theorem State.takeWord_node (s : State) (r : Reception) (w : Word) : (s.takeWord r w).node = s.node := by
  unfold State.takeWord; dsimp only; split_ifs <;> simp
@[simp] theorem State.takeWord_tick (s : State) (r : Reception) (w : Word) : (s.takeWord r w).tick = s.tick := by
  unfold State.takeWord; dsimp only; split_ifs <;> simp
@[simp] theorem State.takeWord_sched (s : State) (r : Reception) (w : Word) : (s.takeWord r w).sched = s.sched := by
  unfold State.takeWord; dsimp only; split_ifs <;> simp
@[simp] theorem State.takeWord_view (s : State) (r : Reception) (w : Word) : (s.takeWord r w).view = s.view := by
  unfold State.takeWord; dsimp only; split_ifs <;> simp
@[simp] theorem State.takeWord_store (s : State) (r : Reception) (w : Word) : (s.takeWord r w).store = s.store := by
  unfold State.takeWord; dsimp only; split_ifs <;> simp
@[simp] theorem State.takeWord_svc (s : State) (r : Reception) (w : Word) : (s.takeWord r w).svc = s.svc := by
  unfold State.takeWord; dsimp only; split_ifs <;> simp
@[simp] theorem State.takeWord_camera (s : State) (r : Reception) (w : Word) : (s.takeWord r w).camera = s.camera := by
  unfold State.takeWord; dsimp only; split_ifs <;> simp
@[simp] theorem State.takeWord_free (s : State) (r : Reception) (w : Word) : (s.takeWord r w).free = s.free := by
  unfold State.takeWord; dsimp only; split_ifs <;> simp

/-! ### State.bodyWord -/

@[simp] theorem State.bodyWord_pending (s : State) (r : Reception) (w : Word) : (s.bodyWord r w).pending = s.pending := by
  unfold State.bodyWord; dsimp only; split_ifs <;> simp
@[simp] theorem State.bodyWord_pins (s : State) (r : Reception) (w : Word) : (s.bodyWord r w).pins = s.pins := by
  unfold State.bodyWord; dsimp only; split_ifs <;> simp
@[simp] theorem State.bodyWord_tick (s : State) (r : Reception) (w : Word) : (s.bodyWord r w).tick = s.tick := by
  unfold State.bodyWord; dsimp only; split_ifs <;> simp
@[simp] theorem State.bodyWord_free (s : State) (r : Reception) (w : Word) : (s.bodyWord r w).free = s.free := by
  unfold State.bodyWord; dsimp only; split_ifs <;> simp

/-! ### State.bodyEnd -/

@[simp] theorem State.bodyEnd_pending (s : State) (r : Reception) (e : EndSymbol) : (s.bodyEnd r e).pending = s.pending := by
  unfold State.bodyEnd; split <;> try split_ifs
  all_goals simp
@[simp] theorem State.bodyEnd_pins (s : State) (r : Reception) (e : EndSymbol) : (s.bodyEnd r e).pins = s.pins := by
  unfold State.bodyEnd; split <;> try split_ifs
  all_goals simp
@[simp] theorem State.bodyEnd_tick (s : State) (r : Reception) (e : EndSymbol) : (s.bodyEnd r e).tick = s.tick := by
  unfold State.bodyEnd; split <;> try split_ifs
  all_goals simp
@[simp] theorem State.bodyEnd_free (s : State) (r : Reception) (e : EndSymbol) : (s.bodyEnd r e).free = s.free := by
  unfold State.bodyEnd; split <;> try split_ifs
  all_goals simp

/-! ### State.start -/

@[simp] theorem State.start_pending (s : State) (c : Choice) : (s.start c).pending = s.pending := by
  unfold State.start; split <;> simp
@[simp] theorem State.start_pins (s : State) (c : Choice) : (s.start c).pins = s.pins := by
  unfold State.start; split <;> simp
@[simp] theorem State.start_node (s : State) (c : Choice) : (s.start c).node = s.node := by
  unfold State.start; split <;> simp
@[simp] theorem State.start_tick (s : State) (c : Choice) : (s.start c).tick = s.tick := by
  unfold State.start; split <;> simp
@[simp] theorem State.start_store (s : State) (c : Choice) : (s.start c).store = s.store := by
  unfold State.start; split <;> simp
@[simp] theorem State.start_portA (s : State) (c : Choice) : (s.start c).portA = s.portA := by
  unfold State.start; split <;> simp
@[simp] theorem State.start_portB (s : State) (c : Choice) : (s.start c).portB = s.portB := by
  unfold State.start; split <;> simp
@[simp] theorem State.start_camera (s : State) (c : Choice) : (s.start c).camera = s.camera := by
  unfold State.start; split <;> simp
@[simp] theorem State.start_free (s : State) (c : Choice) : (s.start c).free = s.free := by
  unfold State.start; split <;> simp

/-! ### State.parcelStart -/

@[simp] theorem State.parcelStart_pending (s : State) : s.parcelStart.pending = s.pending := by
  unfold State.parcelStart; split_ifs <;> simp
@[simp] theorem State.parcelStart_pins (s : State) : s.parcelStart.pins = s.pins := by
  unfold State.parcelStart; split_ifs <;> simp
@[simp] theorem State.parcelStart_node (s : State) : s.parcelStart.node = s.node := by
  unfold State.parcelStart; split_ifs <;> simp
@[simp] theorem State.parcelStart_tick (s : State) : s.parcelStart.tick = s.tick := by
  unfold State.parcelStart; split_ifs <;> simp
@[simp] theorem State.parcelStart_store (s : State) : s.parcelStart.store = s.store := by
  unfold State.parcelStart; split_ifs <;> simp
@[simp] theorem State.parcelStart_portA (s : State) : s.parcelStart.portA = s.portA := by
  unfold State.parcelStart; split_ifs <;> simp
@[simp] theorem State.parcelStart_portB (s : State) : s.parcelStart.portB = s.portB := by
  unfold State.parcelStart; split_ifs <;> simp
@[simp] theorem State.parcelStart_camera (s : State) : s.parcelStart.camera = s.camera := by
  unfold State.parcelStart; split_ifs <;> simp
@[simp] theorem State.parcelStart_free (s : State) : s.parcelStart.free = s.free := by
  unfold State.parcelStart; split_ifs <;> simp

/-! ### State.cutThroughStart -/

@[simp] theorem State.cutThroughStart_pending (s : State) : s.cutThroughStart.pending = s.pending := by
  unfold State.cutThroughStart; split_ifs <;> simp
@[simp] theorem State.cutThroughStart_pins (s : State) : s.cutThroughStart.pins = s.pins := by
  unfold State.cutThroughStart; split_ifs <;> simp
@[simp] theorem State.cutThroughStart_node (s : State) : s.cutThroughStart.node = s.node := by
  unfold State.cutThroughStart; split_ifs <;> simp
@[simp] theorem State.cutThroughStart_tick (s : State) : s.cutThroughStart.tick = s.tick := by
  unfold State.cutThroughStart; split_ifs <;> simp
@[simp] theorem State.cutThroughStart_sched (s : State) : s.cutThroughStart.sched = s.sched := by
  unfold State.cutThroughStart; split_ifs <;> simp
@[simp] theorem State.cutThroughStart_view (s : State) : s.cutThroughStart.view = s.view := by
  unfold State.cutThroughStart; split_ifs <;> simp
@[simp] theorem State.cutThroughStart_store (s : State) : s.cutThroughStart.store = s.store := by
  unfold State.cutThroughStart; split_ifs <;> simp
@[simp] theorem State.cutThroughStart_portA (s : State) : s.cutThroughStart.portA = s.portA := by
  unfold State.cutThroughStart; split_ifs <;> simp
@[simp] theorem State.cutThroughStart_portB (s : State) : s.cutThroughStart.portB = s.portB := by
  unfold State.cutThroughStart; split_ifs <;> simp
@[simp] theorem State.cutThroughStart_att (s : State) : s.cutThroughStart.att = s.att := by
  unfold State.cutThroughStart; split_ifs <;> simp
@[simp] theorem State.cutThroughStart_svc (s : State) : s.cutThroughStart.svc = s.svc := by
  unfold State.cutThroughStart; split_ifs <;> simp
@[simp] theorem State.cutThroughStart_camera (s : State) : s.cutThroughStart.camera = s.camera := by
  unfold State.cutThroughStart; split_ifs <;> simp
@[simp] theorem State.cutThroughStart_free (s : State) : s.cutThroughStart.free = s.free := by
  unfold State.cutThroughStart; split_ifs <;> simp

/-! ### State.parcelEndSent -/

@[simp] theorem State.parcelEndSent_pending (s : State) : s.parcelEndSent.pending = s.pending := by
  unfold State.parcelEndSent; split <;> try rfl
  · split <;> try rfl
    split <;> try rfl
    split_ifs <;> rfl
  · split_ifs <;> simp
@[simp] theorem State.parcelEndSent_pins (s : State) : s.parcelEndSent.pins = s.pins := by
  unfold State.parcelEndSent; split <;> try rfl
  · split <;> try rfl
    split <;> try rfl
    split_ifs <;> rfl
  · split_ifs <;> simp
@[simp] theorem State.parcelEndSent_node (s : State) : s.parcelEndSent.node = s.node := by
  unfold State.parcelEndSent; split <;> try rfl
  · split <;> try rfl
    split <;> try rfl
    split_ifs <;> rfl
  · split_ifs <;> simp
@[simp] theorem State.parcelEndSent_tick (s : State) : s.parcelEndSent.tick = s.tick := by
  unfold State.parcelEndSent; split <;> try rfl
  · split <;> try rfl
    split <;> try rfl
    split_ifs <;> rfl
  · split_ifs <;> simp
@[simp] theorem State.parcelEndSent_sched (s : State) : s.parcelEndSent.sched = s.sched := by
  unfold State.parcelEndSent; split <;> try rfl
  · split <;> try rfl
    split <;> try rfl
    split_ifs <;> rfl
  · split_ifs <;> simp
@[simp] theorem State.parcelEndSent_view (s : State) : s.parcelEndSent.view = s.view := by
  unfold State.parcelEndSent; split <;> try rfl
  · split <;> try rfl
    split <;> try rfl
    split_ifs <;> rfl
  · split_ifs <;> simp
@[simp] theorem State.parcelEndSent_portA (s : State) : s.parcelEndSent.portA = s.portA := by
  unfold State.parcelEndSent; split <;> try rfl
  · split <;> try rfl
    split <;> try rfl
    split_ifs <;> rfl
  · split_ifs <;> simp
@[simp] theorem State.parcelEndSent_portB (s : State) : s.parcelEndSent.portB = s.portB := by
  unfold State.parcelEndSent; split <;> try rfl
  · split <;> try rfl
    split <;> try rfl
    split_ifs <;> rfl
  · split_ifs <;> simp
@[simp] theorem State.parcelEndSent_att (s : State) : s.parcelEndSent.att = s.att := by
  unfold State.parcelEndSent; split <;> try rfl
  · split <;> try rfl
    split <;> try rfl
    split_ifs <;> rfl
  · split_ifs <;> simp
@[simp] theorem State.parcelEndSent_svc (s : State) : s.parcelEndSent.svc = s.svc := by
  unfold State.parcelEndSent; split <;> try rfl
  · split <;> try rfl
    split <;> try rfl
    split_ifs <;> rfl
  · split_ifs <;> simp
@[simp] theorem State.parcelEndSent_camera (s : State) : s.parcelEndSent.camera = s.camera := by
  unfold State.parcelEndSent; split <;> try rfl
  · split <;> try rfl
    split <;> try rfl
    split_ifs <;> rfl
  · split_ifs <;> simp
@[simp] theorem State.parcelEndSent_free (s : State) : s.parcelEndSent.free = s.free := by
  unfold State.parcelEndSent; split <;> try rfl
  · split <;> try rfl
    split <;> try rfl
    split_ifs <;> rfl
  · split_ifs <;> simp

/-! ### State.restartRing -/

@[simp] theorem State.restartRing_pending (s : State) : s.restartRing.pending = s.pending := by
  unfold State.restartRing; dsimp only; split <;> simp
@[simp] theorem State.restartRing_pins (s : State) : s.restartRing.pins = s.pins := by
  unfold State.restartRing; dsimp only; split <;> simp
@[simp] theorem State.restartRing_tick (s : State) : s.restartRing.tick = s.tick := by
  unfold State.restartRing; dsimp only; split <;> simp
@[simp] theorem State.restartRing_free (s : State) : s.restartRing.free = s.free := by
  unfold State.restartRing; dsimp only; split <;> simp

/-! ### State.restartSources -/

@[simp] theorem State.restartSources_pending (s : State) : s.restartSources.pending = s.pending := by simp [State.restartSources]
@[simp] theorem State.restartSources_pins (s : State) : s.restartSources.pins = s.pins := by simp [State.restartSources]
@[simp] theorem State.restartSources_tick (s : State) : s.restartSources.tick = s.tick := by simp [State.restartSources]
@[simp] theorem State.restartSources_link (s : State) : s.restartSources.link = s.link := by simp [State.restartSources]
@[simp] theorem State.restartSources_view (s : State) : s.restartSources.view = s.view := by simp [State.restartSources]
@[simp] theorem State.restartSources_att (s : State) : s.restartSources.att = s.att := by simp [State.restartSources]
@[simp] theorem State.restartSources_svc (s : State) : s.restartSources.svc = s.svc := by simp [State.restartSources]
@[simp] theorem State.restartSources_camera (s : State) : s.restartSources.camera = s.camera := by simp [State.restartSources]
@[simp] theorem State.restartSources_free (s : State) : s.restartSources.free = s.free := by simp [State.restartSources]

/-! ### State.restartOuts -/

@[simp] theorem State.restartOuts_pending (s : State) : s.restartOuts.pending = s.pending := by simp [State.restartOuts]
@[simp] theorem State.restartOuts_pins (s : State) : s.restartOuts.pins = s.pins := by simp [State.restartOuts]
@[simp] theorem State.restartOuts_node (s : State) : s.restartOuts.node = s.node := by simp [State.restartOuts]
@[simp] theorem State.restartOuts_tick (s : State) : s.restartOuts.tick = s.tick := by simp [State.restartOuts]
@[simp] theorem State.restartOuts_link (s : State) : s.restartOuts.link = s.link := by simp [State.restartOuts]
@[simp] theorem State.restartOuts_sched (s : State) : s.restartOuts.sched = s.sched := by simp [State.restartOuts]
@[simp] theorem State.restartOuts_view (s : State) : s.restartOuts.view = s.view := by simp [State.restartOuts]
@[simp] theorem State.restartOuts_store (s : State) : s.restartOuts.store = s.store := by simp [State.restartOuts]
@[simp] theorem State.restartOuts_svc (s : State) : s.restartOuts.svc = s.svc := by simp [State.restartOuts]
@[simp] theorem State.restartOuts_camera (s : State) : s.restartOuts.camera = s.camera := by simp [State.restartOuts]
@[simp] theorem State.restartOuts_free (s : State) : s.restartOuts.free = s.free := by simp [State.restartOuts]

/-! ### State.restartView -/

@[simp] theorem State.restartView_pending (s : State) : s.restartView.pending = s.pending := by
  unfold State.restartView; dsimp only
  rw [State.recomputeDemand_pending, foldl_frame (fun s : State => s.pending) _ (by intros; simp)]
@[simp] theorem State.restartView_pins (s : State) : s.restartView.pins = s.pins := by
  unfold State.restartView; dsimp only
  rw [State.recomputeDemand_pins, foldl_frame (fun s : State => s.pins) _ (by intros; simp)]
@[simp] theorem State.restartView_node (s : State) : s.restartView.node = s.node := by
  unfold State.restartView; dsimp only
  rw [State.recomputeDemand_node, foldl_frame (fun s : State => s.node) _ (by intros; simp)]
@[simp] theorem State.restartView_tick (s : State) : s.restartView.tick = s.tick := by
  unfold State.restartView; dsimp only
  rw [State.recomputeDemand_tick, foldl_frame (fun s : State => s.tick) _ (by intros; simp)]
@[simp] theorem State.restartView_link (s : State) : s.restartView.link = s.link := by
  unfold State.restartView; dsimp only
  rw [State.recomputeDemand_link, foldl_frame (fun s : State => s.link) _ (by intros; simp)]
@[simp] theorem State.restartView_svc (s : State) : s.restartView.svc = s.svc := by
  unfold State.restartView; dsimp only
  rw [State.recomputeDemand_svc, foldl_frame (fun s : State => s.svc) _ (by intros; simp)]
@[simp] theorem State.restartView_camera (s : State) : s.restartView.camera = s.camera := by
  unfold State.restartView; dsimp only
  rw [State.recomputeDemand_camera, foldl_frame (fun s : State => s.camera) _ (by intros; simp)]
@[simp] theorem State.restartView_free (s : State) : s.restartView.free = s.free := by
  unfold State.restartView; dsimp only
  rw [State.recomputeDemand_free, foldl_frame (fun s : State => s.free) _ (by intros; simp)]

/-! ### State.restartService -/

@[simp] theorem State.restartService_pending (s : State) : s.restartService.pending = s.pending := by rfl
@[simp] theorem State.restartService_pins (s : State) : s.restartService.pins = s.pins := by rfl
@[simp] theorem State.restartService_node (s : State) : s.restartService.node = s.node := by rfl
@[simp] theorem State.restartService_tick (s : State) : s.restartService.tick = s.tick := by rfl
@[simp] theorem State.restartService_link (s : State) : s.restartService.link = s.link := by rfl
@[simp] theorem State.restartService_sched (s : State) : s.restartService.sched = s.sched := by rfl
@[simp] theorem State.restartService_view (s : State) : s.restartService.view = s.view := by rfl
@[simp] theorem State.restartService_store (s : State) : s.restartService.store = s.store := by rfl
@[simp] theorem State.restartService_portA (s : State) : s.restartService.portA = s.portA := by rfl
@[simp] theorem State.restartService_portB (s : State) : s.restartService.portB = s.portB := by rfl
@[simp] theorem State.restartService_camera (s : State) : s.restartService.camera = s.camera := by rfl
@[simp] theorem State.restartService_free (s : State) : s.restartService.free = s.free := by rfl

/-! ### State.judgeLate -/

@[simp] theorem State.judgeLate_pending (s : State) : s.judgeLate.pending = s.pending := by
  unfold State.judgeLate; split_ifs <;> rfl
@[simp] theorem State.judgeLate_pins (s : State) : s.judgeLate.pins = s.pins := by
  unfold State.judgeLate; split_ifs <;> rfl
@[simp] theorem State.judgeLate_node (s : State) : s.judgeLate.node = s.node := by
  unfold State.judgeLate; split_ifs <;> rfl
@[simp] theorem State.judgeLate_tick (s : State) : s.judgeLate.tick = s.tick := by
  unfold State.judgeLate; split_ifs <;> rfl
@[simp] theorem State.judgeLate_link (s : State) : s.judgeLate.link = s.link := by
  unfold State.judgeLate; split_ifs <;> rfl
@[simp] theorem State.judgeLate_sched (s : State) : s.judgeLate.sched = s.sched := by
  unfold State.judgeLate; split_ifs <;> rfl
@[simp] theorem State.judgeLate_view (s : State) : s.judgeLate.view = s.view := by
  unfold State.judgeLate; split_ifs <;> rfl
@[simp] theorem State.judgeLate_store (s : State) : s.judgeLate.store = s.store := by
  unfold State.judgeLate; split_ifs <;> rfl
@[simp] theorem State.judgeLate_portA (s : State) : s.judgeLate.portA = s.portA := by
  unfold State.judgeLate; split_ifs <;> rfl
@[simp] theorem State.judgeLate_portB (s : State) : s.judgeLate.portB = s.portB := by
  unfold State.judgeLate; split_ifs <;> rfl
@[simp] theorem State.judgeLate_svc (s : State) : s.judgeLate.svc = s.svc := by
  unfold State.judgeLate; split_ifs <;> rfl
@[simp] theorem State.judgeLate_camera (s : State) : s.judgeLate.camera = s.camera := by
  unfold State.judgeLate; split_ifs <;> rfl
@[simp] theorem State.judgeLate_free (s : State) : s.judgeLate.free = s.free := by
  unfold State.judgeLate; split_ifs <;> rfl

/-! ### State.restartCamera -/

@[simp] theorem State.restartCamera_pending (s : State) : s.restartCamera.pending = s.pending := by
  unfold State.restartCamera; dsimp only; split_ifs <;> simp
@[simp] theorem State.restartCamera_pins (s : State) : s.restartCamera.pins = s.pins := by
  unfold State.restartCamera; dsimp only; split_ifs <;> simp
@[simp] theorem State.restartCamera_tick (s : State) : s.restartCamera.tick = s.tick := by
  unfold State.restartCamera; dsimp only; split_ifs <;> simp
/-- A restart leaves no entry waiting, so the engage that it may bring leaves the link. -/
theorem State.restartCamera_link (s : State) (h : s.node.waiting = none) : s.restartCamera.link = s.link := by
  unfold State.restartCamera; dsimp only; split_ifs
  · rw [State.engage_link_none]
    · simp
    · intro e; simp [State.entryDue, h]
  · simp
@[simp] theorem State.restartCamera_svc (s : State) : s.restartCamera.svc = s.svc := by
  unfold State.restartCamera; dsimp only; split_ifs <;> simp
@[simp] theorem State.restartCamera_free (s : State) : s.restartCamera.free = s.free := by
  unfold State.restartCamera; dsimp only; split_ifs <;> simp

/-! ### State.warmRestart -/

@[simp] theorem State.warmRestart_pending (s : State) : s.warmRestart.pending = s.pending := by simp [State.warmRestart]
@[simp] theorem State.warmRestart_pins (s : State) : s.warmRestart.pins = s.pins := by simp [State.warmRestart]
@[simp] theorem State.warmRestart_tick (s : State) : s.warmRestart.tick = s.tick := by simp [State.warmRestart]
@[simp] theorem State.warmRestart_free (s : State) : s.warmRestart.free = s.free := by simp [State.warmRestart]

end Sys2Proof.Machine
end

