-- ==== Sys2Proof/Laws/Ports.lean ====
section
/-! SUPPORT. What the shared operations on the ports, the queues and the due events do, said once each. -/

namespace Sys2Proof.Machine

/-! ## A command on a running part -/

/-- A running part answers the command's effect. -/
theorem live_running (f : State → State) (s : State) (h : s.running) : live f s = .next (f s) := by
  simp only [State.running] at h; simp [live, h]

/-- A part held in cold reset answers itself. -/
theorem live_held (f : State → State) (s : State) (h : s.node.held = true) : live f s = .next s := by simp [live, h]

/-- Whatever the part is in, a command answers itself or its effect. -/
theorem live_cases (f : State → State) (s : State) : ∃ t, live f s = .next t ∧ (t = s ∨ t = f s) := by
  unfold live; split_ifs
  · exact ⟨_, rfl, .inl rfl⟩
  · exact ⟨_, rfl, .inr rfl⟩

/-! ## Ports -/

theorem State.setPort_self (s : State) (p : PortId) : s.setPort p (s.port p) = s := by cases p <;> rfl

theorem State.raise_noCause (s : State) : s.raise noCause = s := by simp [State.raise]

/-- An operation on an output port, with the state it gives. -/
theorem State.onOut_output (s : State) (p : PortId) (o : OutPort) (f : OutPort → OutPort × Half)
    (h : s.port p = .output o) : s.onOut p f = (s.setPort p (.output (f o).1)).raise (f o).2 := by
  unfold State.onOut; rw [h]

/-- An operation on a port that is no output does nothing. -/
theorem State.onOut_other (s : State) (p : PortId) (f : OutPort → OutPort × Half) (h : ∀ o, s.port p ≠ .output o) :
    s.onOut p f = s := by
  unfold State.onOut; split
  · rename_i o h2; exact absurd h2 (h o)
  · rfl
  · rfl

/-- An operation that changes and raises nothing does nothing. -/
theorem State.onOut_id (s : State) (p : PortId) (f : OutPort → OutPort × Half)
    (h : ∀ o, s.port p = .output o → f o = (o, noCause)) : s.onOut p f = s := by
  cases hp : s.port p with
  | output o => rw [s.onOut_output p o f hp, h o hp, ← hp, State.setPort_self]; exact s.raise_noCause
  | input q => exact s.onOut_other p f (by simp [hp])
  | unused k => exact s.onOut_other p f (by simp [hp])

/-- The port an operation was made on. -/
theorem State.onOut_port (s : State) (p : PortId) (o : OutPort) (f : OutPort → OutPort × Half)
    (h : s.port p = .output o) : (s.onOut p f).port p = .output (f o).1 := by
  rw [s.onOut_output p o f h, State.port_raise, State.setPort_port]

/-- The other port stays. -/
theorem State.onOut_port_ne (s : State) (p p' : PortId) (f : OutPort → OutPort × Half) (h : p ≠ p') :
    (s.onOut p f).port p' = s.port p' := by
  cases hp : s.port p with
  | output o => rw [s.onOut_output p o f hp, State.port_raise, State.setPort_port_other _ _ _ _ h]
  | input q => rw [s.onOut_other p f (by simp [hp])]
  | unused k => rw [s.onOut_other p f (by simp [hp])]

/-- A port that is no output stays. -/
theorem State.onOut_port_in (s : State) (p p' : PortId) (f : OutPort → OutPort × Half)
    (h : ∀ o, s.port p' ≠ .output o) : (s.onOut p f).port p' = s.port p' := by
  by_cases hp : p = p'
  · subst hp; rw [s.onOut_other p f h]
  · exact s.onOut_port_ne p p' f hp

/-- Each output port after an operation on both. -/
theorem State.onOuts_port (s : State) (p : PortId) (o : OutPort) (f : OutPort → OutPort × Half)
    (h : s.port p = .output o) : (s.onOuts f).port p = .output (f o).1 := by
  unfold State.onOuts
  cases p
  · rw [State.onOut_port_ne _ _ _ _ (by decide)]; exact s.onOut_port _ o f h
  · refine State.onOut_port _ _ o f ?_; rw [State.onOut_port_ne _ _ _ _ (by decide)]; exact h

/-- A port that is no output stays under an operation on both. -/
theorem State.onOuts_port_in (s : State) (p : PortId) (f : OutPort → OutPort × Half) (h : ∀ o, s.port p ≠ .output o) :
    (s.onOuts f).port p = s.port p := by
  unfold State.onOuts
  have h1 := s.onOut_port_in .a p f h
  rw [State.onOut_port_in _ _ _ _ (by rw [h1]; exact h), h1]

/-- An operation that changes and raises nothing on either port does nothing. -/
theorem State.onOuts_id (s : State) (f : OutPort → OutPort × Half)
    (h : ∀ p o, s.port p = .output o → f o = (o, noCause)) : s.onOuts f = s := by
  unfold State.onOuts; rw [State.onOut_id _ _ _ (h .a), State.onOut_id _ _ _ (h .b)]

/-! ## Purges and the settling of streams -/

/-- What of the scheduler a purge keeps. -/
theorem State.purge_sched (s : State) (kill : PicEntry → Bool) :
    (s.purge kill).sched = { s.sched with
      safeQ := s.sched.safeQ.filter (fun e => !kill e)
      normalQ := s.sched.normalQ.filter (fun e => !kill e)
      starved := (s.purge kill).sched.starved } := by
  unfold State.purge; dsimp only; split <;> rfl

/-- STARVED after a purge is clear or as it was. -/
theorem State.purge_starved (s : State) (kill : PicEntry → Bool) :
    (s.purge kill).sched.starved = true → s.sched.starved = true := by
  unfold State.purge; dsimp only; split
  · simp only [State.judgeStarved, starvedAfter]
    split
    · simp
    · split
      · simp
      · exact id
  · exact id

/-- Every kept send-store slot was held. -/
theorem State.purge_store (s : State) (kill : PicEntry → Bool) :
    (s.purge kill).store = s.store.filter (fun x =>
      !(slotsOf s.sched.safeQ kill ++ slotsOf s.sched.normalQ kill).contains x.slot) := by
  unfold State.purge; dsimp only; split <;> rfl

/-- What of the scheduler the purges of a settling keep. -/
theorem purgeStreams_sched (l : List (BitVec 3)) (s : State) :
    let t := l.foldl (fun s i => s.purgeStream i) s
    (∃ keep : PicEntry → Bool, t.sched.safeQ = s.sched.safeQ.filter keep ∧
      t.sched.normalQ = s.sched.normalQ.filter keep) ∧
    t.sched.census = s.sched.census ∧ t.sched.msgs = s.sched.msgs ∧ t.sched.credit = s.sched.credit ∧
    t.sched.yield = s.sched.yield ∧ t.sched.yieldTime = s.sched.yieldTime ∧
    (t.sched.starved = true → s.sched.starved = true) ∧ ∀ x ∈ t.store, x ∈ s.store := by
  induction l generalizing s with
  | nil => exact ⟨⟨fun _ => true, by simp⟩, rfl, rfl, rfl, rfl, rfl, id, fun _ h => h⟩
  | cons a l ih =>
    obtain ⟨⟨keep, h1, h2⟩, h3, h4, h5, h6, h7, h8, h9⟩ := ih (s.purgeStream a)
    simp only [List.foldl_cons]
    have hs := s.purge_sched (fun e => e.index == a)
    refine ⟨⟨fun e => !(e.index == a) && keep e, ?_, ?_⟩, ?_, ?_, ?_, ?_, ?_, ?_, ?_⟩
    · rw [h1, State.purgeStream, hs]; simp only [List.filter_filter]; congr 1; funext e; exact Bool.and_comm _ _
    · rw [h2, State.purgeStream, hs]; simp only [List.filter_filter]; congr 1; funext e; exact Bool.and_comm _ _
    · rw [h3, State.purgeStream, hs]
    · rw [h4, State.purgeStream, hs]
    · rw [h5, State.purgeStream, hs]
    · rw [h6, State.purgeStream, hs]
    · rw [h7, State.purgeStream, hs]
    · intro h; exact s.purge_starved _ (h8 h)
    · intro x hx; have h10 := h9 x hx
      rw [State.purgeStream, State.purge_store] at h10
      exact (List.mem_filter.mp h10).1

/-- An input port with each stream moved to the state of R81. -/
def InPort.settled (s : State) (q : InPort) : InPort :=
  { q with streams := q.streams.map (fun k => k.moveTo (settledState s.node.state q.geometry s.view.demand k.win)) }

/-- What of the scheduler the settling of a port keeps. -/
theorem State.settlePort_sched (s : State) (p : PortId) :
    (∃ keep : PicEntry → Bool, (s.settlePort p).sched.safeQ = s.sched.safeQ.filter keep ∧
      (s.settlePort p).sched.normalQ = s.sched.normalQ.filter keep) ∧
    (s.settlePort p).sched.census = s.sched.census ∧ (s.settlePort p).sched.msgs = s.sched.msgs ∧
    (s.settlePort p).sched.credit = s.sched.credit ∧ (s.settlePort p).sched.yield = s.sched.yield ∧
    (s.settlePort p).sched.yieldTime = s.sched.yieldTime ∧
    ((s.settlePort p).sched.starved = true → s.sched.starved = true) ∧ ∀ x ∈ (s.settlePort p).store, x ∈ s.store := by
  have triv : (∃ keep : PicEntry → Bool, s.sched.safeQ = s.sched.safeQ.filter keep ∧
      s.sched.normalQ = s.sched.normalQ.filter keep) := ⟨fun _ => true, by simp⟩
  unfold State.settlePort
  split
  · rename_i q hq
    dsimp only
    rw [← List.foldl_map]
    have h := purgeStreams_sched ((newlySuspended q.streams (q.streams.map
      (fun k => k.moveTo (settledState s.node.state q.geometry s.view.demand k.win)))).map (streamIndex p))
      (s.setPort p (.input (q.settled s)))
    cases p <;> exact h
  · exact ⟨triv, rfl, rfl, rfl, rfl, rfl, id, fun _ h => h⟩
  · exact ⟨triv, rfl, rfl, rfl, rfl, rfl, id, fun _ h => h⟩

/-- What of the scheduler the settling of both ports keeps. -/
theorem State.settleStreams_sched (s : State) :
    (∃ keep : PicEntry → Bool, s.settleStreams.sched.safeQ = s.sched.safeQ.filter keep ∧
      s.settleStreams.sched.normalQ = s.sched.normalQ.filter keep) ∧
    s.settleStreams.sched.census = s.sched.census ∧ s.settleStreams.sched.msgs = s.sched.msgs ∧
    s.settleStreams.sched.credit = s.sched.credit ∧ s.settleStreams.sched.yield = s.sched.yield ∧
    s.settleStreams.sched.yieldTime = s.sched.yieldTime ∧
    (s.settleStreams.sched.starved = true → s.sched.starved = true) ∧ ∀ x ∈ s.settleStreams.store, x ∈ s.store := by
  obtain ⟨⟨k1, a1, a2⟩, a3, a4, a5, a6, a7, a8, a9⟩ := s.settlePort_sched .a
  obtain ⟨⟨k2, b1, b2⟩, b3, b4, b5, b6, b7, b8, b9⟩ := (s.settlePort .a).settlePort_sched .b
  unfold State.settleStreams
  refine ⟨⟨fun e => k2 e && k1 e, ?_, ?_⟩, by rw [b3, a3], by rw [b4, a4], by rw [b5, a5], by rw [b6, a6], by rw [b7, a7],
    fun h => a8 (b8 h), fun x h => a9 x (b9 x h)⟩
  · rw [b1, a1, List.filter_filter]
  · rw [b2, a2, List.filter_filter]

/-- Purges leave the ports as they are. -/
theorem purgeStreams_port (l : List (BitVec 3)) (s : State) (p : PortId) :
    (l.foldl (fun s i => s.purgeStream i) s).port p = s.port p := by
  induction l generalizing s with
  | nil => rfl
  | cons a l ih => rw [List.foldl_cons, ih]; cases p <;> simp [State.port]

/-- An input port after its settling: each stream moved to the state of R81. -/
theorem State.settlePort_port (s : State) (p : PortId) (q : InPort) (h : s.port p = .input q) :
    (s.settlePort p).port p = .input (q.settled s) := by
  unfold State.settlePort; rw [h]; dsimp only
  rw [← List.foldl_map, purgeStreams_port, State.setPort_port]; rfl

/-- A port other than the one settled stays, and so does one that is no input. -/
theorem State.settlePort_port_ne (s : State) (p p' : PortId) (h : p ≠ p' ∨ ∀ q, s.port p' ≠ .input q) :
    (s.settlePort p).port p' = s.port p' := by
  unfold State.settlePort
  split
  · rename_i q hq
    dsimp only
    rw [← List.foldl_map, purgeStreams_port]
    rcases h with h | h
    · rw [State.setPort_port_other _ _ _ _ h]
    · by_cases hp : p = p'
      · subst hp; exact absurd hq (h q)
      · rw [State.setPort_port_other _ _ _ _ hp]
  · rfl
  · rfl

/-- An input port after the settling of both. -/
theorem State.settleStreams_port (s : State) (p : PortId) (q : InPort) (h : s.port p = .input q) :
    s.settleStreams.port p = .input (q.settled s) := by
  unfold State.settleStreams
  cases p
  · rw [State.settlePort_port_ne _ _ _ (.inl (by decide)), s.settlePort_port .a q h]
  · rw [(s.settlePort .a).settlePort_port .b q (by rw [State.settlePort_port_ne _ _ _ (.inl (by decide)), h])]
    simp [InPort.settled]

/-- A port that is no input stays under the settling of both. -/
theorem State.settleStreams_port_out (s : State) (p : PortId) (h : ∀ q, s.port p ≠ .input q) :
    s.settleStreams.port p = s.port p := by
  unfold State.settleStreams
  have h1 := s.settlePort_port_ne .a p (.inr h)
  rw [State.settlePort_port_ne _ _ _ (.inr (by rw [h1]; exact h)), h1]

/-- A stream in the state of R81. -/
@[simp] theorem Stream.moveTo_state (st : StreamState) (k : Stream) : (k.moveTo st).state = st := by
  unfold Stream.moveTo; split
  · rename_i h; exact h.symm
  · rfl

/-! ## Nothing due -/

/-- An output port with nothing due settles to itself. -/
theorem OutPort.settle_quiet (now : Word) (o : OutPort) (h : o.quiet now = true) : o.settle = (o, noCause) := by
  simp only [OutPort.quiet, Bool.and_eq_true, Bool.not_eq_true'] at h
  obtain ⟨⟨⟨⟨⟨-, h2⟩, h3⟩, h4⟩, h5⟩, h6⟩ := h
  have a1 : o.silentLoss .main = (o, noCause) := by simp [OutPort.silentLoss, OutPort.sink, h2]
  have a2 : o.silentLoss .overlay = (o, noCause) := by
    unfold OutPort.silentLoss OutPort.sink; dsimp only
    cases hk : o.overlay with
    | none => rfl
    | some k => simp [hk] at h3; simp [h3]
  have a3 : o.holdoverEnd = (o, noCause) := by simp [OutPort.holdoverEnd, h4]
  simp [OutPort.settle, a1, a2, a3, OutPort.holdGiveUp, h5, OutPort.stretchEnd, h6]

/-- A port with nothing due is not moved by the settling that comes before its next event. -/
theorem State.settleOut_quiet (s : State) (p : PortId) (o : OutPort) (hp : s.port p = .output o)
    (h : o.quiet s.tick = true) : s.onOut p OutPort.settle = s := by
  apply State.onOut_id; intro o' ho; rw [hp] at ho; cases ho; exact o.settle_quiet _ h

/-- An event that reaches an output port with nothing due acts on the port as it stands. -/
theorem OutPort.dueFirst_quiet (now : Word) (f : OutPort → OutPort × Half) (o : OutPort) (h : o.quiet now = true) :
    o.dueFirst f = f o := by
  unfold OutPort.dueFirst; rw [o.settle_quiet now h]; simp

/-- An event that reaches an output port acts on the port as what was due there has left it. -/
theorem OutPort.dueFirst_fst (f : OutPort → OutPort × Half) (o : OutPort) : (o.dueFirst f).1 = (f o.settle.1).1 := rfl

/-- An input port whose silence is not due is not moved by the settling that comes before its next event. -/
theorem State.silenceTimeout_quiet (s : State) (p : PortId) (q : InPort) (hp : s.port p = .input q)
    (h : q.silence ≠ some 0) : s.silenceTimeout p = s := by
  unfold State.silenceTimeout; rw [hp]; simp [InPort.silent, h]

/-- A tick that finds nothing due takes nothing first (log 2). -/
theorem State.takeDue_quiet (s : State) (h : s.Quiet) : s.takeDue = s := by
  obtain ⟨h1, h2, h3, h4, h5, h6, h7, h8, h9, h10⟩ := h
  have fold : ∀ {α : Type} (f : State → α → State) (l : List α), (∀ a, f s a = s) → l.foldl f s = s := by
    intro α f l hf; induction l with
    | nil => rfl
    | cons a l ih => rw [List.foldl_cons, hf, ih]
  have e1 : s.takeEntry.setStarved.clearYield.censusExpiry = s := by
    simp [State.takeEntry, State.enterMute, State.enterStandby, h1, State.setStarved, h2, State.clearYield, h3,
      State.censusExpiry, h4]
  have e2 : ∀ l : List StationNo, l.foldl State.entryExpiry s = s := fun l => fold _ l (fun a => by
    unfold State.entryExpiry; split
    · rfl
    · rename_i e he
      have := List.all_eq_true.mp h5 e (List.mem_of_find?_eq_some he)
      simp at this; simp [this])
  have quietPort : ∀ p, (s.port p).quiet s.tick = true := by intro p; cases p <;> assumption
  have e3 : ∀ p, s.silenceTimeout p = s := by
    intro p; unfold State.silenceTimeout; split
    · rename_i q hq
      have := quietPort p
      rw [hq] at this; simp [Port.quiet] at this; simp [this]
    · rfl
    · rfl
  have e4 : ∀ l : List Byte, l.foldl State.messageTimeout s = s := fun l => fold _ l (fun a => by
    unfold State.messageTimeout; split
    · rfl
    · rename_i m hm
      have := List.all_eq_true.mp h6 m (List.mem_of_find?_eq_some hm)
      simp at this; simp [this])
  have e5 : s.reverseDebounced = s := by simp [State.reverseDebounced, h7]
  have out : ∀ p o, s.port p = .output o → o.quiet s.tick = true := by
    intro p o ho; have := quietPort p; rw [ho] at this; exact this
  have e6 : s.onOuts (OutPort.deadlineExpiry s.tick) = s := by
    apply State.onOuts_id; intro p o ho; have := out p o ho
    simp [OutPort.quiet] at this; simp [OutPort.deadlineExpiry, this]
  have e7 : s.wakePin = s := by simp [State.wakePin, h8]
  have e8 : s.settleOuts = s := by
    apply State.onOuts_id; intro p o ho; exact o.settle_quiet _ (out p o ho)
  unfold State.takeDue
  simp only [e1, e2, e3, e4, e5, e6, e7, e8]

end Sys2Proof.Machine
end

