-- ==== Sys2Proof/Laws/Copies.lean ====
section
/-! SUPPORT. What the copies of a parcel do to the sink records, and what a bad end leaves of them. -/

namespace Sys2Proof.Machine

/-- A port with one operation made on the records that a list names. -/
def Port.mapNamed (q : Port) (p : PortId) (l : List SinkId) (f : Sink → Sink) : Port :=
  match q with
  | .output o =>
    .output { o with
      main := if ⟨p, .main⟩ ∈ l then f o.main else o.main
      overlay := if ⟨p, .overlay⟩ ∈ l then o.overlay.map f else o.overlay }
  | .input i => .input i
  | .unused k => .unused k

/-- A port after an operation that raises nothing, made on one record. -/
theorem State.onSink_port (s : State) (k : SinkId) (f : Sink → Sink) (p : PortId) :
    (s.onOut k.port (fun o => (o.mapSink k.role f, noCause))).port p = (s.port p).mapNamed p [k] f := by
  by_cases hk : k.port = p
  · obtain ⟨kp, kr⟩ := k
    obtain rfl : kp = p := hk
    cases hq : s.port kp with
    | output o => rw [s.onOut_port _ o _ hq]; cases kr <;> simp [Port.mapNamed, OutPort.mapSink]
    | input i => rw [s.onOut_port_in _ _ _ (by simp [hq]), hq]; rfl
    | unused i => rw [s.onOut_port_in _ _ _ (by simp [hq]), hq]; rfl
  · obtain ⟨kp, kr⟩ := k
    have h : ∀ x : Role, (⟨p, x⟩ : SinkId) ≠ ⟨kp, kr⟩ := by rintro x h; cases h; exact hk rfl
    rw [s.onOut_port_ne _ _ _ hk]
    cases s.port p <;> simp [Port.mapNamed, h]

/-- The ports after an operation that raises nothing, made on different records one after the other. -/
theorem State.onSinks_port (f : Sink → Sink) (p : PortId) (l : List SinkId) (s : State) (h : l.Nodup) :
    (l.foldl (fun s k => s.onOut k.port (fun o => (o.mapSink k.role f, noCause))) s).port p =
      (s.port p).mapNamed p l f := by
  induction l generalizing s with
  | nil => cases hq : s.port p <;> simp [Port.mapNamed, hq]
  | cons k ks ih =>
    obtain ⟨hk, hks⟩ := List.nodup_cons.mp h
    rw [List.foldl_cons, ih _ hks, s.onSink_port]
    cases s.port p with
    | output o =>
      simp only [Port.mapNamed, List.mem_cons]
      congr 2
      · by_cases h1 : (⟨p, .main⟩ : SinkId) = k
        · subst h1; simp [hk]
        · simp [h1]
      · by_cases h1 : (⟨p, .overlay⟩ : SinkId) = k
        · subst h1; simp [hk]
        · simp [h1]
    | input i => rfl
    | unused i => rfl

/-- The ports after the end of a line (R28, R102). -/
theorem State.finishLine_port (s : State) (l : List SinkId) (good : Bool) (p : PortId) (h : l.Nodup) :
    (s.finishLine l good).port p = (s.port p).mapNamed p l (Sink.finish good) :=
  State.onSinks_port _ p l s h

/-- The ports after a payload word of a line (R28, R102). -/
theorem State.writeLine_port (s : State) (l : List SinkId) (ps : List Pixel) (p : PortId) (h : l.Nodup) :
    (s.writeLine l ps).port p = (s.port p).mapNamed p l (Sink.write ps) :=
  State.onSinks_port _ p l s h

/-- The bad end of a line withdraws it (R28, R97, R102). -/
theorem Sink.finish_bad (k : Sink) : k.finish false = k.withdrawn := by
  cases h : k.cur with
  | none => simp [Sink.finish, Sink.withdrawn, Sink.fillingCurrent, h]
  | some f =>
    have e : ∀ r : LineRec, ((f.no == r.frame) : Bool) = (r.frame == f.no) := fun r => Bool.beq_comm
    simp [Sink.finish, Sink.withdrawn, Sink.fillingCurrent, h, e]

/-- What the Parcel Filter does at a bad end (R26, R28, R35): only a forwarded line or message under the full decision, or
an own message that comes back, is touched. -/
theorem State.filterEnd_bad (s : State) (r : Reception) :
    s.filterEnd r false =
      if r.repeater then s
      else
        match r.course, r.kind with
        | .forward, .line => s.finishLine r.lineTo false
        | .forward, .message => if r.reserved then s.withdraw else s
        | .strip, .message => s.returnReport r.payload false r.hdr.flags
        | _, _ => s := by
  unfold State.filterEnd
  cases r.course <;> cases r.repeater <;> cases r.kind <;> simp [State.messageEnd]

/-- A cause just raised is pending. -/
theorem State.isPending_raise (s : State) (c : Cause) : (s.raise c.bit).isPending c = true := by
  have h : ∀ x b : Half, b ≠ 0 → (x ||| b) &&& b ≠ 0 := by
    intro x b hb e
    apply hb
    have : (x ||| b) &&& b = b := by
      ext i hi
      simp
      exact fun h => .inr h
    rw [this] at e; exact e
  have := h s.att.pending c.bit (by cases c <;> decide)
  simpa [State.raise, State.isPending] using this

/-- A bad end at the Parcel Filter takes back what was copied (R5, R8, R9, R12). -/
theorem State.filterEnd_endsBad (s : State) (r : Reception) : s.EndsBad r (s.filterEnd r false) where
  line hc hr hk hn p := by
    have h := s.finishLine_port r.lineTo false p hn
    rw [show Sink.finish false = Sink.withdrawn from funext Sink.finish_bad] at h
    simp only [s.filterEnd_bad, hc, hr, hk, Bool.false_eq_true, if_false, h]
    refine ⟨fun o ho => by rw [ho]; rfl, fun ho => ?_⟩
    cases hq : s.port p with
    | output o => exact absurd hq (ho o)
    | input i => rfl
    | unused k => rfl
  ports h := by
    rw [s.filterEnd_bad]
    cases hr : r.repeater <;> cases hc : r.course <;> cases hk : r.kind <;> cases hv : r.reserved <;> simp_all
  entry hc hr hk hv ready x hi ha hx := by
    have e : ready.filter InMessage.complete = ready := List.filter_eq_self.mpr ha
    simp [s.filterEnd_bad, hc, hr, hk, hv, State.withdraw, hi, e, hx]
  returned hc hr hk w ws m hp hm := by
    simp only [s.filterEnd_bad, hc, hr, hk, State.returnReport, hp, hm, Bool.false_eq_true, if_false]
    exact ⟨State.isPending_raise _ _, _, rfl, rfl, rfl⟩
  svc h := by
    rw [s.filterEnd_bad]
    cases hr : r.repeater <;> cases hc : r.course <;> cases hk : r.kind <;> cases hv : r.reserved <;>
      simp_all [State.returnReport]
  rest := by
    rw [s.filterEnd_bad]
    cases r.repeater <;> cases r.course <;> cases r.kind <;> cases r.reserved <;> simp

/-- A bad end of the parcel in reception takes back what was copied (R5, R8, R9, R12). -/
theorem State.endParcel_endsBad (s : State) (r : Reception) : s.EndsBad r (s.endParcel r false) := by
  have h : ∀ l : RingPort, s.EndsBad r (({ s with link := l } : State).filterEnd r false) := by
    intro l
    have e := ({ s with link := l } : State).filterEnd_endsBad r
    refine ⟨fun a b c d p => ?_, e.ports, e.entry, e.returned, e.svc, e.rest⟩
    have := e.line a b c d p
    cases p <;> exact this
  unfold State.endParcel
  split_ifs <;> exact h _

end Sys2Proof.Machine
end

