-- ==== Sys2Proof/Laws/Images.lean ====
section
/-! SUPPORT. What each part of the image check admits: a section it takes lies in the ranges of the manual. -/

namespace Sys2Proof.Machine

/-- A window section that is taken (R79, R184). -/
theorem windowOf_checked (s : Section) (w : Window) (h : windowOf s = some w) (h2 : w.enabledOk true = true) :
    w.Checked := by
  unfold windowOf at h
  split at h
  · rename_i f c hf hc
    split_ifs at h with h3
    simp at h3
    simp at h
    subst h
    simp [Window.enabledOk] at h2
    constructor <;> simp <;> try omega
    · intro h
      subst h
      unfold windowClass at hc
      split at hc <;> simp at hc
    · intro h
      rcases h2 with h2 | h2
      · simp [h] at h2
      · simpa [imp_iff_not_or] using h2
  · simp at h

theorem Window.disabled_checked : Window.disabled.Checked := by constructor <;> simp [Window.disabled]

/-- A sink record section that is taken (R94). -/
theorem sinkOf_checked (s : Section) (k : SinkCfg) (h : sinkOf s = some k) : k.Checked := by
  unfold sinkOf at h
  split at h
  · split_ifs at h with h3
    simp at h3
    simp at h
    subst h
    constructor <;> simp <;> omega
  · simp at h

/-- An output port section that is taken (R115, R133, R153, R184). -/
theorem outCfgOf_checked (s : Section) (c : OutCfg) (h : outCfgOf s = some c) : c.Checked := by
  unfold outCfgOf at h
  split at h
  · dsimp only at h
    split_ifs at h with h3
    simp only [Option.some.injEq] at h
    rw [h] at h3
    simp [OutCfg.timingOk, OutCfg.lockOk, OutCfg.cameraOk, within] at h3
    constructor <;> omega
  · simp at h

/-- A section that may be missing, when it is there. -/
theorem parseOpt_some {α : Type} (f : Section → Option α) (o : Option Section) (x : α)
    (h : parseOpt f o = some (some x)) : ∃ s, f s = some x := by
  unfold parseOpt at h
  split at h
  · simp at h
  · rename_i s
    simp at h
    exact ⟨s, h⟩

/-- The four windows of a port: each from a section, or not enabled (R184). -/
theorem windowsOf_spec (ss : List Section) (p : Nat) (ws : List Window) (h : windowsOf ss p = some ws) :
    ws.length = 4 ∧ ∀ w ∈ ws, w = Window.disabled ∨ ∃ s, windowOf s = some w := by
  have gen : ∀ (l : List Nat) (ws : List Window),
      (l.foldr
        (fun i acc =>
          match parseOpt windowOf (findSection ss 3 (4 * p + i)), acc with
          | some w, some ws => some (w.getD Window.disabled :: ws)
          | _, _ => none)
        (some [])) = some ws →
      ws.length = l.length ∧ ∀ w ∈ ws, w = Window.disabled ∨ ∃ s, windowOf s = some w := by
    intro l
    induction l with
    | nil => intro ws h; simp at h; subst h; simp
    | cons a l ih =>
      intro ws h
      simp only [List.foldr_cons] at h
      split at h
      · rename_i w ws' h1 h2
        simp only [Option.some.injEq] at h
        subst h
        obtain ⟨e1, e2⟩ := ih ws' h2
        refine ⟨by simp [e1], fun x hx => ?_⟩
        simp only [List.mem_cons] at hx
        rcases hx with rfl | hx
        · cases w with
          | none => exact Or.inl rfl
          | some w => exact Or.inr (parseOpt_some _ _ _ h1)
        · exact e2 x hx
      · simp at h
  exact gen _ _ h

/-- A port that is taken (R94, R115, R153, R176). -/
theorem portOf_checked (ss : List Section) (p : Nat) (c : PortCfg) (h : portOf ss p = some c) : c.Checked := by
  unfold portOf at h
  split at h
  · rename_i ws main ov h1 h2 h3
    split at h
    · split_ifs at h
      simp at h
      subst h
      trivial
    · rename_i s hs
      split at h
      · split_ifs at h
        simp at h
        subst h
        trivial
      · split at h
        · split_ifs at h with h4
          simp at h
          subst h
          obtain ⟨e1, e2⟩ := windowsOf_spec _ _ _ h1
          refine ⟨e1, fun w hw => ?_⟩
          rcases e2 w hw with rfl | ⟨s, e⟩
          · exact Window.disabled_checked
          · simp at h4
            exact windowOf_checked s w e (h4.2 w hw)
        · simp at h
      · split at h
        · rename_i _ _ c m hc
          split_ifs at h with h4
          simp at h
          subst h
          obtain ⟨s1, e1⟩ := parseOpt_some _ _ _ h2
          simp [outputOk] at h4
          refine ⟨outCfgOf_checked _ _ hc, sinkOf_checked _ _ e1, h4.1.1, ?_, fun k hk => ?_⟩
          · intro h
            cases ov <;> simp_all
          · subst hk
            obtain ⟨s2, e2⟩ := parseOpt_some _ _ _ h3
            simp at h4
            exact ⟨sinkOf_checked _ _ e2, h4.1.2⟩
        · simp at h
      · simp at h
  · simp at h

end Sys2Proof.Machine
end

