-- ==== Sys2Proof/Laws/Outputs.lean ====
section
/-! SUPPORT. What the take-over, the Frame Lock's consultation, the merge of an overlay line and a camera engage do to an
output port, said once for each. -/

namespace Sys2Proof.Machine

/-- The lock judgement moves LOCKED and its counts alone (R126). -/
theorem FrameLock.judge_frame (c : OutCfg) (e : Int) (l : FrameLock) :
    (l.judge c e).1.state = l.state ∧ (l.judge c e).1.lastLead = l.lastLead ∧ (l.judge c e).1.stretch = l.stretch ∧
      (l.judge c e).1.linesAdded = l.linesAdded ∧ (l.judge c e).1.inc = l.inc ∧ (l.judge c e).1.integ = l.integ := by
  unfold FrameLock.judge; split_ifs <;> simp

/-- The sixth duty of an output frame start leaves the records and, of the Presenter, all but its position (R135). -/
theorem OutPort.consult_frame (o : OutPort) :
    o.consult.1.main = o.main ∧ o.consult.1.overlay = o.overlay ∧ o.consult.1.cfg = o.cfg ∧ o.consult.1.cam = o.cam ∧
      o.consult.1.pres.blank = o.pres.blank ∧ o.consult.1.pres.fillFrame = o.pres.fillFrame ∧
      o.consult.1.pres.cutDone = o.pres.cutDone ∧ (o.pres.nextLine = 0 → o.consult.1.pres.nextLine = 0) ∧
      o.consult.1.pres.pixel = o.pres.pixel ∧ o.consult.1.pres.driven = o.pres.driven ∧ o.consult.1.pres.ahead = o.pres.ahead ∧
      o.consult.1.pres.gen = o.pres.gen ∧ o.consult.1.pres.lastLine = o.pres.lastLine ∧
      (o.consult.1.pres.pos = .added ∨ o.consult.1.pres.pos = .active) := by
  unfold OutPort.consult
  cases o.lock.state <;> dsimp only <;> (try split_ifs) <;>
    simp [OutPort.endStretch, Presenter.toActive, OutPort.acquireTrack, OutPort.compute, OutPort.beginStretch]

/-- A take-over reaches one record, and the Frame Lock from MAIN (R98). -/
theorem OutPort.takeOver_frame (t : List TableEntry) (role : Role) (o : OutPort) :
    (o.takeOver t role).1.cfg = o.cfg ∧ (o.takeOver t role).1.pres = o.pres ∧ (o.takeOver t role).1.cam = o.cam ∧
      (role = .main → (o.takeOver t role).1.overlay = o.overlay) ∧
      (role = .overlay → (o.takeOver t role).1.main = o.main ∧ (o.takeOver t role).1.lock = o.lock) := by
  unfold OutPort.takeOver
  cases role <;> simp only [OutPort.sink]
  · cases o.main.shadow <;> simp [OutPort.subscribe, OutPort.mapSink]
    split_ifs <;> simp
  · cases ho : o.overlay with
    | none => simp
    | some k =>
      cases hs : k.shadow with
      | none => simp [hs]
      | some v =>
        simp only [hs, OutPort.subscribe, OutPort.mapSink, ho]
        split_ifs <;> simp

/-- A take-over of MAIN that changes the subscription (R97, R98). -/
theorem OutPort.takeOver_main_change (t : List TableEntry) (o : OutPort) (v : Placed) (h : o.main.shadow = some v)
    (hv : v.sub ≠ o.main.active) :
    (o.takeOver t .main).2 = true ∧ (o.takeOver t .main).1.main.active = v.sub ∧
      (o.takeOver t .main).1.main.shadow = none ∧ (o.takeOver t .main).1.main.cur = none ∧
      (o.takeOver t .main).1.main.queue = [] := by
  unfold OutPort.takeOver
  simp [OutPort.sink, h, OutPort.subscribe, Ne.symm hv, OutPort.mapSink, Sink.change]

/-- A take-over of MAIN that changes no subscription (R98). -/
theorem OutPort.takeOver_main_same (t : List TableEntry) (o : OutPort)
    (hv : ∀ v, o.main.shadow = some v → v.sub = o.main.active) :
    o.takeOver t .main = ({ o with main := { o.main with shadow := none } }, false) := by
  unfold OutPort.takeOver
  simp only [OutPort.sink]
  cases hs : o.main.shadow with
  | none =>
    cases hm : o.main
    rw [hm] at hs
    simp at hs
    subst hs
    cases o
    simp at hm
    subst hm
    rfl
  | some v =>
    have := hv v hs
    simp [OutPort.subscribe, this, OutPort.mapSink]

/-- After a take-over MAIN has no shadow (R98). -/
theorem OutPort.takeOver_main_shadow (t : List TableEntry) (o : OutPort) : (o.takeOver t .main).1.main.shadow = none := by
  by_cases hv : ∀ v, o.main.shadow = some v → v.sub = o.main.active
  · rw [OutPort.takeOver_main_same t o hv]
  · push Not at hv
    obtain ⟨v, h, h2⟩ := hv
    exact (OutPort.takeOver_main_change t o v h h2).2.2.1

/-- A take-over of OVERLAY (R98). -/
theorem OutPort.takeOver_overlay (t : List TableEntry) (o : OutPort) (k : Sink) (h : o.overlay = some k) :
    ∃ k', (o.takeOver t .overlay).1.overlay = some k' ∧ k'.shadow = none ∧ k'.cfg = k.cfg ∧
      (∀ v, k.shadow = some v → k'.active = v.sub ∧ k'.x = v.x ∧ k'.y = v.y ∧
        ((o.takeOver t .overlay).2 = true ↔ v.sub ≠ k.active)) ∧
      (k.shadow = none → k' = k ∧ (o.takeOver t .overlay).2 = false) := by
  unfold OutPort.takeOver
  cases hs : k.shadow with
  | none => simp [OutPort.sink, h, hs]
  | some v =>
    simp only [OutPort.sink, h, hs, OutPort.subscribe]
    by_cases ha : k.active = v.sub
    · simp [ha, OutPort.mapSink, h]
    · simp [ha, OutPort.mapSink, Sink.change, Sink.closeTorn]
      exact fun e => ha e.symm

/-- A pixel of an overlaid line: the overlay's, but where it has none or it has the key colour (R143). -/
theorem overlayOn_getElem? (key : Option Pixel) (ms os : List Pixel) (c : Nat) :
    (overlayOn key ms os)[c]? =
      match os[c]? with
      | none => ms[c]?
      | some v => if key = some v then ms[c]? else (ms[c]?).map (fun _ => v) := by
  induction ms generalizing os c with
  | nil => cases os <;> simp [overlayOn]; split <;> simp
  | cons m ms ih =>
    cases os with
    | nil => simp [overlayOn]
    | cons o os =>
      cases c with
      | zero => simp [overlayOn]; split_ifs <;> simp
      | succ c => simp [overlayOn, ih]

@[simp] theorem overlayOn_length (key : Option Pixel) (ms os : List Pixel) : (overlayOn key ms os).length = ms.length := by
  induction ms generalizing os with
  | nil => cases os <;> simp [overlayOn]
  | cons m ms ih => cases os <;> simp [overlayOn, ih]

/-- A merged line has the main line's width (R143). -/
@[simp] theorem merge_length (key : Option Pixel) (ix : Nat) (main ov : List Pixel) :
    (merge key ix main ov).length = main.length := by
  simp [merge]; omega

/-- A pixel of a merged line (R142, R143). -/
theorem merge_getElem? (key : Option Pixel) (ix : Nat) (main ov : List Pixel) (c : Nat) (hc : c < main.length) :
    (merge key ix main ov)[c]? =
      match ov[c - ix]? with
      | none => main[c]?
      | some v => if c < ix ∨ key = some v then main[c]? else some v := by
  unfold merge
  by_cases h : c < ix
  · rw [List.getElem?_append_left (by simp; omega), List.getElem?_take]
    simp [h]
    split <;> rfl
  · rw [List.getElem?_append_right (by simp; omega)]
    simp only [List.length_take, overlayOn_getElem?, List.getElem?_drop]
    have e1 : c - min ix main.length = c - ix := by omega
    have e2 : ix + (c - ix) = c := by omega
    rw [e1, e2]
    simp [h]
    split
    · rfl
    · split_ifs
      · rfl
      · rw [List.getElem?_eq_getElem hc]
        rfl

/-- The published demand recomputed is that of the ports and the table (R71). -/
theorem State.recomputeDemand_demand (s : State) : s.recomputeDemand.view.demand = s.demandOf := by
  unfold State.recomputeDemand
  split_ifs with h
  · exact h.symm
  · simp

/-- A new published demand reaches no output port (R82). -/
theorem State.recomputeDemand_port_out (s : State) (p : PortId) (o : OutPort) (h : s.port p = .output o) :
    s.recomputeDemand.port p = .output o := by
  unfold State.recomputeDemand
  split_ifs
  · exact h
  · rw [State.settleStreams_port_out]
    · cases p <;> simpa [State.port] using h
    · cases p <;> simp_all [State.port]

/-- An engaged port of this station makes the own demand (R159). -/
theorem State.ownDemand_of_port (s : State) (p : PortId) (o : OutPort) (h : s.port p = .output o)
    (he : o.engaged = true) : s.ownDemand = true := by
  unfold State.ownDemand
  cases p <;> simp_all [State.port, Port.outAnd]

/-! ## The end of the last active line, and the cut (R134, R138) -/

@[simp] theorem Presenter.roll_line (c : OutCfg) (p : Presenter) : (p.roll c).line = p.line := by
  unfold Presenter.roll; split_ifs <;> rfl
@[simp] theorem Presenter.roll_nextLine (c : OutCfg) (p : Presenter) : (p.roll c).nextLine = p.nextLine := by
  unfold Presenter.roll; split_ifs <;> rfl
@[simp] theorem Presenter.roll_lastLine (c : OutCfg) (p : Presenter) : (p.roll c).lastLine = p.lastLine := by
  unfold Presenter.roll; split_ifs <;> rfl
@[simp] theorem Presenter.roll_gen (c : OutCfg) (p : Presenter) : (p.roll c).gen = p.gen := by
  unfold Presenter.roll; split_ifs <;> rfl
@[simp] theorem Presenter.roll_blank (c : OutCfg) (p : Presenter) : (p.roll c).blank = p.blank := by
  unfold Presenter.roll; split_ifs <;> rfl
@[simp] theorem Presenter.roll_fillFrame (c : OutCfg) (p : Presenter) : (p.roll c).fillFrame = p.fillFrame := by
  unfold Presenter.roll; split_ifs <;> rfl
@[simp] theorem Presenter.roll_cutDone (c : OutCfg) (p : Presenter) : (p.roll c).cutDone = p.cutDone := by
  unfold Presenter.roll; split_ifs <;> rfl
@[simp] theorem Presenter.roll_stopPending (c : OutCfg) (p : Presenter) : (p.roll c).stopPending = p.stopPending := by
  unfold Presenter.roll; split_ifs <;> rfl
@[simp] theorem Presenter.roll_repeated (c : OutCfg) (p : Presenter) : (p.roll c).repeated = p.repeated := by
  unfold Presenter.roll; split_ifs <;> rfl
@[simp] theorem Presenter.roll_underrun (c : OutCfg) (p : Presenter) : (p.roll c).underrun = p.underrun := by
  unfold Presenter.roll; split_ifs <;> rfl

/-- Where no last active line is over, the blanking does not begin. -/
theorem Presenter.roll_stays (c : OutCfg) (p : Presenter) (h : p.pos ≠ .active ∨ p.pixel < c.ht) : p.roll c = p := by
  unfold Presenter.roll; split_ifs with hr
  · rcases h with h | h
    · exact absurd hr.1 h
    · omega
  · rfl

/-- What a cut does to the Presenter: the flag, and the skipped active lines, the blanking begun where the line in progress is
over. -/
theorem OutPort.cut_pres (o : OutPort) (h1 : o.pres.pos ≠ .stopped) (h2 : o.pres.cutDone = false) :
    o.cut.pres =
      if o.pres.pos = .active ∧ 0 < o.pres.nextLine then
        (if o.cfg.ht ≤ o.pres.pixel then
          { o.pres with
            cutDone := true, nextLine := o.cfg.va, pos := .blanking, pixel := o.pres.pixel - o.cfg.ht
            driven := [], ahead := [] }
        else { o.pres with cutDone := true, nextLine := o.cfg.va })
      else { o.pres with cutDone := true } := by
  unfold OutPort.cut
  rw [if_neg (by simp [h1, h2])]
  dsimp only
  split_ifs with ha hb
  · simp [Presenter.roll, ha.1, hb]
  · rw [Presenter.roll_stays]; right; simpa using hb
  · rfl

/-- A cut touches the Presenter alone. -/
theorem OutPort.cut_rest (o : OutPort) : o.cut = { o with pres := o.cut.pres } := by
  unfold OutPort.cut; split_ifs <;> rfl

/-- What an engage does to a FULL port (R137, R138, R154). -/
theorem OutPort.engageFull_spec (t : List TableEntry) (now : Word) (o : OutPort) :
    let o' := o.engageFull t now
    o'.cfg = o.cfg ∧ o'.main.active = some o.cfg.camStream ∧ o'.main.shadow = none ∧ o'.pres.blank = 0 ∧
      ((o.pres.pos ≠ .active ∨ o.pres.pixel < o.cfg.ht) → o'.pres.pos = o.pres.pos) ∧
      (o.pres.pos = .active → o'.pres.pos ≠ .stopped) ∧ o'.pres.stopPending = o.pres.stopPending ∧
      o'.cam = { state := .switching, deadline := o.cfg.deadline now, insetHold := o.cam.insetHold
                 resume := some { sub := o.main.held.sub, x := o.main.x, y := o.main.y } } ∧
      (o.main.active = some o.cfg.camStream →
        o'.lock = o.lock ∧ o'.main.cur = o.main.cur ∧ o'.pres.cutDone = o.pres.cutDone) ∧
      (o.main.active ≠ some o.cfg.camStream →
        o'.lock.state = .acquire ∧ o'.lock.integ = 0 ∧ o'.main.cur = none ∧ o'.main.queue = [] ∧
          (o.pres.pos ≠ .stopped → o'.pres.cutDone = true)) := by
  unfold OutPort.engageFull
  by_cases ha : o.main.active = some o.cfg.camStream
  · simp [OutPort.subscribe, ha, OutPort.switching]
    intro h; simp [h]
  · simp [OutPort.subscribe, ha, OutPort.switching, OutPort.cut, Sink.change, FrameLock.onSubscribe,
      FrameLock.enterAcquire]
    split_ifs <;> simp_all [Sink.closeTorn, Presenter.roll]
    all_goals first
      | tauto
      | (split_ifs <;> simp; omega)

/-! ## Pixels driven in pieces (R145, R146) -/

/-- A line driven in two pieces is the line driven whole. -/
theorem driveLine_append (c : OutCfg) (g : Half) (a b : List Pixel) : driveLine c g (a ++ b) =
    ((driveLine c g a).1 ++ (driveLine c (driveLine c g a).2 b).1, (driveLine c (driveLine c g a).2 b).2) := by
  induction a generalizing g with
  | nil => rfl
  | cons p ps ih => simp only [List.cons_append, driveLine, ih]

/-- Pixel periods given one after the other drive what they drive together. -/
theorem Presenter.drive_add (c : OutCfg) (m n : Nat) (p : Presenter) : (p.drive c m).drive c n = p.drive c (m + n) := by
  simp only [Presenter.drive, List.take_add, List.drop_drop, driveLine_append, List.append_assoc]

/-- Driving pixels touches the pixels and the generator alone. -/
theorem Presenter.drive_rest (c : OutCfg) (n : Nat) (p : Presenter) :
    p.drive c n = { p with
      driven := (p.drive c n).driven, gen := (p.drive c n).gen, ahead := (p.drive c n).ahead } := rfl

@[simp] theorem Presenter.drive_pos (c : OutCfg) (n : Nat) (p : Presenter) : (p.drive c n).pos = p.pos := rfl
@[simp] theorem Presenter.drive_line (c : OutCfg) (n : Nat) (p : Presenter) : (p.drive c n).line = p.line := rfl
@[simp] theorem Presenter.drive_nextLine (c : OutCfg) (n : Nat) (p : Presenter) : (p.drive c n).nextLine = p.nextLine := rfl
@[simp] theorem Presenter.drive_pixel (c : OutCfg) (n : Nat) (p : Presenter) : (p.drive c n).pixel = p.pixel := rfl

/-- A subscription change of MAIN leaves the holdover frame count at 0 (log 57). -/
@[simp] theorem FrameLock.onSubscribe_holdCount (c : OutCfg) (direct : Bool) (sub : Option StreamId) (l : FrameLock) :
    (l.onSubscribe c direct sub).holdCount = 0 := by cases sub <;> rfl

end Sys2Proof.Machine
end

