-- ==== Sys2Proof/Laws/PerInstr.lean ====
section
/-! SUPPORT. Facts about the commands as syntax, one lemma for each constructor. -/

namespace Sys2Proof.Laws

/-- The argument bytes of a request frame that is taken, or the image bytes of a flash read; none of another command. -/
def carried : Instr → List Byte
  | .coldReset => []
  | .resetRelease _ => []
  | .imageAccepted flash => flash
  | .imageRejected flash => flash
  | .signalPresent => []
  | .lossOfSignal => []
  | .alignUnit _ => []
  | .sopReceived => []
  | .strayUnit _ => []
  | .codingViolation => []
  | .headerEvent _ => []
  | .payloadWord _ => []
  | .endEvent _ => []
  | .parcelStart => []
  | .cutThroughStart => []
  | .parcelEndSent => []
  | .enterMute => []
  | .enterStandby => []
  | .microsecondTick _ _ => []
  | .starvedSet => []
  | .yieldExpiry => []
  | .censusTimerExpiry => []
  | .tableEntryExpiry _ => []
  | .silenceTimeout _ => []
  | .messageTimeout _ => []
  | .reverseDebounced => []
  | .cameraDeadlineExpiry _ => []
  | .wakePin => []
  | .inputFrameStart _ => []
  | .activePixel _ _ _ _ => []
  | .inputLineEnd _ => []
  | .outputFrameStart _ => []
  | .silentFramesLost _ _ => []
  | .holdoverExpiry _ => []
  | .addedLineEnd _ => []
  | .holdGiveUp _ => []
  | .stretchLimit _ => []
  | .activeLineStart _ => []
  | .portStop _ => []
  | .requestFrameDiscarded _ => []
  | .readFrame _ => []
  | .unknownRequest _ args => args
  | .showStream args => args
  | .inset args => args
  | .probe args => args
  | .send args => args
  | .take args => args
  | .result args => args
  | .status args => args
  | .attention args => args
  | .clear args => args
  | .camera args => args
  | .standby args => args
  | .wake args => args
  | .restart args => args
  | .wordSent => []
  | .headerWord _ => []

/-- A well-formed command carries no more bytes than its frame or its flash read can: 255 arguments (12.5), or the 1024
words of the longest image (R176). -/
def WellFormed.Statement (i : Instr) : Prop :=
  i.wf = true →
    (carried i).length ≤ 4 * Config.imageWords ∧
      ((carried i).length ≤ 255 ∨ ∃ f, i = .imageAccepted f ∨ i = .imageRejected f)

/-- A command that carries nothing. -/
theorem statement_of_none (i : Instr) (h : carried i = []) : WellFormed.Statement i := by
  intro _; simp [h]

/-- A request. -/
theorem statement_of_args (i : Instr) (h : i.wf = true → (carried i).length ≤ 255) : WellFormed.Statement i := by
  intro hw; have := h hw; simp only [Config.imageWords]; exact ⟨by omega, .inl this⟩

theorem WellFormed.coldReset : WellFormed.Statement (.coldReset) :=
  statement_of_none _ rfl
theorem WellFormed.resetRelease (straps : StationNo) : WellFormed.Statement (.resetRelease straps) :=
  statement_of_none _ rfl
theorem WellFormed.imageAccepted (flash : List Byte) : WellFormed.Statement (.imageAccepted flash) := by
  intro h; exact ⟨by simpa [Instr.wf, carried] using h, .inr ⟨flash, by simp⟩⟩
theorem WellFormed.imageRejected (flash : List Byte) : WellFormed.Statement (.imageRejected flash) := by
  intro h; exact ⟨by simpa [Instr.wf, carried] using h, .inr ⟨flash, by simp⟩⟩
theorem WellFormed.signalPresent : WellFormed.Statement (.signalPresent) :=
  statement_of_none _ rfl
theorem WellFormed.lossOfSignal : WellFormed.Statement (.lossOfSignal) :=
  statement_of_none _ rfl
theorem WellFormed.alignUnit (u : RxUnit) : WellFormed.Statement (.alignUnit u) :=
  statement_of_none _ rfl
theorem WellFormed.sopReceived : WellFormed.Statement (.sopReceived) :=
  statement_of_none _ rfl
theorem WellFormed.strayUnit (u : RxUnit) : WellFormed.Statement (.strayUnit u) :=
  statement_of_none _ rfl
theorem WellFormed.codingViolation : WellFormed.Statement (.codingViolation) :=
  statement_of_none _ rfl
theorem WellFormed.headerEvent (w : Word) : WellFormed.Statement (.headerEvent w) :=
  statement_of_none _ rfl
theorem WellFormed.payloadWord (w : Word) : WellFormed.Statement (.payloadWord w) :=
  statement_of_none _ rfl
theorem WellFormed.endEvent (e : EndSymbol) : WellFormed.Statement (.endEvent e) :=
  statement_of_none _ rfl
theorem WellFormed.parcelStart : WellFormed.Statement (.parcelStart) :=
  statement_of_none _ rfl
theorem WellFormed.cutThroughStart : WellFormed.Statement (.cutThroughStart) :=
  statement_of_none _ rfl
theorem WellFormed.parcelEndSent : WellFormed.Statement (.parcelEndSent) :=
  statement_of_none _ rfl
theorem WellFormed.enterMute : WellFormed.Statement (.enterMute) :=
  statement_of_none _ rfl
theorem WellFormed.enterStandby : WellFormed.Statement (.enterStandby) :=
  statement_of_none _ rfl
theorem WellFormed.microsecondTick (reverse wake : Bool) : WellFormed.Statement (.microsecondTick reverse wake) :=
  statement_of_none _ rfl
theorem WellFormed.starvedSet : WellFormed.Statement (.starvedSet) :=
  statement_of_none _ rfl
theorem WellFormed.yieldExpiry : WellFormed.Statement (.yieldExpiry) :=
  statement_of_none _ rfl
theorem WellFormed.censusTimerExpiry : WellFormed.Statement (.censusTimerExpiry) :=
  statement_of_none _ rfl
theorem WellFormed.tableEntryExpiry (station : StationNo) : WellFormed.Statement (.tableEntryExpiry station) :=
  statement_of_none _ rfl
theorem WellFormed.silenceTimeout (p : PortId) : WellFormed.Statement (.silenceTimeout p) :=
  statement_of_none _ rfl
theorem WellFormed.messageTimeout (tag : Byte) : WellFormed.Statement (.messageTimeout tag) :=
  statement_of_none _ rfl
theorem WellFormed.reverseDebounced : WellFormed.Statement (.reverseDebounced) :=
  statement_of_none _ rfl
theorem WellFormed.cameraDeadlineExpiry (p : PortId) : WellFormed.Statement (.cameraDeadlineExpiry p) :=
  statement_of_none _ rfl
theorem WellFormed.wakePin : WellFormed.Statement (.wakePin) :=
  statement_of_none _ rfl
theorem WellFormed.inputFrameStart (p : PortId) : WellFormed.Statement (.inputFrameStart p) :=
  statement_of_none _ rfl
theorem WellFormed.activePixel (p : PortId) (r g b : Component) : WellFormed.Statement (.activePixel p r g b) :=
  statement_of_none _ rfl
theorem WellFormed.inputLineEnd (p : PortId) : WellFormed.Statement (.inputLineEnd p) :=
  statement_of_none _ rfl
theorem WellFormed.outputFrameStart (p : PortId) : WellFormed.Statement (.outputFrameStart p) :=
  statement_of_none _ rfl
theorem WellFormed.silentFramesLost (p : PortId) (role : Role) : WellFormed.Statement (.silentFramesLost p role) :=
  statement_of_none _ rfl
theorem WellFormed.holdoverExpiry (p : PortId) : WellFormed.Statement (.holdoverExpiry p) :=
  statement_of_none _ rfl
theorem WellFormed.addedLineEnd (p : PortId) : WellFormed.Statement (.addedLineEnd p) :=
  statement_of_none _ rfl
theorem WellFormed.holdGiveUp (p : PortId) : WellFormed.Statement (.holdGiveUp p) :=
  statement_of_none _ rfl
theorem WellFormed.stretchLimit (p : PortId) : WellFormed.Statement (.stretchLimit p) :=
  statement_of_none _ rfl
theorem WellFormed.activeLineStart (p : PortId) : WellFormed.Statement (.activeLineStart p) :=
  statement_of_none _ rfl
theorem WellFormed.portStop (p : PortId) : WellFormed.Statement (.portStop p) :=
  statement_of_none _ rfl
theorem WellFormed.requestFrameDiscarded (frame : List Byte) : WellFormed.Statement (.requestFrameDiscarded frame) :=
  statement_of_none _ rfl
theorem WellFormed.readFrame (clocked : Nat) : WellFormed.Statement (.readFrame clocked) :=
  statement_of_none _ rfl
theorem WellFormed.unknownRequest (kind : Byte) (args : List Byte) : WellFormed.Statement (.unknownRequest kind args) :=
  statement_of_args _ (by simp [Instr.wf, argsFit, carried])
theorem WellFormed.showStream (args : List Byte) : WellFormed.Statement (.showStream args) :=
  statement_of_args _ (by simp [Instr.wf, argsFit, carried])
theorem WellFormed.inset (args : List Byte) : WellFormed.Statement (.inset args) :=
  statement_of_args _ (by simp [Instr.wf, argsFit, carried])
theorem WellFormed.probe (args : List Byte) : WellFormed.Statement (.probe args) :=
  statement_of_args _ (by simp [Instr.wf, argsFit, carried])
theorem WellFormed.send (args : List Byte) : WellFormed.Statement (.send args) :=
  statement_of_args _ (by simp [Instr.wf, argsFit, carried])
theorem WellFormed.take (args : List Byte) : WellFormed.Statement (.take args) :=
  statement_of_args _ (by simp [Instr.wf, argsFit, carried])
theorem WellFormed.result (args : List Byte) : WellFormed.Statement (.result args) :=
  statement_of_args _ (by simp [Instr.wf, argsFit, carried])
theorem WellFormed.status (args : List Byte) : WellFormed.Statement (.status args) :=
  statement_of_args _ (by simp [Instr.wf, argsFit, carried])
theorem WellFormed.attention (args : List Byte) : WellFormed.Statement (.attention args) :=
  statement_of_args _ (by simp [Instr.wf, argsFit, carried])
theorem WellFormed.clear (args : List Byte) : WellFormed.Statement (.clear args) :=
  statement_of_args _ (by simp [Instr.wf, argsFit, carried])
theorem WellFormed.camera (args : List Byte) : WellFormed.Statement (.camera args) :=
  statement_of_args _ (by simp [Instr.wf, argsFit, carried])
theorem WellFormed.standby (args : List Byte) : WellFormed.Statement (.standby args) :=
  statement_of_args _ (by simp [Instr.wf, argsFit, carried])
theorem WellFormed.wake (args : List Byte) : WellFormed.Statement (.wake args) :=
  statement_of_args _ (by simp [Instr.wf, argsFit, carried])
theorem WellFormed.restart (args : List Byte) : WellFormed.Statement (.restart args) :=
  statement_of_args _ (by simp [Instr.wf, argsFit, carried])
theorem WellFormed.wordSent : WellFormed.Statement (.wordSent) :=
  statement_of_none _ rfl
theorem WellFormed.headerWord (w : Word) : WellFormed.Statement (.headerWord w) :=
  statement_of_none _ rfl

end Sys2Proof.Laws
end

