-- ==== Sys2Proof/Laws/Sources.lean ====
section
/-! SUPPORT. What placing a window line, a purge and a frame start on one window do, said once, and what a camera state with
no deadline is. -/

namespace Sys2Proof.Machine

/-- The lowest free slot of the send store (R89). -/
theorem freeSlot_eq (store : List SendSlot) (n : Nat) (hn : n < 24) (hfree : ∀ x ∈ store, x.slot ≠ n)
    (hlow : ∀ m, m < n → ∃ x ∈ store, x.slot = m) : freeSlot store = some n := by
  have h : ∀ m, (heldSlots store).contains m = true ↔ ∃ x ∈ store, x.slot = m := by
    intro m; simp [heldSlots]
  rw [freeSlot, List.find?_range_eq_some]
  refine ⟨?_, List.mem_range.2 hn, ?_⟩
  · simpa [heldSlots] using fun x hx => hfree x hx
  · intro j hj
    have := (h j).2 (hlow j hj)
    simpa using this

/-- A SAFE stream of the station is RUNNING, over the streams of both ports (R89). -/
theorem State.safeRunning_eq (s : State) : s.safeRunning =
    (s.portA.streams ++ s.portB.streams).any (fun x => x.win.cls == .safe && x.state == .running) := by
  simp [State.safeRunning, Port.safeRunning, List.any_append]

/-- A camera state that an entry to STANDBY leaves, field by field (R158, R161). -/
@[simp] theorem CameraPort.standby_state (c : CameraPort) : c.standby.state = .idle := rfl
@[simp] theorem CameraPort.standby_deadline (c : CameraPort) : c.standby.deadline = none := rfl
@[simp] theorem CameraPort.standby_resume (c : CameraPort) : c.standby.resume = none := rfl
@[simp] theorem CameraPort.standby_insetHold (c : CameraPort) : c.standby.insetHold = c.insetHold := rfl

/-- A deadline has passed when there is one that is not later than now (R156). -/
theorem CameraPort.passed_iff (now : Word) (c : CameraPort) :
    c.passed now = true ↔ ∃ d, c.deadline = some d ∧ laterTime d now = false := by
  unfold CameraPort.passed
  cases c.deadline <;> simp

/-- A finished window line that holds pixels is placed or dropped as R85 and R87 to R91 say. -/
theorem State.placeLine_linePlaced (s : State) (p : PortId) (q : InPort) (i : Nat) (k : Stream) (ps : List Pixel)
    (hrun : s.node.state = .run) (hp : s.port p = .input q) (hps : ps ≠ []) :
    s.LinePlaced p q i k ps (s.placeLine p i q.lines q.counter { k with asm := ps }) := by
  have hne : ps.isEmpty = false := by cases ps <;> simp_all
  have hneed : s.slotsNeeded k.win.cls =
      if k.win.cls = .normal ∧ (s.portA.streams ++ s.portB.streams).any
        (fun x => x.win.cls == .safe && x.state == .running) = true then 5 else 1 := by
    rw [State.slotsNeeded, State.safeRunning_eq]
  refine ⟨fun n hlen hn hfree hlow hq => ?_, fun hno => ?_⟩
  · have hle : s.slotsNeeded k.win.cls ≤ freeSlotCount s.store := by
      rw [hneed, freeSlotCount, Config.sendSlots]; omega
    have hslot : s.takeSlot k.win.cls = some n := by
      rw [State.takeSlot, if_pos hle, freeSlot_eq s.store n hn hfree hlow]
    have hp' : ∀ x : Scheduler, State.port { s with sched := x } p = .input q := fun x => by cases p <;> exact hp
    rcases hq with ⟨hc, hl⟩ | ⟨hc, hl⟩ <;> cases p <;>
      simp_all [State.placeLine, State.append, lineEntry, State.setStream, State.port, State.setPort, Config.safeCap,
        Config.normalCap]
  · have hdrop : s.placeLine p i q.lines q.counter { k with asm := ps } = s.dropLine p i { k with asm := [] } := by
      rw [State.placeLine]
      simp only [hne]
      cases h : s.takeSlot k.win.cls with
      | none => simp
      | some n =>
        have hle : s.slotsNeeded k.win.cls ≤ freeSlotCount s.store := by
          by_contra hc; simp [State.takeSlot, hc] at h
        have hpos : 1 ≤ s.slotsNeeded k.win.cls := by rw [State.slotsNeeded]; split_ifs <;> omega
        rw [hneed] at hpos
        rw [hneed, freeSlotCount, Config.sendSlots] at hle
        have hq : ¬((k.win.cls = .safe ∧ s.sched.safeQ.length < 16) ∨
            (k.win.cls ≠ .safe ∧ s.sched.normalQ.length < 48)) := by
          rcases hno with h' | h'
          · omega
          · exact h'
        have hfull : (s.append (lineEntry p i { k with asm := ps } q.counter (q.lines - k.win.y0) ps.length n)).2 = false := by
          by_cases hc : k.win.cls = .safe
          · have hl : ¬s.sched.safeQ.length < 16 := fun hl => hq (.inl ⟨hc, hl⟩)
            simp [State.append, hrun, lineEntry, hc, Config.safeCap, hl]
          · have hl : ¬s.sched.normalQ.length < 48 := fun hl => hq (.inr ⟨hc, hl⟩)
            simp [State.append, hrun, lineEntry, hc, Config.normalCap, hl]
        simp [hfull]
    rw [hdrop]
    cases p <;> cases hd : k.drop <;>
      simp_all [State.dropLine, State.setStream, State.port, State.setPort, State.raise, Cause.when, Cause.bit, Cause.code]

/-- What a purge does: the entries and their slots go, and where the NORMAL head went, R50 judges STARVED. -/
theorem State.purge_eq (s : State) (kill : PicEntry → Bool) : s.purge kill = { s with
    sched := { s.sched with
      safeQ := s.sched.safeQ.filter (fun e => !kill e)
      normalQ := s.sched.normalQ.filter (fun e => !kill e)
      starved :=
        match s.sched.normalQ, s.sched.normalQ.filter (fun e => !kill e) with
        | e :: _, f :: _ => s.sched.starved && !(kill e && decide (2 * elapsed s.tick f.entryTime < s.patience))
        | _, _ => false }
    store := s.store.filter
      (fun x => !(slotsOf s.sched.safeQ kill ++ slotsOf s.sched.normalQ kill).contains x.slot) } := by
  have hpat : ∀ x y, State.patience { s with sched := x, store := y } = s.patience := fun _ _ => rfl
  unfold State.purge
  cases hq : s.sched.normalQ with
  | nil => simp [headGoes, State.judgeStarved, starvedAfter, State.returnSlots]
  | cons e es =>
    cases hs : kill e with
    | false => simp [headGoes, hs, State.returnSlots]
    | true =>
      cases hf : es.filter (fun e => !kill e) with
      | nil => simp [headGoes, hs, hf, State.judgeStarved, starvedAfter, State.returnSlots]
      | cons f fs =>
        cases hv : s.sched.starved <;> by_cases hw : 2 * elapsed s.tick f.entryTime < s.patience <;>
          simp_all [headGoes, State.judgeStarved, starvedAfter, State.returnSlots, PicEntry.wait]

/-- The purge of a stream's LINE entries (R42, R43, R50). -/
theorem State.purgeStale_eq (s : State) (n : BitVec 3) : s.purgeStale n = s.linesGone n := by
  have hslots : ∀ x : SendSlot,
      (slotsOf s.sched.safeQ (fun e => e.index == n && !e.isMark) ++
        slotsOf s.sched.normalQ (fun e => e.index == n && !e.isMark)).contains x.slot =
      (s.sched.safeQ ++ s.sched.normalQ).any (fun e => (e.index == n && !e.isMark) && e.slot == x.slot) := by
    intro x
    rw [Bool.eq_iff_iff]
    simp [slotsOf, List.any_eq_true]
    grind
  rw [State.purgeStale, State.purge_eq]
  simp only [hslots]
  rfl

/-- A frame start's work on one stream is that of R84. -/
theorem State.frameStream_begun (s : State) (p : PortId) (q : InPort) (i : Nat) (k : Stream)
    (hp : s.port p = .input q) (hk : q.streams[i]? = some k) (hrun : k.state = .running → s.node.state = .run) :
    s.FrameBegun p q i k (State.frameStream p s i) := by
  refine ⟨fun h => ?_, fun g hg hs => ⟨fun h => ?_, fun hw hh hroom => ?_, fun hw hh hroom => ?_⟩⟩
  · rcases h with h | h
    · simp [State.frameStream, hp, hk, h, State.setStream, Stream.close]
    · cases hg : q.geometry <;> simp [State.frameStream, hp, hk, hg, h, State.setStream, Stream.close]
  · have h' : (clippedSize k.win g).width = 0 ∨ (clippedSize k.win g).height = 0 := h
    simp only [State.frameStream, hp, hk, hg, hs, if_true, State.openFrame, h', State.setStream, Stream.close]
  all_goals
    have h' : ¬((clippedSize k.win g).width = 0 ∨ (clippedSize k.win g).height = 0) := by
      have h1 : 1 ≤ (clippedSize k.win g).width := hw
      have h2 : 1 ≤ (clippedSize k.win g).height := hh
      omega
    have hport : ∀ x : Scheduler, State.port { s.linesGone (streamIndex p i) with sched := x } p = .input q := by
      intro x; cases p <;> exact hp
    have hport' : (s.linesGone (streamIndex p i)).port p = .input q := by cases p <;> exact hp
    have htick : (s.linesGone (streamIndex p i)).tick = s.tick := rfl
    have hatt : (s.linesGone (streamIndex p i)).att = s.att := rfl
    simp only [State.frameStream, hp, hk, hg, hs, if_true, State.openFrame, if_neg h', State.append, hrun hs, markEntry, Stream.close,
      State.purgeStale_eq, Config.safeCap, Config.normalCap]
    generalize s.linesGone (streamIndex p i) = c at *
  · rcases hroom with ⟨hc, hl⟩ | ⟨hc, hl⟩ <;> simp only [hc, hl, if_true, if_false, State.setStream, hport] <;>
      cases p <;> simp [State.setPort, clippedSize, columnsAvailable, htick, hg]
  · by_cases hc : k.win.cls = .safe
    · have hl : ¬c.sched.safeQ.length < 16 := fun hl => hroom (.inl ⟨hc, hl⟩)
      simp only [hc, hl, if_true, if_false, State.dropMark, State.setStream, hport']
      cases p <;> simp [State.setPort, State.raise, Cause.when, Cause.bit, Cause.code, hatt, hg]
    · have hl : ¬c.sched.normalQ.length < 48 := fun hl => hroom (.inr ⟨hc, hl⟩)
      simp only [hc, hl, if_false, State.dropMark, State.setStream, hport']
      cases p <;> simp [State.setPort, State.raise, Cause.when, Cause.bit, Cause.code, hatt, hg]

end Sys2Proof.Machine
end

