-- ==== Sys2Proof/Tests/Slice0.lean ====
section
/-! SUPPORT. Tests: the well-formedness checks, the manual's worked figures, one-step checks, and for each statement with
hypotheses a state and operands that meet them. -/

namespace Sys2Proof.Tests

open Sys2Proof Sys2Proof.Machine

set_option Elab.async false

/-! ## Well-formedness: an ill-formed command for each check, refused -/

theorem test_wf_flash_too_long : Instr.wf (.imageAccepted (List.replicate 4097 0)) = false := by decide +kernel
theorem test_wf_flash_too_long_rejected : Instr.wf (.imageRejected (List.replicate 4097 0)) = false := by decide +kernel
theorem test_wf_sop_is_not_stray : Instr.wf (.strayUnit .sop) = false := by decide
theorem test_wf_violation_is_not_stray : Instr.wf (.strayUnit .violation) = false := by decide
theorem test_wf_matching_frame_is_not_discarded : Instr.wf (.requestFrameDiscarded [0x01, 1, 7]) = false := by decide
theorem test_wf_read_frame_is_not_discarded : Instr.wf (.requestFrameDiscarded [0x00, 2, 7]) = false := by decide
theorem test_wf_read_frame_has_a_byte : Instr.wf (.readFrame 0) = false := by decide
theorem test_wf_known_kind : Instr.wf (.unknownRequest 13 []) = false := by decide
theorem test_wf_read_kind : Instr.wf (.unknownRequest 0 []) = false := by decide
theorem test_wf_unknown_args : Instr.wf (.unknownRequest 14 (List.replicate 256 0)) = false := by decide +kernel
theorem test_wf_args : Instr.wf (.send (List.replicate 256 0)) = false := by decide +kernel
theorem test_wf_short_frame : Instr.wf (.requestFrameDiscarded [0x01, 2, 7]) = true := by decide

/-! ## The manual's figures -/

/-- The payload CRC of a parcel with no payload is its initial value (12.4). -/
theorem test_crc32_of_nothing : crc32 [] = 0xFFFFFFFF#32 := by decide

/-- Conversion figures (5.5). -/
theorem test_reduce8 : [0, 500, 513, 1022, 1023].map reduce8 = [0, 125, 128, 255, 255] := by decide
theorem test_reduce5 : [0, 500, 513, 1022, 1023].map reduce5 = [0, 16, 16, 31, 31] := by decide
theorem test_reduce6 : [0, 500, 513, 1022, 1023].map reduce6 = [0, 31, 32, 63, 63] := by decide
theorem test_expand8 : [0, 125, 128, 255].map expand8 = [0, 501, 514, 1023] := by decide

/-- Refill figures (3.5). -/
theorem test_refill_yield : [400, 80, 7, 3].map (fun r => refillOf r true) = [300, 60, 6, 3] := by decide
theorem test_refill_full : [400, 80, 7, 3].map (fun r => refillOf r false) = [400, 80, 7, 3] := by decide

/-- A panel of 4 by 3 pixels with the frame-lock figures of section 7.10. -/
def outCfg : OutCfg :=
  { ha := 4, va := 3, hfp := 1, hs := 1, hbp := 1, vfp := 1, vs := 1, vbp := 1, depth := 8, dither := .off
    keyEnable := true, hsHigh := true, vsHigh := true, deHigh := true, incNom := 1594506609, ditherSeed := 0
    fill := { r := 0, g := 0, b := 0 }, key := { r := 1, g := 2, b := 3 }, t := 8, w := 2, kp := 100, ki := 16, gx := 8
    devShift := 10, vStretchMax := 20, holdFrames := 30, swb := 2, camMode := .full, camStream := 8
    deadlineUnits := 20, camX := 0, camY := 0 }

/-- DEV of section 7.10. -/
theorem test_dev : outCfg.dev = 1557135 := by decide

/-- A Frame Lock in TRACK with this integrator. -/
def tracking (integ : Int) : FrameLock := { FrameLock.fresh outCfg with state := .track, integ := integ }

/-- One computation near the target (7.10). -/
theorem test_compute_near :
    let l := (FrameLock.compute outCfg 13 (tracking 400)).1
    l.inc = 1594660465#32 ∧ l.integ = 405 ∧ l.limited = .clear ∧ l.lastError = 5 := by decide

/-- A negative error (7.10): S is −326. -/
theorem test_compute_negative :
    let l := (FrameLock.compute outCfg 5 (tracking (-100))).1
    l.inc = BitVec.ofNat 32 (1594506609 - 326 * 256) ∧ l.integ = -103 := by decide

/-- The tracking table of section 7.11: INC after leads 8, 9, 10, 9, 12, 8. -/
theorem test_compute_table :
    let step : FrameLock → Nat → FrameLock := fun l n => (FrameLock.compute outCfg n l).1
    let ls := [8, 9, 10, 9, 12, 8]
    ([1, 2, 3, 4, 5, 6].map fun n => (ls.take n).foldl step (tracking 0)).map FrameLock.inc =
      [1594506609, 1594532209, 1594557809, 1594532465, 1594609521, 1594507121] := by decide +kernel

/-- The fourth computation in the window sets LOCKED (7.11). -/
theorem test_locked_at_fourth :
    let step : FrameLock → Nat → FrameLock := fun l n => (FrameLock.compute outCfg n l).1
    ([8, 9, 10].foldl step (tracking 0)).locked = false ∧ ([8, 9, 10, 9].foldl step (tracking 0)).locked = true := by
  decide +kernel

/-- Reduction figures (8.8), d = 8 and dither off, and with the field values 2 and 3. -/
theorem test_reduce_panel :
    [1023, 514, 513].map (reduceTo outCfg outCfg.rounding) = [255, 129, 128] ∧
      [1023, 514, 513].map (reduceTo outCfg 2) = [255, 129, 128] ∧
      [1023, 514, 513].map (reduceTo outCfg 3) = [255, 129, 129] := by decide

/-- The dithered pixel of section 8.8: r = 00B6h. -/
theorem test_reduce_dithered :
    reducePixel { outCfg with dither := .fixed } 0x00B6 { r := 514, g := 700, b := 1023 } =
      { r := 129, g := 175, b := 255 } := by decide

/-- The header event's CRC at work: a header whose CRC bit is wrong is bad. -/
def lineHeader : Header :=
  Header.sealed
    { kindCode := 0, clsCode := 0, source := 5, hop := 2, pressure := 0, index := 1, fmtCode := 2, frame := 9, len := 4
      line := 0, width := 4, flags := 0, crc := 0 }

theorem test_header_good :
    headerGood lineHeader.word0 lineHeader.word1 lineHeader.word2 lineHeader.word3 = true := by decide +kernel
theorem test_header_bad_crc :
    headerGood lineHeader.word0 lineHeader.word1 lineHeader.word2 (lineHeader.word3 ^^^ 1) = false := by decide +kernel

/-- The opcode table gives no row bits, so no word spells a command. -/
theorem test_no_word_decodes : decodeTableWord 16 0 = none := by decide

/-! ## Small states -/

/-- The ring section of the tests. -/
def ringCfg : RingCfg := { cap := 4000, refill := 80, patience := 35, seed := 0x1234 }

/-- The part released at the straps 3, LOADING. -/
def loading : State := { State.reset with node := { Node.reset with held := false, station := 3 } }

/-- Station 3 in RUN with its link UP. -/
def up : State :=
  { loading with
    node := { loading.node with state := .run, ring := some ringCfg }
    link := { loading.link with state := .up }
    sched := { Scheduler.reset with credit := 4000 }
    view := { StationView.reset with gen := 7, nonce := some 0x1111, retired := some 0x2222, timer := some 5 } }

/-- The node in another state. -/
def inState (st : NodeState) (s : State) : State := { s with node := { s.node with state := st } }

/-- The receiver at a stage. -/
def at' (g : Stage) (s : State) : State := { s with link := { s.link with stage := g } }

/-- The transmitter at a position. -/
def sending (t : Tx) (s : State) : State := { s with link := { s.link with tx := t } }

/-- An entry that waits. -/
def waiting (e : Entry) (s : State) : State := { s with node := { s.node with waiting := some e } }

/-- An own LINE with one word left. -/
def lastLineWord : LocalTx := { kind := .line, slot := none, left := [1] }

/-- The transit buffer. -/
def transit (l : List TransitEntry) (s : State) : State := { s with link := { s.link with transit := l } }

/-- The three words before the last of a header. -/
def three (h : Header) : List Word := [h.word0, h.word1, h.word2]

/-- An arriving parcel. -/
def arriving (k : ParcelKind) (c : Course) : Reception :=
  { hdr := { lineHeader with kindCode := k.code, clsCode := if k = .line ∨ k = .mark then 0 else 2 }
    kind := k, course := c, repeater := false, fwd := lineHeader, got := 0, crc := crc32Init, checkOk := false
    payload := [], lineTo := [], markTo := [], carry := [], addressed := false, reserved := false }

/-- An arriving parcel whose payload is complete and whose check word matched. -/
def complete (k : ParcelKind) (c : Course) (ws : List Word) : Reception :=
  { arriving k c with got := 5, checkOk := true, payload := ws }

/-- The MAIN record's configuration of the tests. -/
def mainCfg : SinkCfg := { first := 0, count := 12, initSub := some 41, initX := 0, initY := 0 }

/-- An output port subscribed to stream 41 (source 5, index 1), with a running panel. -/
def outPort : OutPort := OutPort.fresh outCfg mainCfg none

/-- An output port with an OVERLAY record. -/
def withOverlay (o : OutPort) : OutPort :=
  { o with overlay := some (Sink.fresh { first := 12, count := 4, initSub := some 41, initX := 1, initY := 1 }) }

/-- The part with this output port as port A. -/
def out (o : OutPort) (s : State) : State := s.setPort .a (.output o)

/-- One window. -/
def window : Window :=
  { enabled := true, x0 := 0, y0 := 0, width := 2, height := 2, step := 1, phase := 0, fmt := .p30, cls := .safe
    shed := false }

/-- An input port with one RUNNING stream whose frame is open. -/
def inPort : InPort :=
  { InPort.fresh { tenBit := true, frameHigh := true, lineHigh := true, enableHigh := true } [window] with
    geometry := some { width := 2, height := 2 }, silence := some 100
    streams := [{ Stream.fresh window with
      state := .running, frame := some { width := 2, height := 2 }, asm := [{ r := 1, g := 1, b := 1 }] }]
    x := 1 }

/-- The part with this input port as port B. -/
def inp (q : InPort) (s : State) : State := s.setPort .b (.input q)

/-- A MARK of the same stream. -/
def markHeader : Header := Header.sealed { lineHeader with kindCode := 1, len := 1 }

/-- A port of which Camera Priority has taken its record, to return to stream 41. -/
def engaged (o : OutPort) : OutPort :=
  { o with cam :=
    { o.cam with state := .switching, deadline := some 0, resume := some { sub := some 41, x := 0, y := 0 } } }

/-- A port in its last active line. -/
def lastLine : OutPort := { outPort with pres := { outPort.pres with pos := .active, line := 2, nextLine := 3 } }

/-- An input port at the end of a frame of two lines, its stream's frame closed. -/
def started : InPort :=
  { inPort with
    lines := 2, maxW := 2, x := 0
    streams := [{ Stream.fresh window with state := .running }] }

/-- The same port with a stream that is shed under demand. -/
def sheddable : InPort :=
  { inPort with streams := [{ Stream.fresh { window with cls := .normal, shed := true } with state := .running }] }

/-- YIELD set, in its last microsecond. -/
def yielding (s : State) : State := { s with sched := { s.sched with yield := true, yieldTime := 1 } }

/-- A reserved entry. -/
def entry : InMessage := { complete := false, source := 5, kind := .user, tag := 7, words := [], broadcast := false }

/-- A message in flight to station 6. -/
def flying : OutMessage := { tag := 7, target := some 6, kind := .user, sent := some 0 }

/-- The inbox with eight entries. -/
def fullInbox (s : State) : State := { s with svc := { s.svc with inbox := List.replicate 8 entry } }

/-- A port at an added line of a hold, HT pixel periods into it. -/
def holding (st : LockState) (limit : Bool) : OutPort :=
  { outPort with
    pres := { outPort.pres with pos := .added, pixel := 7 }
    lock := { outPort.lock with state := st, stretch := some { added := 3, ending := false, limit := limit } }
    main := { outPort.main with cur := some { no := 9, width := 4, height := 3 } } }

/-- A LINE entry of this class. -/
def lineOf (c : ParcelClass) : PicEntry :=
  { isMark := false, cls := c, index := 0, len := 4, frame := 9, line := 0, width := 4, fmt := .p30, slot := 0
    height := 0, entryTime := 0 }

/-- The state after a command. -/
def after (c : Instr) (s : State) : State :=
  match exec c s with
  | .next t => t
  | .fault _ => s
  | .refused _ => s

/-! ## One step of a command -/

theorem test_align_64 : (after (.alignUnit .idle) { up with link := { up.link with state := .align, valid := 63 } }).link.state
    = .up := by decide
theorem test_align_violation : (after (.alignUnit .violation)
    { up with link := { up.link with state := .align, valid := 63 } }).link.valid = 0 := by decide
theorem test_fourth_violation : (after .codingViolation
    { up with link := { up.link with violations := [1022, 5, 1] } }).link.state = .align := by decide
theorem test_old_violation_forgotten : (after .codingViolation
    { up with link := { up.link with violations := [1023, 5, 1] } }).link.state = .up := by decide
theorem test_hop_raised : (after (.headerEvent lineHeader.word3) (at' (.header (three lineHeader)) up)).link.transit.map
    (fun e => (e.words.headD 0).extractLsb' 19 4) = [3#4] := by decide +kernel
theorem test_starved_marks_own : (after (.headerEvent lineHeader.word3)
    (at' (.header (three lineHeader)) { up with sched := { up.sched with starved := true } })).link.transit.map
    (fun e => (e.words.headD 0).extractLsb' 14 5) = [4#5] := by decide +kernel
theorem test_own_parcel_stripped : (after (.headerEvent lineHeader.word3)
    (at' (.header (three lineHeader)) { up with node := { up.node with station := 5 } })).link.transit = [] := by
  decide +kernel
theorem test_tick_refill : (after (.microsecondTick false false)
    { up with sched := { up.sched with credit := 3950 } }).sched.credit = 4000 := by decide +kernel
theorem test_tick_wraps : (after (.microsecondTick false false) { up with tick := 0xFFFFFFFF }).tick = 0 := by decide +kernel
theorem test_census_period : (after .censusTimerExpiry { up with view := { up.view with timer := some 0 } }).view.timer
    = some (1000 + 3) := by decide +kernel
theorem test_pixel_completes_line : ((after (.activePixel .b 2 2 2) (inp inPort up)).sched.safeQ.map PicEntry.width,
    (after (.activePixel .b 2 2 2) (inp inPort up)).store.map SendSlot.words)
    = ([2], [[0x00100401#32, 0x00200802#32]]) := by decide +kernel
theorem test_unread_response_is_lost : (after (.unknownRequest 14 []) up).svc.response
    = some { code := .unknown, data := [] } := by decide +kernel
theorem test_read_frame_pads : (after (.readFrame 4) (after (.unknownRequest 14 []) up)).svc.sdo = [5, 0, 0] := by
  decide +kernel
theorem test_send_first_tag_is_0 : (after (.send [6, 0]) up).svc.response
    = some { code := .done, data := [0] } := by decide +kernel
theorem test_send_to_self_refused : (after (.send [3, 0]) up).svc.response
    = some { code := .badArg, data := [] } := by decide +kernel
theorem test_attention_in_loading : (after (.attention []) loading).svc.response
    = some { code := .state, data := [] } := by decide +kernel
theorem test_clear_keeps_late : (after (.clear [0, 1])
    (out { outPort with cam := { outPort.cam with state := .late } }
      { up with att := { up.att with pending := 1 } })).att.pending = 1 := by decide +kernel

/-! ## States that meet the hypotheses of the statements -/

theorem test_StepRunsFront : State.reset.pending = [] := by decide

theorem test_ColdResetSetsAll : State.reset.node.held = true ∧ Instr.signalPresent ≠ .coldReset ∧
    ∀ n, Instr.signalPresent ≠ .resetRelease n := by decide

theorem test_ResetReleaseLoads : State.reset.node.held = true := by decide

/-- The bytes of a list of words. -/
def bytesOf (ws : List Word) : List Byte := ws.flatMap wordBytes

/-- A least image: a ring section alone. -/
def image : List Word :=
  let ws := [0x01000007#32, 0x01000004#32, 2053#32, 80#32, 35#32, 0x1234#32]
  ws ++ [0 - wordSum ws]

/-- What the image says. -/
def imageRead : Image :=
  { ring := { cap := 2053, refill := 80, patience := 35, seed := 0x1234 }, portA := .unused, portB := .unused
    enable := 0 }

/-- The other words of an image: port A an output with its MAIN record, port B an input with one window. -/
def portWords : List Word :=
  [0x0200000E#32, 0x02000000#32, 0x00040003#32, 0x00010001#32, 0x00010001#32, 0x00010001#32, 0x0800000F#32,
    1594506609#32, 0#32, 0#32, 0x00100803#32, 0x08026410#32, 0x080A141E#32, 0x02010814#32, 0#32] ++
  [0x04000003#32, 0x0000000C#32, 0x00000029#32, 0#32, 0x02010001#32, 0x010A0007#32] ++
  [0x03040003#32, 0#32, 0x00020002#32, 0x01000202#32]

/-- An image with both port sections. -/
def portImage : List Word :=
  let ws := 0x01000020#32 :: (image.drop 1).dropLast ++ portWords
  ws ++ [0 - wordSum ws]

/-- What that image says. -/
def portImageRead : Image :=
  { imageRead with
    portA := .output outCfg mainCfg none
    portB := .input { tenBit := true, frameHigh := true, lineHigh := true, enableHigh := true }
      [window, Window.disabled, Window.disabled, Window.disabled] }

theorem test_ImageAcceptedRuns : loading.running ∧ loading.node.state = .loading ∧
    judgeFlash (bytesOf image) = .accepted imageRead ∧ imageRead.port .a = .unused ∧
    loading.port .a = .unused AtRest.cold ∧
    judgeFlash (bytesOf portImage) = .accepted portImageRead ∧ portImageRead.port .a = .output outCfg mainCfg none ∧
    2 ≤ outCfg.t ∧ (portImageRead.port .b).safeWindows = 1 := by decide +kernel

/-- The accumulator runs on from where the unconfigured port held it (R131), and a seed of 0 gives FFFFh (R146). -/
theorem test_accumulator_runs_on : ((after (.imageAccepted (bytesOf portImage))
    { loading with portA := .unused { AtRest.cold with acc := 7 } }).portA.outAnd (fun o => o.lock.acc == 7 && o.pres.gen == 0xFFFF)) = true := by
  decide +kernel

theorem test_ImageRejectedFallsBack : loading.running ∧ loading.node.state = .loading ∧
    judgeFlash (bytesOf (image.take 6 ++ [0])) = .rejected ∧ imageVersion 0x02000007#32 ≠ 1 ∧
    1024 < imageLength 0x01000401#32 ∧ imageLength 0x01000006#32 < 7 ∧ wordSum [1#32] ≠ 0 ∧
    sectionsOf 3 (([0, 0x01000001#32, 0] : List Word).drop 1).dropLast = none ∧
    sectionsOf 4 (([0, 0x05000001#32, 1, 0] : List Word).drop 1).dropLast = some [{ kind := 5, index := 0, body := [1] }] ∧
    ({ kind := 5, index := 1, body := [1] } : Section).shapeOk = false ∧ judgeWords portImage = .accepted portImageRead ∧
    (sectionsOf portImage.length (portImage.drop 1).dropLast).map List.length = some 5 := by
  decide +kernel

/-- A dither seed above 65535 and an initial subscription of 128 to 254 are refused. -/
theorem test_image_refused :
    let port : Word → Section := fun w => { kind := 2, index := 0, body := ((portWords.take 15).drop 1).set 7 w }
    outCfgOf (port 0x10000) = none ∧ (outCfgOf (port 0xFFFF)).isSome = true ∧
    (outCfgOf { port 0 with body := (port 0).body.set 8 0xC0000007#32 }).map OutCfg.fill = some { r := 0, g := 0, b := 7 } ∧
    sinkOf { kind := 4, index := 0, body := [0x0000000C#32, 128#32, 0] } = none ∧
    (sinkOf { kind := 4, index := 0, body := [0x0000000C#32, 127#32, 0] }).isSome = true := by decide +kernel

theorem test_GeneratorNeverZero : (1#16) ≠ 0 := by decide

theorem test_SignalAligns : loading.running ∧ loading.link.state = .down ∧
    ({ up with link := { up.link with state := .align, valid := 63 } } : State).running ∧
    ({ up with link := { up.link with state := .align, valid := 63 } } : State).link.state = .align := by decide

theorem test_LossOfSignalEnds : up.running ∧ up.link.state = .up ∧
    (at' (.body (arriving .line .forward)) up).link.stage = .body (arriving .line .forward) ∧
    (arriving .line .forward).course = .forward ∧
    (at' (.body (arriving .line .strip)) up).link.state = .up ∧ (arriving .line .strip).course ≠ .forward ∧
    ({ up with link := { up.link with state := .align } } : State).link.state = .align := by decide +kernel

theorem test_SopBegins : up.running ∧ up.link.state = .up ∧ up.link.stage = .outside ∧
    (at' (.header [0, 0]) up).link.stage = .header [0, 0] ∧ ([0, 0] : List Word).length < 3 ∧
    (at' (.body (arriving .line .forward)) up).link.stage = .body (arriving .line .forward) ∧
    (arriving .line .strip).course ≠ .forward := by decide +kernel

theorem test_StrayUnitsAbsorbed : up.running ∧ up.link.state = .up ∧ up.link.stage = .outside ∧
    RxUnit.eop ≠ .idle := by decide

theorem test_CodingViolationBreaks :
    3 ≤ ({ up with link := { up.link with violations := [1022, 5, 1] } } : State).link.countUnit.violations.length ∧
    up.running ∧ up.link.state = .up ∧ up.link.countUnit.violations.length < 3 ∧ up.link.stage = .outside ∧
    (at' (.header [0]) up).link.stage = .header [0] ∧
    (at' (.body (arriving .line .forward)) up).link.stage = .body (arriving .line .forward) := by decide +kernel

theorem test_HeaderBadExactly : up.running ∧ up.link.state = .up ∧
    (at' (.header (three lineHeader)) up).link.stage
      = .header [lineHeader.word0, lineHeader.word1, lineHeader.word2] ∧
    headerGood lineHeader.word0 lineHeader.word1 lineHeader.word2 (lineHeader.word3 ^^^ 1) = false := by decide +kernel

theorem test_HeaderRoundTrip : lineHeader.fieldsOk = true := by decide +kernel

theorem test_RepeaterForwards : (inState .fallback (at' (.header (three lineHeader)) up)).running ∧
    (inState .fallback (at' (.header (three lineHeader)) up)).link.state = .up ∧
    (inState .fallback (at' (.header (three lineHeader)) up)).link.stage
      = .header [lineHeader.word0, lineHeader.word1, lineHeader.word2] ∧
    headerGood lineHeader.word0 lineHeader.word1 lineHeader.word2 lineHeader.word3 = true ∧
    (Header.ofWords lineHeader.word0 lineHeader.word1 lineHeader.word2 lineHeader.word3).source ≠ up.node.station ∧
    (Header.ofWords lineHeader.word0 lineHeader.word1 lineHeader.word2 lineHeader.word3).hop ≠ 15 ∧
    fillOf up.link.transit + 4 ≤ 4096 := by decide +kernel

theorem test_FullStationForwards : (at' (.header (three lineHeader)) up).running ∧ up.node.state = .run ∧
    (at' (.header (three lineHeader)) up).link.state = .up ∧
    headerGood lineHeader.word0 lineHeader.word1 lineHeader.word2 lineHeader.word3 = true ∧
    (Header.ofWords lineHeader.word0 lineHeader.word1 lineHeader.word2 lineHeader.word3).source ≠ up.node.station ∧
    (Header.ofWords lineHeader.word0 lineHeader.word1 lineHeader.word2 lineHeader.word3).hop ≠ 15 ∧
    fillOf (transit [{ words := List.replicate 4092 0, heldBack := none, fin := none, cut := false }] up).link.transit + 4
      ≤ 4096 ∧ (inState .standby up).node.state = .standby ∧ markHeader.kindCode ≠ 0 := by decide +kernel

/-- The header of an orphan. -/
def orphan : Header := Header.sealed { lineHeader with hop := 15 }

theorem test_StripsAndOrphans :
    headerGood orphan.word0 orphan.word1 orphan.word2 orphan.word3 = true ∧
    (Header.ofWords orphan.word0 orphan.word1 orphan.word2 orphan.word3).hop = 15 ∧
    (at' (.header (three orphan)) up).link.stage = .header [orphan.word0, orphan.word1, orphan.word2] ∧
    (let marked := Header.sealed { orphan with pressure := 7 }
     let s := at' (.header (three marked)) up
     (after (.headerEvent marked.word3) s).sched.yieldTime = 500 ∧
      (after (.headerEvent marked.word3) (inState .fallback s)).sched.yield = false) ∧
    (Header.ofWords lineHeader.word0 lineHeader.word1 lineHeader.word2 lineHeader.word3).source = 5 := by decide +kernel

/-- A transit buffer with this fill. -/
def filled (n : Nat) : List TransitEntry := [{ words := List.replicate n 0, heldBack := none, fin := none, cut := false }]

theorem test_OverrunEnds : up.running ∧ up.link.state = .up ∧ 4092 < fillOf (filled 4093) ∧
    (Header.ofWords lineHeader.word0 lineHeader.word1 lineHeader.word2 lineHeader.word3).source ≠ up.node.station ∧
    4096 ≤ fillOf (filled 4096) ∧ (arriving .line .forward).got ≤ (arriving .line .forward).hdr.len.toNat ∧
    (arriving .line .forward).kind ≠ .message ∧ (arriving .message .forward).kind = .message ∧
    (arriving .message .forward).repeater = false ∧ (arriving .message .forward).got = 0 ∧
    outPort.main.detached = [] ∧ outPort.main.queue = [] ∧
    (complete .line .forward []).hdr.len.toNat + 1 ≤ (complete .line .forward []).got := by decide +kernel

/-- A message's first word at a full buffer is decided, so the held word leaves with the taken flag, and then truncates the
parcel; the entry it reserved is withdrawn (log 10). -/
theorem test_first_word_at_full :
    let e : TransitEntry := { words := List.replicate 4095 0, heldBack := some 0, fin := none, cut := false }
    let t := after (.payloadWord 0x18000007#32) (transit [e] (at' (.body (arriving .message .forward)) up))
    t.link.ovf = 1 ∧ t.link.stage = .outside ∧ t.svc.inbox = [] ∧
    t.link.transit.map (fun e => (e.words.getLast?.map (fun w => w.getLsbD 31), e.words.length, e.heldBack, e.fin)) =
      [(some true, 4096, none, some false)] := by decide +kernel

/-- The bad end of a parcel takes the copies made of it: a FILLING record of the current frame, a reserved entry, an own
message (R5, R9, R28, R35, R26). -/
theorem test_EndsBad :
    let port : OutPort := { outPort with main := { outPort.main with
      cur := some { no := 9, width := 4, height := 3 }
      queue := [{ slot := 0, frame := 9, line := 0, width := 4, fmt := .p30, full := false, pixels := [] }] } }
    let line : Reception := { arriving .line .forward with lineTo := [⟨.a, .main⟩] }
    let message : Reception := { arriving .message .forward with got := 1, reserved := true }
    let own : Reception := { arriving .message .strip with got := 1, payload := [0x30000007#32] }
    let s := at' (.body line) (out port up)
    let m := at' (.body message) { up with svc := { up.svc with inbox := [entry] } }
    let gone : Instr → Bool := fun c => (after c s).portA.outAnd (fun o => o.main.queue.isEmpty && o.main.torn)
    line.lineTo.Nodup ∧ gone .lossOfSignal = true ∧ gone .sopReceived = true ∧ gone .codingViolation = true ∧
    ((after (.payloadWord 0) (at' (.body { line with got := 5 }) s)).portA.outAnd (fun o => o.main.torn)) = true ∧
    m.svc.inbox = [] ++ [entry] ∧ (after .lossOfSignal m).svc.inbox = [] ∧
    inFlight [flying] (messageTag 0x30000007#32) = some flying ∧
    (after .sopReceived (at' (.body own) { up with svc := { up.svc with outbox := [flying] } })).svc.results =
      [{ tag := 7, outcome := .damaged, counts := none }] := by decide +kernel

theorem test_PayloadWordTaken : (at' (.body (arriving .census .forward)) up).running ∧
    (at' (.body (arriving .census .forward)) up).link.stage = .body (arriving .census .forward) ∧
    (arriving .census .forward).got ≤ (arriving .census .forward).hdr.len.toNat ∧
    (arriving .census .forward).kind ≠ .line ∧ (arriving .census .forward).kind ≠ .message ∧
    fillOf (filled 4095) < 4096 := by decide +kernel

/-- A line that the MAIN record of port A took. -/
def taken (r : Reception) : Reception := { r with lineTo := [⟨.a, .main⟩] }

/-- A MAIN record that holds frame 9, with these slots in its queue. -/
def receiving (slots : List Nat) : OutPort :=
  { outPort with
    main := { outPort.main with
      cur := some { no := 9, width := 4, height := 3 }
      queue := slots.map (fun n =>
        { slot := n, frame := 9, line := 0, width := 4, fmt := .p30, full := true, pixels := [] }) } }

theorem test_LineWordReachesSink :
    let s := out (receiving [0]) (at' (.header (three lineHeader)) up)
    let b := out outPort (at' (.body (taken (arriving .line .forward))) up)
    let h := Header.ofWords lineHeader.word0 lineHeader.word1 lineHeader.word2 lineHeader.word3
    s.running ∧ s.link.state = .up ∧ s.link.stage = .header [lineHeader.word0, lineHeader.word1, lineHeader.word2] ∧
    headerGood lineHeader.word0 lineHeader.word1 lineHeader.word2 lineHeader.word3 = true ∧ s.node.state = .run ∧
    h.source ≠ s.node.station ∧ h.hop ≠ 15 ∧ fillOf s.link.transit + 4 ≤ 4096 ∧ h.kindCode = 0 ∧
    s.port .a = .output (receiving [0]) ∧ (receiving [0]).main.active = some h.stream ∧
    (receiving [0]).main.refuses outCfg.va h.frame h.line.toNat = false ∧
    (receiving [0]).main.refuses outCfg.va h.frame 3 = true ∧
    (receiving [0]).main.usedSlots = [0] ∧ (∀ n, n < 12 → n ∈ (receiving (List.range 12)).main.usedSlots) ∧
    (withOverlay outPort).sink .overlay ≠ none ∧
    b.running ∧ b.link.stage = .body (taken (arriving .line .forward)) ∧ (taken (arriving .line .forward)).lineTo.Nodup ∧
    ([⟨.a, .main⟩, ⟨.a, .overlay⟩] : List SinkId).Nodup ∧
    (taken (arriving .line .forward)).got < (taken (arriving .line .forward)).hdr.len.toNat ∧
    b.port .a = .output outPort ∧ fillOf b.link.transit < 4096 := by decide +kernel

theorem test_MessageDecided : (at' (.body (arriving .message .forward)) up).link.stage
      = .body (arriving .message .forward) ∧ 1 ≤ (arriving .message .forward).hdr.len.toNat ∧
    messageKindCode 0x18000007#32 ≤ 3 ∧ messageTarget 0x18000007#32 = up.node.station.toNat ∧
    messageTarget 0xF8000007#32 = 31 ∧ messageKindCode 0xF8000007#32 ≤ 3 ∧
    ¬(messageKindCode 0x1C000007#32 ≤ 3) ∧ up.svc.inbox.length < 8 ∧ lineHeader.flags.getLsbD 7 = false ∧
    (0x80#8).getLsbD 7 = true ∧ flagCounts 0xF0#8 = (15#4, 0#4) ∧ ¬((fullInbox up).svc.inbox.length < 8) := by
  decide +kernel

/-- A count at 15 stays there (log 20). -/
theorem test_count_stays_at_15 : (decideBroadcast true 0xF3#8 entry).flags = 0xF3#8 ∧
    (decideBroadcast false 0x3F#8 entry).flags = 0x3F#8 ∧ (decideBroadcast true 0xE3#8 entry).flags = 0xF3#8 := by decide

theorem test_EndSymbolEnds : up.running ∧ up.link.state = .up ∧ (at' (.header [0]) up).link.stage = .header [0] ∧
    (at' (.body (complete .census .forward [])) up).link.stage = .body (complete .census .forward []) ∧
    (arriving .line .orphan).course = .orphan ∧ (arriving .mark .strip).kind = .mark ∧
    ({ arriving .census .forward with repeater := true } : Reception).repeater = true ∧
    (EndSymbol.eopx == .eop) = false := by decide +kernel

theorem test_LineEndReachesSink :
    (out outPort (at' (.body (taken (complete .line .forward []))) up)).link.stage
      = .body (taken (complete .line .forward [])) ∧
    (taken (complete .line .forward [])).lineTo.Nodup ∧ (out outPort up).port .a = .output outPort ∧
    (out (withOverlay outPort) up).port .b = up.port .b ∧ (∀ o, up.port .b ≠ .output o) := by
  refine ⟨?_, ?_, ?_, ?_, fun o h => ?_⟩
  iterate 4 decide +kernel
  cases h

/-- A marker fixed for the MAIN record of port A. -/
def fixed (r : Reception) : Reception := { r with markTo := [⟨.a, .main⟩] }

theorem test_MarkerAccepted :
    let r := fixed (complete .mark .forward [markWord 3 .safe])
    headerGood markHeader.word0 markHeader.word1 markHeader.word2 markHeader.word3 = true ∧
    (Header.ofWords markHeader.word0 markHeader.word1 markHeader.word2 markHeader.word3).kindCode = 1 ∧
    r.endsGood = true ∧ r.markTo = [⟨.a, .main⟩] ∧ (out outPort up).port .a = .output outPort ∧
    outPort.main.active = some r.hdr.stream ∧ (withOverlay outPort).overlay.map Sink.active = some (some r.hdr.stream) ∧
    outPort.main.cur = none ∧ 1 ≤ markHeight (r.payload.headD 0) ∧ markHeight (r.payload.headD 0) ≤ 2048 ∧
    markClass (r.payload.headD 0) = r.hdr.clsCode.toNat ∧ (r.hdr.frame - 8).toNat = 1 ∧
    (r.hdr.frame - 0x800A).toNat = 32767 ∧ (r.hdr.frame - 0x8009).toNat = 32768 ∧ (r.hdr.frame - 9).toNat = 0 ∧
    outPort.main.silent < 3 ∧ outPort.lock.stretch = none ∧ r.markTo.Nodup ∧
    markHeight (markWord 2049 .safe) = 2049 ∧ markHeight (markWord 0 .safe) = 0 ∧
    markClass (markWord 3 .normal) ≠ r.hdr.clsCode.toNat := by decide +kernel

/-- A marker of the frame held, or of one 32768 away, is refused; so is one of height 0 (R103, R182). -/
theorem test_marker_refused :
    let holds : Half → OutPort := fun n => { outPort with main := { outPort.main with cur := some { no := n, width := 4, height := 3 } } }
    let marked : Word → Half → Port := fun w n =>
      (after (.endEvent .eop) (out (holds n) (at' (.body (fixed (complete .mark .forward [w]))) up))).portA
    marked (markWord 3 .safe) 9 = .output (holds 9) ∧ marked (markWord 3 .safe) 0x8009 = .output (holds 0x8009) ∧
    marked (markWord 0 .safe) 8 = .output (holds 8) ∧ marked (markWord 3 .safe) 0x800A ≠ .output (holds 0x800A) := by
  decide +kernel

/-- A marker fixed for both records of a port reaches both. -/
theorem test_marker_both : ((after (.endEvent .eop) (out (withOverlay outPort)
    (at' (.body { complete .mark .forward [markWord 3 .safe] with markTo := [⟨.a, .main⟩, ⟨.a, .overlay⟩] }) up))).portA.outAnd
      (fun o => o.main.cur.isSome && o.overlay.any (fun k => k.cur.isSome))) = true := by decide +kernel

/-- A marker right after the frame start that ran the holdover out finds FREE, and the integrator is 0 (R118, R130). -/
theorem test_marker_after_holdover : ((after (.endEvent .eop)
    (out { outPort with lock := { tracking 77 with state := .holdover, holdCount := 30 } }
      (at' (.body (fixed (complete .mark .forward [markWord 3 .safe]))) up))).portA.outAnd
        (fun o => o.lock.integ == 0 && o.lock.state == .acquire)) = true ∧
    ((after (.endEvent .eop)
    (out { outPort with lock := { tracking 77 with state := .holdover, holdCount := 29 } }
      (at' (.body (fixed (complete .mark .forward [markWord 3 .safe]))) up))).portA.outAnd
        (fun o => o.lock.integ == 77)) = true := by decide +kernel

/-- What a census of the tests carries. -/
def content : CensusContent :=
  { nonce := 0x3333, state := .run, demand := true
    offers := [{ index := 1, width := 4, height := 3, fmt := .p30, cls := .safe, suspended := false }] }

/-- The payload of the census. -/
def censusPayload : List Word := censusWords content.nonce content.state content.demand content.offers

/-- A marker that ends bad leaves the record it was fixed for as it was, and a census that ends bad the table (R29, R31). -/
theorem test_bad_end_keeps :
    (after (.endEvent .eopx) (out outPort (at' (.body (fixed (complete .mark .forward [markWord 3 .safe]))) up))).portA =
      .output outPort ∧
    (after (.endEvent .eopx) (at' (.body (complete .census .forward censusPayload)) up)).view = up.view := by decide +kernel

theorem test_CensusCopyRefreshes : (complete .census .forward censusPayload).endsGood = true ∧
    censusOf (complete .census .forward censusPayload).payload = some content ∧ up.running ∧ up.link.state = .up ∧
    (at' (.body (complete .census .forward censusPayload)) up).link.stage
      = .body (complete .census .forward censusPayload) ∧ outPort.main.active = some 41 ∧ sourceOf 41 = lineHeader.source ∧
    outPort.quiet 0 = true ∧ outPort.main.source = .absent ∧ outPort.main.nonce = none ∧ (0x4444#16) ≠ content.nonce ∧
    (inp sheddable up).port .b = .input sheddable ∧ up.view.demand = false ∧ content.demand = true := by decide +kernel

/-- A port in SHOWING whose Frame Lock tracks, its records PRESENT and three frames silent. -/
def showing (m : CameraMode) : OutPort :=
  let o := withOverlay outPort
  let lost : Sink → Sink := fun k => { k with source := .present, silent := 3 }
  { o with
    cfg := { o.cfg with camMode := m }, main := lost o.main, overlay := o.overlay.map lost
    lock := { o.lock with state := .track, stretch := none }, cam := { o.cam with state := .showing } }

/-- The loss that takes the camera from a port in SHOWING makes it LATE and asserts FAULT (R156, R160). -/
theorem test_camera_lost :
    let lost := fun c m => (after c (out (showing m) up)).portA.outAnd (fun o => o.cam.state == .late) &&
      (after c (out (showing m) up)).fault
    lost (.silentFramesLost .a .main) .full = true ∧ lost (.silentFramesLost .a .overlay) .inset = true ∧
    lost (.silentFramesLost .a .overlay) .full = false ∧ lost (.silentFramesLost .a .main) .inset = false := by
  decide +kernel

/-- A census that publishes a demand suspends a sheddable stream and takes its entries from the queue (R45, R82). -/
theorem test_demand_sheds : (after (.endEvent .eop)
    { inp sheddable (at' (.body (complete .census .forward censusPayload)) up) with
      sched := { up.sched with normalQ := [{ lineOf .normal with index := 4 }, lineOf .normal] } }).sched.normalQ
    = [lineOf .normal] := by decide +kernel

/-- A copy that lists an index twice, a stream of width 0 or a count that its words do not have is not well formed (R68). -/
theorem test_census_refused :
    let item : Nat → List Word := fun w => [0x22000000#32, BitVec.ofNat 32 (w * 65536 + 3)]
    censusOf (0x33330000#32 :: 1#32 :: item 4) ≠ none ∧ censusOf (0x33330000#32 :: 2#32 :: (item 4 ++ item 4)) = none ∧
    censusOf (0x33330000#32 :: 1#32 :: item 0) = none ∧ censusOf (0x33330000#32 :: 1#32 :: item 2049) = none ∧
    censusOf (0x33330000#32 :: 2#32 :: item 4) = none ∧ censusOf [0x33330000#32] = none ∧
    (complete .census .forward [0x33330000#32, 1#32]).endsGood = true := by decide +kernel

theorem test_CensusRoundTrip : content.state ≠ .loading ∧ content.offers.length ≤ 8 ∧
    (content.offers.map Offer.index).Nodup ∧
    ∀ o ∈ content.offers, 1 ≤ o.width ∧ o.width ≤ 2048 ∧ 1 ≤ o.height ∧ o.height ≤ 2048 := by decide

theorem test_OwnCensusJudged :
    let r := complete .census .strip [0x11110000#32, 0]
    r.endsGood = true ∧ r.payload = [0x11110000#32, 0] ∧
    up.view.nonce = some ((0x11110000#32).extractLsb' 16 16) ∧ up.view.retired = some ((0x22220000#32).extractLsb' 16 16) ∧
    up.view.nonce ≠ some ((0x44440000#32).extractLsb' 16 16) ∧ up.node.state = .run ∧
    (inState .mute up).node.state = .mute ∧ (inState .standby up).node.state = .standby ∧
    ({ r with repeater := true } : Reception).repeater = true ∧ (inState .fallback up).node.state = .fallback ∧
    up.running ∧ up.link.tx = .between 8 ∧ up.node.waiting = none ∧ (waiting .mute up).node.waiting = some .mute ∧
    (waiting .standby up).node.waiting = some .standby ∧ (sending (.sending lastLineWord) up).link.tx = .sending lastLineWord ∧
    lastLineWord.kind = .line := by
  decide +kernel

/-- A conflict takes a node in RUN to MUTE at once, and waits for the end symbol of an own LINE in transmission; STANDBY is
entered just so (R54, R67, R178). -/
theorem test_entry_at_its_cause :
    let census : State → State := at' (.body (complete .census .strip [0x44440000#32, 0]))
    (after (.endEvent .eop) (census up)).node.state = .mute ∧
    (after (.endEvent .eop) (census (sending (.sending lastLineWord) up))).node =
      { up.node with waiting := some .mute } ∧
    (after (.standby []) up).node.state = .standby ∧
    (after (.standby []) (sending (.sending lastLineWord) up)).node = { up.node with waiting := some .standby } := by
  decide +kernel

/-- The part with that message in its outbox. -/
def inFlightState : State := { up with svc := { up.svc with outbox := [flying] } }

theorem test_ReturnGivesOutcome : inFlight inFlightState.svc.outbox (messageTag 0x30000007#32) = some flying ∧
    (complete .message .strip [0x30000007#32, 0]).payload = [0x30000007#32, 0] ∧ inFlightState.running ∧
    messageTarget 0xF8000007#32 = 31 ∧ messageTag 0xF8000007#32 = flying.tag := by decide +kernel

theorem test_InboxEntryEnds :
    let r := { complete .message .forward [0x18000007#32, 2#32, 5#32, 6#32] with reserved := true, addressed := true }
    r.reserved = true ∧ messageKindCode (r.payload.headD 0) = 0 ∧ entry.complete = false ∧ r.endsGood = true ∧
    fieldOf (r.payload.getD 1 0) 0 5 = r.payload.length - 2 ∧
    ({ up with svc := { up.svc with inbox := [entry] } } : State).svc.inbox = [] ++ [entry] ∧
    messageKindCode 0x19000007#32 = 1 ∧ messageKindCode 0x1A000007#32 = 2 ∧ messageKindCode 0x1B000007#32 = 3 ∧
    (out outPort up).hasCamera = true ∧ up.camera.engaged = false ∧ (inState .standby up).node.state = .standby := by
  decide +kernel

theorem test_SafeOrTransitStarts : up.running ∧ up.link.tx = .between 8 ∧ up.node.state = .run ∧
    up.node.waiting = none ∧ (lineOf .safe).len + 5 + 16 + fillOf (filled 4071) ≤ 4096 ∧
    4096 < (lineOf .safe).len + 5 + 16 + fillOf (filled 4072) ∧ filled 4072 ≠ [] ∧ (lineOf .safe).cls ≠ .control ∧
    (lineOf .safe).len = lineWords (lineOf .safe).fmt (lineOf .safe).width ∧
    (∀ e ∈ filled 4072, e.cut = false) := by decide +kernel

theorem test_LocalStarts : up.running ∧ up.link.tx = .between 8 ∧ up.link.transit = [] ∧ up.sched.safeQ = [] ∧
    up.sched.census = none ∧ up.sched.msgs = [] ∧ (lineOf .normal).len + 5 ≤ up.sched.credit ∧ up.view.missed ≤ 3 ∧
    up.sched.normalQ = [] := by decide

/-- The words of a census on their way: the own number, no hop, a header that arrives good, the payload and its CRC (R14,
12.1, 12.4). -/
theorem test_local_words :
    let left : List Word :=
      match (after .parcelStart { up with sched := { up.sched with census := some [1, 0] } }).link.tx with
      | .sending p => p.left
      | _ => []
    let h := Header.ofWords (left.getD 0 0) (left.getD 1 0) (left.getD 2 0) (left.getD 3 0)
    headerGood h.word0 h.word1 h.word2 h.word3 = true ∧ h.source = 3 ∧ h.hop = 0 ∧ h.kindCode = 2 ∧
    left = [h.word0, h.word1, h.word2, h.word3, 1, 0, crc32 [1, 0]] := by decide +kernel

/-- The second own census send after a warm restart forgets the retired nonce (R60). -/
theorem test_retired_forgotten :
    let sends : Nat → Option Half := fun n => (after .parcelStart { up with
      sched := { up.sched with census := some [1, 2] }, view := { up.view with retiredSends := n } }).view.retired
    sends 0 = some 0x2222 ∧ sends 1 = none := by decide +kernel

/-- A local parcel with one word left. -/
def lastWord : LocalTx := { kind := .census, slot := none, left := [1] }

/-- A transit entry whose words are sent. -/
def sent (cut : Bool) (fin : Option Bool) : TransitEntry := { words := [], heldBack := none, fin := fin, cut := cut }

theorem test_TransmitStream : up.running ∧ up.link.tx = .between 8 ∧ (sent true none).cut = true ∧
    (sending .transit up).link.tx = .transit ∧ (sent false none).words = [] ∧ (sent false none).fin = none ∧
    (sent false (some true)).fin = some true ∧ (sending (.sending lastWord) up).link.tx = .sending lastWord ∧
    lastWord.left = [1] ∧ ({ lastWord with left := [] } : LocalTx).left = [] ∧
    (filled 1).head?.map TransitEntry.words = some [0] := by decide

theorem test_EnterMuteQuiets : (waiting .mute up).running ∧ (waiting .mute up).node.state = .run ∧
    (waiting .mute up).node.waiting = some .mute ∧ ∀ p, (waiting .mute up).link.tx ≠ .sending p := by
  refine ⟨rfl, rfl, rfl, fun p h => ?_⟩; cases h

/-- A port at the vertical blanking, this many pixel periods into it. -/
def blanking (n : Nat) : OutPort := { outPort with pres := { outPort.pres with pos := .blanking, pixel := n } }

/-- A port asked to stop. -/
def stopping (o : OutPort) : OutPort := { o with pres := { o.pres with stopPending := true } }

theorem test_EnterStandbyStops : (waiting .standby up).running ∧ (waiting .standby up).node.state = .run ∧
    (waiting .standby up).node.waiting = some .standby ∧ (∀ p, (waiting .standby up).link.tx ≠ .sending p) ∧
    (stopping (blanking 21)).lock.stretch = none ∧ (stopping (blanking 21)).pres.stopPending = true ∧
    outCfg.ht * (outCfg.vfp + outCfg.vs + outCfg.vbp) = 21 ∧
    (stopping { outPort with pres := { outPort.pres with pos := .active } }).pres.pos ≠ .blanking ∧
    (holding .acquire false).quiet 0 = true ∧ (holding .acquire true).lock.state = .acquire := by
  refine ⟨rfl, rfl, rfl, fun p h => ?_, ?_, ?_, ?_, ?_, ?_, ?_⟩
  · cases h
  all_goals decide

/-- A hold at its limit gives up before an entry to STANDBY and before a RESTART, and a stretch at its limit makes its
computation before the loss of its source (R122, R127, log 2). -/
theorem test_limit_before_event :
    ((after .enterStandby (out (holding .acquire true) (waiting .standby up))).portA.outAnd
      (fun o => o.pres.fillFrame && o.pres.pos == .active && o.lock.stretch == none && o.lock.linesAdded == 3)) = true ∧
    ((after (.restart []) (out (holding .acquire true) up)).portA.outAnd
      (fun o => o.pres.pos == .active && o.lock.stretch == none)) = true ∧
    ((after (.tableEntryExpiry 5) (out { holding .track true with main := { outPort.main with source := .present } }
      { up with tick := 4500, view := { up.view with table := [
        { station := 5, nonce := 0x3333, state := .run, hops := 2, demand := false, offers := [], seen := 0 }] } })).portA.outAnd
      (fun o => o.lock.state == .holdover && o.lock.lastError == -8 && o.lock.stretch == none)) = true := by decide +kernel

/-- An entry to STANDBY leaves a camera state with no deadline and nothing to return to (R161). -/
theorem test_standby_forgets_camera : (after .enterStandby (out (engaged outPort) (waiting .standby up))).portA.outAnd
    (fun o => o.cam == CameraPort.fresh) = true := by decide +kernel

/-- The port stops at the end of the last back-porch line, not before (R148). -/
theorem test_stop_at_frame_end : (after (.portStop .a) (out (stopping (blanking 20)) up)).portA.outAnd
      (fun o => o.pres.pos == .blanking) = true ∧
    (after (.portStop .a) (out (stopping (blanking 21)) up)).portA.outAnd (fun o => o.pres.pos == .stopped) = true := by
  decide +kernel

theorem test_WakesFromStandby :
    let s := { inState .standby up with node := { up.node with state := .standby, wakeFound := true } }
    s.running ∧ s.node.state = .standby ∧ s.node.wakeFound = true ∧ (holding .free false).lock.stretch.isSome = true ∧
    (holding .free false).pres.pos ≠ .stopped ∧
    ({ outPort with pres := { outPort.pres with pos := .stopped } } : OutPort).pres.pos = .stopped := by decide

/-- A wake settles the streams anew: RUNNING, but for one that is shed under demand (R81, R83). -/
theorem test_wake_settles :
    let asleep : Bool → State := fun d =>
      { inp { sheddable with streams := sheddable.streams.map (fun k => { k with state := .suspended }) } up with
        node := { up.node with state := .standby, wakeFound := true }, view := { up.view with demand := d } }
    ((after .wakePin (asleep false)).portB.streams.map Stream.state, (after .wakePin (asleep true)).portB.streams.map Stream.state)
      = ([.running], [.suspended]) := by decide +kernel

/-- A wake keeps the lines-added figure, and the number of the added line it ended (R131, log 46). -/
theorem test_wake_keeps_lines :
    let o : OutPort := { holding .free false with lock := { (holding .free false).lock with linesAdded := 9 } }
    ((after .wakePin (out o { up with node := { up.node with state := .standby, wakeFound := true } })).portA.outAnd
      (fun q => q.lock.linesAdded == 9 && q.lineNumber == 4 && q.lock.stretch == none)) = true := by decide +kernel

theorem test_Quiet : up.running ∧ up.Quiet := by
  refine ⟨rfl, ⟨⟨?_, ?_⟩, ?_, ?_, ?_, ?_, ?_, ?_, ?_, ?_, ?_⟩⟩ <;> decide +kernel

theorem test_TickRefillsCredit : (yielding up).running ∧ (yielding up).Quiet ∧ (yielding up).sched.yield = true := by
  refine ⟨rfl, ⟨⟨?_, ?_⟩, ?_, ?_, ?_, ?_, ?_, ?_, ?_, ?_, ?_⟩, rfl⟩ <;> decide +kernel

theorem test_TickMovesTimers : (out lastLine up).running ∧ (out lastLine up).Quiet ∧ lastLine.pres.pos = .active ∧
    outCfg.va ≤ lastLine.pres.nextLine := by
  refine ⟨rfl, ⟨⟨?_, ?_⟩, ?_, ?_, ?_, ?_, ?_, ?_, ?_, ?_, ?_⟩, rfl, ?_⟩ <;> decide +kernel

/-- A tick takes the end of the last active line into the blanking (R134). -/
theorem test_tick_leaves_last_line : (after (.microsecondTick false false) (out lastLine up)).portA.outAnd
    (fun o => o.pres.pos == .blanking && o.pres.pixel == 148 - 7) = true := by decide +kernel

/-- The pins: data enable in an active pixel, the horizontal sync after the front porch, the vertical sync in its line of the
blanking, and nothing of an active line after its pixels (R134). -/
theorem test_pins :
    let at'' : Nat → OutPort := fun n =>
      { outPort with pres := { outPort.pres with
        pos := .active, nextLine := 1, pixel := n, driven := [{ r := 5, g := 0, b := 0 }, { r := 6, g := 0, b := 0 }] } }
    1 ≤ outCfg.hs ∧ 1 ≤ outCfg.vs ∧
    (at'' 1).pins = { clock := true, hsync := false, vsync := false, enable := true, data := { r := 6, g := 0, b := 0 } } ∧
    (at'' 5).pins = { clock := true, hsync := true, vsync := false, enable := false, data := { r := 0, g := 0, b := 0 } } ∧
    (blanking 7).pins = { clock := true, hsync := false, vsync := true, enable := false, data := { r := 0, g := 0, b := 0 } } ∧
    (blanking 14).pins = { clock := true, hsync := false, vsync := false, enable := false, data := { r := 0, g := 0, b := 0 } }
    := by decide +kernel

theorem test_TimersExpire : up.running ∧ up.sched.starved = false ∧ up.patience < elapsed 36 (lineOf .normal).entryTime ∧
    ¬(up.patience < elapsed 35 (lineOf .normal).entryTime) ∧
    ({ up with sched := { up.sched with yield := true } } : State).sched.yieldTime = 0 ∧
    up.node.state ≠ .loading ∧ up.view.nonce = some 0x1111 := by decide

/-- A census lists the enabled windows in order of stream index with their configured sizes (R80). -/
theorem test_census_offers :
    let s : State := (inp { inPort with streams := [Stream.fresh Window.disabled, Stream.fresh window] } up).setPort .a (.input inPort)
    (after .censusTimerExpiry { s with view := { s.view with timer := some 0 } }).sched.census =
      some (censusWords 0x1111 .run false
        [{ index := 0, width := 2, height := 2, fmt := .p30, cls := .safe, suspended := false },
          { index := 5, width := 2, height := 2, fmt := .p30, cls := .safe, suspended := true }]) ∧
    s.ownDemand = false := by decide +kernel

/-- An entry of station 5. -/
def tableEntry : TableEntry :=
  { station := 5, nonce := 0x3333, state := .run, hops := 2, demand := false, offers := [], seen := 0 }

theorem test_EntryExpires : entryFor [tableEntry] 5 = some tableEntry ∧ 4500 ≤ elapsed 4500 tableEntry.seen ∧
    outPort.main.active = some 41 ∧ sourceOf 41 = 5 ∧
    ({ outPort.main with source := .present } : Sink).source = .present ∧
    (let calm : Sink → Sink := fun k => { k with silent := 0 }
     ({ showing .full with main := calm (showing .full).main, overlay := none } : OutPort).quiet 0 = true ∧
      ({ showing .inset with main := calm outPort.main, overlay := (showing .inset).overlay.map calm } : OutPort).quiet 0 = true) ∧
    (holding .track false).quiet 0 = true ∧
    (holding .track true).lock.stretch = some { added := 3, ending := false, limit := true } ∧
    (holding .track true).main.silent < 3 := by decide +kernel

theorem test_SilenceForgets : up.running ∧ up.node.state = .run ∧ (inp inPort up).port .b = .input inPort ∧
    ({ inPort with silence := some 0 } : InPort).silence = some 0 := by decide +kernel

theorem test_MessageLost : inFlight inFlightState.svc.outbox 7 = some flying ∧ flying.sent = some 0 ∧
    3000 ≤ elapsed 3000 0 ∧ inFlightState.running := by decide

/-- The witnesses of the entry that is taken before an engage. -/
theorem test_ReverseEngages_entry :
    let s : State := out outPort { up with camera := { up.camera with stability := 10000 } }
    (∀ p, s.link.tx ≠ .sending p) ∧ (waiting .mute s).node.waiting = some .mute ∧
    (waiting .standby s).node.waiting = some .standby ∧
    exec .enterMute (waiting .mute s) = .next (after .enterMute (waiting .mute s)) ∧
    exec .enterStandby (waiting .standby s) = .next (after .enterStandby (waiting .standby s)) := by
  refine ⟨fun p h => ?_, rfl, rfl, rfl, rfl⟩
  cases h

theorem test_ReverseEngages :
    let s : State := out outPort { up with camera := { up.camera with stability := 10000 } }
    let r : State := out (engaged outPort) { s with camera := { s.camera with debounced := true } }
    s.running ∧ s.node.state = .run ∧ 10000 ≤ s.camera.stability ∧ s.hasCamera = true ∧ s.camera.engaged = false ∧
    outPort.quiet 0 = true ∧ (engaged outPort).quiet 0 = false ∧
    ({ engaged outPort with cam := { (engaged outPort).cam with deadline := some 9 } } : OutPort).quiet 0 = true ∧
    ({ s.camera with debounced := !s.camera.debounced } : CameraControl).engaged = true ∧ outCfg.camMode = .full ∧
    outPort.main.active ≠ some outCfg.camStream ∧ outPort.pres.pos ≠ .stopped ∧
    lastLine.pres.cutDone = false ∧ 0 < lastLine.pres.nextLine ∧ lastLine.pres.pixel < outCfg.ht ∧
    s.entryDue .mute = false ∧ s.entryDue .standby = false ∧ (inState .standby s).node.state = .standby ∧ (inState .standby s).hasCamera = true ∧
    r.hasCamera = true ∧ r.camera.engaged = true ∧
    ({ r.camera with debounced := !r.camera.debounced } : CameraControl).engaged = false ∧
    (engaged outPort).cam.resume = some { sub := some 41, x := 0, y := 0 } ∧ (engaged outPort).cam.state = .switching ∧
    up.hasCamera = false ∧ (engaged outPort).cam.deadline = some 0 ∧ laterTime 0 r.tick = false := by decide +kernel

theorem test_InputFrameStarts : up.running ∧ up.node.state = .run ∧ (inp started up).port .b = .input started ∧
    started.silence ≠ some 0 ∧ started.streams.length = 1 ∧ (∀ x ∈ started.streams, x.asm = []) ∧ window.enabled = true ∧
    started.lines = 2 ∧ started.maxW = 2 ∧ window.shed = false ∧
    ¬(({ window with x0 := 9 } : Window).enabled = true ∧ started.maxW > 9) ∧
    16 ≤ (List.replicate 16 { lineOf .safe with isMark := true }).length := by decide +kernel

/-- A frame start puts the MARK behind what is queued, the stream's stale LINE gone; a full queue drops it (R42, R84, R90).
Of three windows, one that lies beyond the geometry opens no frame, and the others open theirs clipped (R84). -/
theorem test_frame_start_marks :
    (after (.inputFrameStart .b) { inp started up with
        sched := { up.sched with safeQ := [{ lineOf .safe with index := 4 }] } }).sched.safeQ.map
      (fun e => (e.isMark, e.index, e.frame, e.width, e.height)) = [(true, 4, 1, 2, 2)] ∧
    (after (.inputFrameStart .b) { inp started up with
        sched := { up.sched with safeQ := List.replicate 16 (lineOf .safe) } }).isPending .sendDrop = true ∧
    (after (.inputFrameStart .b) (inp { started with streams :=
        [Stream.fresh { window with x0 := 9 }, Stream.fresh { window with x0 := 1 },
          Stream.fresh { window with cls := .normal, y0 := 1 }] } up)).portB =
      .input { started.newFrame with streams :=
        [{ Stream.fresh { window with x0 := 9 } with state := .running },
          { Stream.fresh { window with x0 := 1 } with state := .running, frame := some { width := 1, height := 2 } },
          { Stream.fresh { window with cls := .normal, y0 := 1 } with
            state := .running, frame := some { width := 2, height := 1 } }] } := by
  decide +kernel

/-- Two windows that the end of their input line cuts short are placed in order of stream index, with the pixels they have,
and so they are by a frame start (R85); the counts stop at 2048 lines and 4096 pixels (R76). -/
theorem test_lines_cut_short :
    let k : Stream := { Stream.fresh { window with width := 4 } with
      state := .running, frame := some { width := 4, height := 2 }, asm := [{ r := 1, g := 1, b := 1 }] }
    let q : InPort := { inPort with streams := [k, { k with asm := k.asm ++ k.asm }] }
    ((after (.inputLineEnd .b) (inp q up)).sched.safeQ.map (fun e => (e.index, e.width))) = [(4, 1), (5, 2)] ∧
    ((after (.inputFrameStart .b) (inp q up)).sched.safeQ.map PicEntry.isMark) = [true, true] ∧
    after (.inputFrameStart .b) (inp q up) = after (.inputFrameStart .b) (after (.inputLineEnd .b) (inp q up)) ∧
    after (.activePixel .b 1 1 1) (inp { q with x := 4096 } up) = inp { q with x := 4096 } up ∧
    after (.activePixel .b 1 1 1) (inp { q with lines := 2048 } up) = inp { q with lines := 2048 } up ∧
    after (.activePixel .b 1 1 1) (inState .fallback (inp q up)) = inState .fallback (inp q up) := by decide +kernel

/-- Two windows that end on one pixel are placed in order of stream index (R85). -/
theorem test_two_windows : ((after (.activePixel .b 2 2 2)
      (inp { inPort with streams := inPort.streams ++ inPort.streams } up)).sched.safeQ.map PicEntry.index,
    (after (.activePixel .b 2 2 2) (inp { inPort with streams := inPort.streams ++ inPort.streams } up)).store.map SendSlot.slot)
    = ([4, 5], [0, 1]) := by decide +kernel

theorem test_ActivePixelTaken :
    ∃ k f, inPort.streams = [k] ∧ inPort.silence ≠ some 0 ∧ inPort.measuring = true ∧ inPort.lines < 2048 ∧
      inPort.x < 4096 ∧ k.frame = some f ∧
      k.state = .running ∧ k.win.cls = .safe ∧ k.win.y0 ≤ inPort.lines ∧ inPort.lines < k.win.y0 + f.height ∧
      inPort.x = k.win.x0 + k.win.phase + k.win.step * k.asm.length ∧ f.width ≤ k.asm.length + 1 ∧
      (inp inPort up).sched.safeQ.length < 16 ∧ (inp inPort up).store.length + 1 ≤ 24 ∧
      (∀ x ∈ (inp inPort up).store, x.slot ≠ 0) ∧ 24 < (List.replicate 24 0).length + 1 := by
  refine ⟨_, _, rfl, ?_, ?_, ?_, ?_, rfl, rfl, rfl, ?_, ?_, ?_, ?_, ?_, ?_, ?_, ?_⟩ <;> decide +kernel

/-- With a SAFE stream RUNNING a NORMAL line needs five free slots (R89). -/
theorem test_normal_needs_five :
    let n : InPort := { inPort with
      streams := inPort.streams.map (fun k => { k with win := { k.win with cls := .normal } }) }
    let s (held : Nat) : State := (inp n { up with store := (List.range held).map (fun i => { slot := i, words := [] }) }).setPort .a
      (.input { inPort with streams := inPort.streams.map (fun k => { k with asm := [] }) })
    (after (.activePixel .b 2 2 2) (s 19)).sched.normalQ.length = 1 ∧
    (after (.activePixel .b 2 2 2) (s 20)).sched.normalQ = [] := by decide +kernel

theorem test_OutputFrameStarts : (out (blanking 21) up).port .a = .output (blanking 21) ∧ (blanking 21).pres.pos = .blanking ∧
    (blanking 21).pres.stopPending = false ∧ (blanking 21).lock.stretch = none ∧ (blanking 21).quiet 0 = true ∧
    (blanking 20).pres.pixel < 21 ∧ (blanking 21).lock.state = .acquire ∧ (blanking 21).main.shadow = none ∧
    (blanking 21).main.lead < outCfg.t ∧ ({ blanking 21 with lock := tracking 0 } : OutPort).quiet 0 = true ∧
    (withOverlay (blanking 21)).overlay.isSome = true := by decide +kernel

/-- A tracking port whose frame began without a marker has one silent frame more, and a released port's inset hold is cleared
(R108, R157). -/
theorem test_silent_frame :
    ((after (.outputFrameStart .a) (out { blanking 21 with
      lock := tracking 0, cam := { outPort.cam with insetHold := true } } up)).portA.outAnd
        (fun o => o.main.silent == 1 && !o.cam.insetHold)) = true := by decide +kernel

/-- A change of the OVERLAY record's subscription alone blanks SWB frames; a changed MAIN subscription is acquired anew (R137,
R117). -/
theorem test_take_over :
    let shadowed : Sink → Sink := fun k => { k with shadow := some { sub := some 8, x := 0, y := 0 } }
    ((after (.outputFrameStart .a) (out { withOverlay (blanking 21) with
      overlay := (withOverlay outPort).overlay.map shadowed } up)).portA.outAnd
        (fun o => o.pres.blank == 2 && o.main.active == some 41 && o.overlay.any (fun k => k.active == some 8))) = true ∧
    ((after (.outputFrameStart .a) (out { blanking 21 with
      main := shadowed outPort.main, lock := { tracking 77 with inc := 9 } } up)).portA.outAnd
        (fun o => o.lock.state == .acquire && o.lock.integ == 0 && o.lock.inc == 1594506609 && o.pres.pos == .added)) = true :=
  by decide +kernel

theorem test_FrameLockComputes : outCfg.lockOk = true ∧ (tracking 0).locked = false ∧
    ({ tracking 0 with locked := true } : FrameLock).locked = true ∧ (tracking 0).inWin < 3 ∧
    ({ tracking 0 with inWin := 3 } : FrameLock).inWin = 3 ∧ (2 : Int).natAbs ≤ outCfg.w ∧ outCfg.w < (3 : Int).natAbs ∧
    (tracking 0).outWin = 0 ∧ (tracking 0).limited = .clear := by decide

/-- The same port in a frame that is cut, and with its hold ending. -/
def cutting (o : OutPort) : OutPort := { o with pres := { o.pres with cutDone := true } }

theorem test_AddedLinesJudged : (holding .acquire false).quiet 0 = true ∧ (holding .track false).quiet 0 = true ∧
    (holding .acquire false).lock.stretch = some { added := 3, ending := false, limit := false } ∧
    (holding .acquire false).pres.pos = .added ∧ outCfg.ht ≤ (holding .acquire false).pres.pixel ∧
    (holding .acquire false).pres.cutDone = false ∧ (cutting (holding .track false)).pres.cutDone = true ∧
    ({ added := 3, ending := false, limit := false } : Stretch).stop.ending = true ∧
    ({ holding .track false with pres := { outPort.pres with pos := .added, pixel := 6 } } : OutPort).pres.pixel < outCfg.ht ∧
    (holding .acquire true).lock.stretch = some { added := 3, ending := false, limit := true } ∧
    (holding .acquire true).lock.state = .acquire ∧ (holding .track true).lock.state = .track := by decide +kernel

/-- An added line that brings the lead to T enters TRACK with the computation at that lead, from clear counts (R123, R124). -/
theorem test_track_entered :
    let o : OutPort := { holding .acquire false with
      lock := { (holding .acquire false).lock with locked := true, limited := .upper, inWin := 3, outWin := 1 }
      main := { (receiving (List.range 9)).main with
        queue := (List.range 9).map (fun n =>
          { slot := n, frame := 9, line := n, width := 4, fmt := .p30, full := true, pixels := [] }) } }
    let l : FrameLock := { outPort.lock with linesAdded := 4, stretch := none, state := .track }
    ((after (.addedLineEnd .a) (out o up)).portA.outAnd (fun q =>
      q.main.lead == 9 && q.lock == (FrameLock.compute outCfg 9 l).1 && q.lock.inWin == 1 && q.pres.pos == .active)) = true := by
  decide +kernel

/-- A cut added line gives way to the next output frame start at once (R138). -/
theorem test_cut_added_line : (after (.outputFrameStart .a) (after (.addedLineEnd .a)
    (out (cutting (holding .track false)) up))).portA.outAnd (fun o => o.pres.cutDone == false && o.pres.pos == .added)
    = true := by decide +kernel

theorem test_SilenceLosesSource : (out outPort up).port .a = .output outPort ∧
    3 ≤ ({ outPort.main with silent := 3 } : Sink).silent ∧ (withOverlay outPort).overlay.isSome = true ∧
    outCfg.holdFrames ≤ ({ outPort.lock with state := .holdover, holdCount := 30 } : FrameLock).holdCount := by
  decide +kernel

/-- A FULL record of frame 9. -/
def lineRec (y : Nat) : LineRec :=
  { slot := y, frame := 9, line := y, width := 4, fmt := .p30, full := true, pixels := [] }

/-- A port at its active lines, with a presented frame of three lines. -/
def drawing (ls : List LineRec) : OutPort :=
  { outPort with
    pres := { outPort.pres with pos := .active, nextLine := 1, pixel := 7 }
    main := { outPort.main with presented := some { no := 9, width := 4, height := 3 }, queue := ls } }

/-- A port whose second line is over, and its last one with it. -/
def drivenOver : OutPort := { drawing [] with pres := { (drawing []).pres with nextLine := 2, pixel := 16 } }

theorem test_ActiveLineShown : (drawing [lineRec 0, lineRec 1]).quiet 0 = true ∧
    (drawing [lineRec 0, lineRec 1]).pres.nextLine < outCfg.va ∧ (drawing []).pres.fillFrame = false ∧
    outCfg.ht ≤ (drawing []).pres.pixel ∧
    dropLate 9 1 (drawing [lineRec 0, lineRec 1]).main.queue = [lineRec 1] ∧ (lineRec 1).full = true ∧
    dropLate 9 1 (drawing [lineRec 0, lineRec 2]).main.queue = [lineRec 2] ∧ (lineRec 2).line ≠ 1 ∧
    (drawing []).lock.stretch = none ∧ (drawing []).overlay = none ∧
    (withOverlay (drawing [])).overlay.map Sink.y = some 1 ∧ dropLate 9 0 [lineRec 0] = [lineRec 0] ∧
    ({ drawing [] with pres := { (drawing []).pres with fillFrame := true } } : OutPort).quiet 0 = true ∧
    (engaged (drawing [lineRec 1])).cam.state = .switching ∧ drivenOver.pres.nextLine + 1 = outCfg.va ∧
    outCfg.ht ≤ drivenOver.pres.pixel - outCfg.ht := by decide +kernel

/-- The start of the last active line, all of whose periods and two more have been given, leaves the port in blanking (R134). -/
theorem test_last_line_over : ((after (.activeLineStart .a) (out drivenOver up)).portA.outAnd
    (fun o => o.pres.pos == .blanking && o.pres.pixel == 2 && o.pres.line == 2)) = true := by decide +kernel

/-- A camera line presented takes SWITCHING to SHOWING (R156), and a key-coloured overlay pixel shows the main line (R143). -/
theorem test_active_line :
    ((after (.activeLineStart .a) (out (engaged (drawing [lineRec 1])) up)).portA.outAnd
      (fun o => o.cam.state == .showing && o.main.queue == [])) = true ∧
    merge (some { r := 1, g := 2, b := 3 }) 1 (outCfg.fillLine)
      [{ r := 1, g := 2, b := 3 }, { r := 9, g := 9, b := 9 }] =
        [outCfg.fill, outCfg.fill, { r := 9, g := 9, b := 9 }, outCfg.fill] := by decide +kernel

/-- An active line whose first pixel is driven, with temporal dither and a fill colour that dithering changes. -/
def halfDriven : OutPort :=
  { drawing [] with
    cfg := { outCfg with dither := .temporal, ditherSeed := 0, fill := { r := 513, g := 513, b := 513 } }
    pres := { (drawing []).pres with
      nextLine := 2, line := 1, pixel := 0, gen := 1, driven := [{ r := 9, g := 9, b := 9 }]
      ahead := [{ r := 0, g := 0, b := 0 }, { r := 0, g := 0, b := 0 }] } }

/-- A restart within that line makes the pixels to come fill and seeds the generator, which then advances before each of them:
FFFFh to CBFFh, so that 513 gives 129, and on to D1FFh (R146, R149). -/
theorem test_restart_reseeds :
    let t := after (.microsecondTick false false) (after (.restart []) (out halfDriven up))
    (t.portA.outAnd (fun o => o.pres.gen == 0xD1FF && o.pres.ahead == [] &&
      o.pres.driven.map Pixel.r == [9, 129, 129])) = true := by decide +kernel

/-- The generator advances once before each pixel, as its pixel period is given (R146). -/
theorem test_pixels_driven :
    ((after (.activeLineStart .a) (out { drawing [] with pres := { (drawing []).pres with pixel := 8, gen := 1 } } up)).portA.outAnd
      (fun o => o.pres.gen == advance (advance 1) && o.pres.driven.length == 2 && o.pres.ahead.length == 2)) = true ∧
    ((after (.microsecondTick false false) (out halfDriven up)).portA.outAnd
      (fun o => o.pres.gen == advance (advance 1) && o.pres.driven.length == 3)) = true := by decide +kernel

/-- An overlay line over a repeated main line takes an INSET port to SHOWING (R142, R156). -/
theorem test_overlay_over_repeat :
    let ov : Sink := { Sink.fresh { first := 12, count := 4, initSub := some 8, initX := 1, initY := 1 } with
      presented := some { no := 9, width := 1, height := 1 }
      queue := [{ slot := 12, frame := 9, line := 0, width := 1, fmt := .p30, full := true, pixels := [{ r := 400, g := 0, b := 0 }] }] }
    let o : OutPort := engaged { drawing [] with
      cfg := { outCfg with camMode := .inset }, overlay := some ov
      pres := { (drawing []).pres with pixel := 10, lastLine := List.replicate 4 { r := 800, g := 0, b := 0 } } }
    ((after (.activeLineStart .a) (out { o with cam := { o.cam with deadline := some 9 } } up)).portA.outAnd
      (fun q => q.cam.state == .showing && q.pres.repeated == 1 && q.pres.driven.map Pixel.r == [200, 100, 200, 200])) = true :=
  by decide +kernel

theorem test_PanelDepthReduced : outCfg.depth = 8 ∧ outCfg.dither = .off ∧
    ({ outCfg with dither := .temporal } : OutCfg).dither ≠ .off ∧ outCfg.depth ≠ 10 := by decide

theorem test_FramesWithoutRequest : up.running ∧ frameMismatch [1] = true ∧ frameMismatch [] = true ∧ 1 ≤ 1 ∧
    (14#8) ≠ 0 ∧ 13 < (14#8).toNat := by decide

theorem test_ShowAndInset : (out (withOverlay outPort) up).port .a = .output (withOverlay outPort) ∧
    portArg 0 = some .a ∧ streamArg 0xFF = some none ∧ streamArg 127 = some (some 127) ∧
    up.node.state.full = true ∧ 256 * (0#8).toNat + (3#8).toNat < outCfg.ha ∧ 256 * (0#8).toNat + (2#8).toNat < outCfg.va ∧
    outCfg.ha ≤ 256 * (0#8).toNat + (4#8).toNat ∧ outCfg.va ≤ 256 * (0#8).toNat + (3#8).toNat ∧ 2 ≤ (2#8).toNat ∧
    128 ≤ (128#8).toNat ∧ (254#8).toNat ≤ 254 ∧ outPort.overlay = none ∧
    loading.running ∧ loading.node.state = .loading ∧ ([] : List Byte).length ≠ 2 := by decide +kernel

theorem test_show_no_output : ∀ o, up.portA ≠ .output o := fun o h => by cases h

/-- SHOW and INSET with arguments that R165 refuses. -/
theorem test_show_refused : ∀ args ∈ ([[2, 41], [0, 128], [0, 254], [1, 41], [0]] : List (List Byte)),
    (after (.showStream args) (out outPort up)).svc.response = some { code := .badArg, data := [] } := by decide +kernel

theorem test_inset_refused : ∀ args ∈ ([[0, 41, 0, 4, 0, 2], [0, 41, 0, 3, 0, 3], [0, 41, 0, 3, 0]] : List (List Byte)),
    (after (.inset args) (out (withOverlay outPort) up)).svc.response = some { code := .badArg, data := [] } := by
  decide +kernel

theorem test_QueriesAnswer : up.running ∧ selectorOf (0x1F#8).toNat = some (.entry 15) ∧ selectorOf (0x22#8).toNat = none ∧
    (127#8).toNat < 128 ∧ up.node.state.full = true ∧ up.node.state ≠ .loading ∧ loading.node.state = .loading ∧
    up.port .a = .unused AtRest.cold ∧ (out outPort up).port .a = .output outPort ∧
    (inp inPort up).port .b = .input inPort ∧ entryFor up.view.table 5 = none ∧ BitVec.ofNat 4 (41 / 8) = (5#4) := by
  decide +kernel

/-- CAMERA_LATE is the first code whatever else is pending; a pending cause that is not enabled is no first code and does not
assert ATN (R172, R173). -/
theorem test_first_code :
    let s : Half → Half → State := fun p e => { up with att := { up.att with pending := p, enable := e } }
    let code : State → Option Byte := fun s => (after (.attention []) s).svc.response.bind (fun r => r.data.getLast?)
    code (s 0x0231 0x0220) = some 1 ∧ code (s 0x0230 0x0220) = some 6 ∧ code (s 0x0010 0x0220) = some 0 ∧
    (s 0x0010 0x0220).atn = false ∧ (s 0x0020 0x0220).atn = true ∧ (s 1 0).atn = true ∧ (s 1 0).fault = true := by
  decide +kernel

/-- Requests that the node state does not allow, and arguments that do not fit (R164). -/
theorem test_not_served :
    (∀ c ∈ [Instr.probe [41], .send [6, 0], .take [], .result [], .camera [7], .standby [], .wake [6], .restart [1]],
      (after c loading).svc.response = some { code := .state, data := [] }) ∧
    ∀ c ∈ [Instr.camera [2], .camera [], .standby [0], .wake [16], .wake [], .restart [0], .status [], .status [0x0F],
        .probe [], .attention [0], .clear [0]],
      (after c up).svc.response = some { code := .badArg, data := [] } := by decide +kernel

/-- STATUS gives an entry's streams in order of stream index, whatever order its census had (12.5), its last-seen time and its age (R167); PROBE judges each output
port (R166). -/
theorem test_streams_in_order :
    let offer : BitVec 3 → Offer := fun i => { index := i, width := 4, height := 3, fmt := .p30, cls := .safe, suspended := false }
    let s : State := out outPort { up with view := { up.view with table := [
      { station := 5, nonce := 0x3333, state := .run, hops := 2, demand := false, offers := [offer 6, offer 1], seen := 7 }] }, tick := 9 }
    (after (.status [0x15]) s).svc.response = some
      { code := .done, data := [1, 5, 0x33, 0x33, 0, 2, 0, 2, 1, 0, 4, 0, 3, 2, 0, 0, 6, 0, 4, 0, 3, 2, 0, 0, 0, 0, 0, 7, 0, 0, 0, 2] } ∧
    (after (.probe [41]) s).svc.response = some { code := .done, data := [1, 0, 4, 0, 3, 2, 0, 0, 0, 2, 1, 1, 1] } ∧
    (after (.probe [40]) s).svc.response = some { code := .done, data := [0] } := by decide +kernel

theorem test_MessagesRequested : up.running ∧ up.node.state.full = true ∧
    sendArgs up.node.station [6, 0] = some { target := some 6, kind := .user, user := [] } ∧
    up.svc.outbox.length < 4 ∧ 4 ≤ ([flying, flying, flying, flying] : List OutMessage).length ∧
    ([] : List InMessage) ++ { entry with complete := true } :: [entry] = [{ entry with complete := true }, entry] ∧
    up.svc.inbox = [] ∧ up.svc.results = [] ∧ (3#8).toNat = up.node.station.toNat ∧ 16 ≤ (16#8).toNat ∧ (254#8).toNat ≠ 255 ∧
    4 ≤ (4#8).toNat ∧ (64 : Nat) ≤ 64 ∧ 64 < 68 ∧ 68 ≤ 253 := by decide +kernel

/-- A tag in the outbox is passed over, and what TAKE and RESULT answer (R168, R170, R171). -/
theorem test_message_bytes :
    let s : State := { up with svc := { up.svc with
      tag := 6, outbox := [flying]
      inbox := [{ entry with complete := true, words := [0x01020304], broadcast := true }]
      results := [{ tag := 7, outcome := .refused, counts := some (2, 3) }] } }
    (after (.send [6, 0]) s).svc.response = some { code := .done, data := [8] } ∧
    (after (.take []) s).svc.response = some { code := .done, data := [5, 0, 7, 1, 1, 2, 3, 4, 1] } ∧
    (after (.result []) s).svc.response = some { code := .done, data := [7, 1, 1, 2, 3] } := by decide +kernel

theorem test_ControlRequests : up.running ∧ up.node.state.full = true ∧ up.node.state = .run ∧
    up.node.waiting ≠ some .mute ∧ up.ownDemand = false ∧ (6#8).toNat < 16 ∧ (6#8).toNat ≠ up.node.station.toNat ∧
    (3#8).toNat = up.node.station.toNat ∧ (inState .standby up).node.state = .standby ∧
    (out { outPort with cam := { outPort.cam with state := .showing } } up).ownDemand = true ∧
    (sending (.sending lastLineWord) up).link.tx = .sending lastLineWord ∧ lastLineWord.kind = .line ∧
    up.link.tx = .between 8 := by decide +kernel

/-- CAMERA on engages and CAMERA off releases, with CAMERA_CHANGE (R152, R165); WAKE of station 6 queues its message (R168). -/
theorem test_camera_request :
    let on := after (.camera [1]) (out outPort up)
    let off := after (.camera [0]) { on with att := { on.att with pending := 0 } }
    on.svc.response = some { code := .done, data := [] } ∧ on.isPending .cameraChange = true ∧ on.view.demand = true ∧
    (on.portA.outAnd (fun o => o.cam.state == .switching && o.cam.deadline == some 200000 && o.main.active == some 8)) = true ∧
    off.isPending .cameraChange = true ∧ off.view.demand = false ∧ (off.portA.outAnd (fun o => o.cam.state == .idle)) = true ∧
    (after (.wake [6]) up).sched.msgs = [{ tag := 0, words := [0x33000000#32, 0#32] }] := by decide +kernel

theorem test_RestartRestarts : up.running ∧ up.node.state.full = true ∧ up.node.ring = some ringCfg ∧
    (out outPort up).port .a = .output outPort ∧ outPort.quiet 0 = true ∧ 1 ≤ outCfg.t ∧ outCfg.camMode = .full ∧
    (inp inPort up).port .b = .input inPort ∧ up.pins.reverse = false ∧ mainCfg.initSub ≠ some outCfg.camStream ∧
    drivenOver.pres.pos = .active ∧ 0 < drivenOver.pres.nextLine ∧ outCfg.ht ≤ drivenOver.pres.pixel ∧
    drivenOver.quiet 0 = true ∧ ({ outCfg with camMode := .inset } : OutCfg).camMode = .inset ∧ (withOverlay outPort).overlay.isSome = true ∧
    ({ outPort with pres := { outPort.pres with pos := .stopped } } : OutPort).lock.stretch = none ∧
    (holding .acquire true).lock.stretch = some { added := 3, ending := false, limit := true } := by decide +kernel

/-- A cut-through parcel whose SOP still waits for the gap is lost in a restart without EOPX (log 53). -/
theorem test_restart_cut_through :
    let t := after (.restart []) (transit [{ words := [1, 2, 3, 4], heldBack := none, fin := none, cut := true }] (sending (.between 3) up))
    t.link.transit = [] ∧ t.link.tx = .between 3 ∧ t.link.out = up.link.out := by decide +kernel

/-- A restart ends a parcel in transmission with EOPX, and puts out nothing between parcels (R15). -/
theorem test_restart_eopx : (after (.restart []) (sending .transit up)).link.out = .eopx ∧
    (after (.restart []) (sending (.between 3) up)).link.out = up.link.out ∧
    (after (.restart []) (sending (.between 3) up)).link.tx = .between 3 := by decide +kernel

/-- A restart while REVERSE is high engages the camera at once, CAMERA_LATE staying pending (R160, R161). -/
theorem test_restart_reverse :
    let s : State := { out outPort up with pins := { reverse := true, wake := false }, att := { up.att with pending := 0xFFFF } }
    let t := after (.restart []) s
    t.att.pending = 0x0011 ∧ t.view.demand = true ∧ (t.portA.outAnd (fun o =>
      o.cam.state == .switching && o.main.active == some 8 && o.cam.resume == some { sub := some 41, x := 0, y := 0 })) = true := by
  decide +kernel

/-- A state with bounds to keep, and a step from it. -/
theorem test_BoundedKept : (out outPort up).Bounded ∧ exec .signalPresent (out outPort up) = .next (out outPort up) := by
  have hs : (out outPort up).sinks = [outPort.main] := by decide +kernel
  refine ⟨⟨?_, ?_, ?_, ?_, ?_, ?_, ?_, ?_, ?_, ?_, ?_, ?_, ?_, ?_, ?_, ?_, ?_, ?_, ?_, ?_, fun r h => ?_, fun h => ?_,
    fun k hk => ?_, ?_⟩, rfl⟩
  case refine_21 => cases h
  case refine_22 => cases h
  case refine_23 =>
    rw [hs, List.mem_singleton] at hk
    subst hk
    exact ⟨by decide, by decide, by decide⟩
  all_goals decide +kernel

theorem test_SteadyKept : (out outPort up).Steady ∧
    Sys2Proof.Machine.step { out outPort up with pending := [.signalPresent] } = .next (out outPort up) :=
  ⟨⟨⟨by decide, ⟨by decide, by decide, by decide, by decide⟩⟩, trivial⟩, rfl⟩

theorem test_OrderedKept : ({ up with view := { up.view with table := [tableEntry] } } : State).Ordered := by
  refine ⟨by simp, fun n h => ?_⟩
  cases h; decide

end Sys2Proof.Tests
end

section
/-! PROOFS. The microsecond tick at which nothing is due: what it counts, what a port's oscillator and timing do in it, and what
the pins of an output port carry (R1, R114, R134, R145, R148, R150). -/

namespace Sys2Proof.Machine

/-! ### The tick -/

/-- A tick that finds nothing due only counts (R1, log 2). -/
theorem exec_microsecondTick_quiet (s : State) (reverse wake : Bool) (hrun : s.running) (hq : s.Quiet) :
    exec (.microsecondTick reverse wake) s = .next (s.countTick reverse wake) := by
  change live (fun s => s.microsecondTick reverse wake) s = _
  rw [live_running _ _ hrun, State.microsecondTick, State.takeDue_quiet s hq]

@[simp] theorem State.countTick_port (s : State) (reverse wake : Bool) (p : PortId) :
    (s.countTick reverse wake).port p = (s.port p).runTick := by
  cases p <;> rfl

theorem State.countTick_camera (s : State) (reverse wake : Bool) :
    (s.countTick reverse wake).camera = if s.node.state.full then s.camera.runTick reverse else s.camera := rfl

/-! ### The timing of an output port in a tick -/

/-- A stopped port has no timing (R148). -/
theorem Presenter.run_stopped (c : OutCfg) (n : Nat) (p : Presenter) (h : p.pos = .stopped) : p.run c n = p := by
  simp [Presenter.run, h]

/-- Outside the active lines the pixel periods are only counted: no pixel is driven and the generator stands (R134, R146). -/
theorem Presenter.run_undrawn (c : OutCfg) (n : Nat) (p : Presenter) (hs : p.pos ≠ .stopped) (ha : p.pos ≠ .active) :
    p.run c n = { p with pixel := p.pixel + n } := by
  cases h : p.pos with
  | stopped => exact absurd h hs
  | active => exact absurd h ha
  | added => simp [Presenter.run, h]
  | blanking => simp [Presenter.run, h]

/-- In an active line each period drives a pixel, and the last active line gives way to the blanking once its HT periods
have passed (R134, R138, R146). -/
theorem Presenter.run_active (c : OutCfg) (n : Nat) (p : Presenter) (h : p.pos = .active) :
    p.run c n =
      if c.va ≤ p.nextLine ∧ c.ht ≤ p.pixel + n then
        { p with
          pos := .blanking, pixel := p.pixel + n - c.ht, driven := [], ahead := []
          gen := (driveLine c p.gen (p.ahead.take n)).2 }
      else
        { p with
          pixel := p.pixel + n, ahead := p.ahead.drop n
          driven := p.driven ++ (driveLine c p.gen (p.ahead.take n)).1
          gen := (driveLine c p.gen (p.ahead.take n)).2 } := by
  simp [Presenter.run, h, Presenter.drive, Presenter.roll]

/-- An output port's timing in a tick, position by position (R134, R146, R148). -/
theorem OutPort.runTick_pres (o : OutPort) :
    o.runTick.pres =
      if o.pres.pos = .stopped then o.pres
      else if o.pres.pos ≠ .active then { o.pres with pixel := o.pres.pixel + o.lock.carries }
      else if o.cfg.va ≤ o.pres.nextLine ∧ o.cfg.ht ≤ o.pres.pixel + o.lock.carries then
        { o.pres with
          pos := .blanking, pixel := o.pres.pixel + o.lock.carries - o.cfg.ht, driven := [], ahead := []
          gen := (driveLine o.cfg o.pres.gen (o.pres.ahead.take o.lock.carries)).2 }
      else
        { o.pres with
          pixel := o.pres.pixel + o.lock.carries, ahead := o.pres.ahead.drop o.lock.carries
          driven := o.pres.driven ++ (driveLine o.cfg o.pres.gen (o.pres.ahead.take o.lock.carries)).1
          gen := (driveLine o.cfg o.pres.gen (o.pres.ahead.take o.lock.carries)).2 } := by
  change o.pres.run o.cfg o.lock.carries = _
  by_cases hs : o.pres.pos = .stopped
  · rw [if_pos hs, Presenter.run_stopped _ _ _ hs]
  · by_cases ha : o.pres.pos = .active
    · rw [if_neg hs, if_neg (not_not.mpr ha), Presenter.run_active _ _ _ ha]
    · rw [if_neg hs, if_pos ha, Presenter.run_undrawn _ _ _ hs ha]

/-! ### The pins of an output port -/

/-- A pin driven by b with active level v is at its active level exactly while b holds. -/
theorem beq_level_iff (b v : Bool) : (b == v) = v ↔ b = true := by
  cases b <;> cases v <;> decide

/-- A range of n ≥ 1 columns or lines given by its first and last one. -/
theorem OutPort.within_iff (lo n v : Nat) (hn : 1 ≤ n) : OutPort.pins.within lo (lo + n - 1) v = true ↔ lo ≤ v ∧ v < lo + n := by
  simp only [OutPort.pins.within, Bool.and_eq_true, decide_eq_true_eq]
  omega

/-- The pixel period in progress never passes the last one of the line or of the blanking (log 15). -/
theorem OutPort.period_of_running (o : OutPort) (h : o.pres.pos ≠ .stopped) :
    o.period = min ((if o.pres.pos = .blanking then o.cfg.blankPixels else o.cfg.ht) - 1) o.pres.pixel := by
  cases hp : o.pres.pos with
  | stopped => exact absurd hp h
  | added => simp [OutPort.period, hp]
  | active => simp [OutPort.period, hp]
  | blanking => simp [OutPort.period, hp]

theorem OutPort.drawing_iff (o : OutPort) :
    o.drawing = true ↔ o.pres.pos = .active ∧ o.pres.nextLine ≠ 0 ∧ o.column < o.cfg.ha := by
  simp [OutPort.drawing, and_assoc]

/-- Every output of a stopped port is low (R148). -/
theorem OutPort.pins_stopped (o : OutPort) (h : o.pres.pos = .stopped) : o.pins = PinLevels.low := by
  rw [OutPort.pins, if_pos h]

section Running

variable (o : OutPort) (h : o.pres.pos ≠ .stopped)
include h

theorem OutPort.pins_clock : o.pins.clock = true := by
  rw [OutPort.pins, if_neg h]

/-- The horizontal sync is active in its HS columns after the front porch (R134). -/
theorem OutPort.pins_hsync_iff (hs : 1 ≤ o.cfg.hs) :
    o.pins.hsync = o.cfg.hsHigh ↔
      o.cfg.ha + o.cfg.hfp ≤ o.column ∧ o.column < o.cfg.ha + o.cfg.hfp + o.cfg.hs := by
  rw [OutPort.pins, if_neg h, beq_level_iff, OutPort.within_iff _ _ _ hs]

/-- The vertical sync is active in its VS lines of the blanking (R134). -/
theorem OutPort.pins_vsync_iff (vs : 1 ≤ o.cfg.vs) :
    o.pins.vsync = o.cfg.vsHigh ↔
      o.pres.pos = .blanking ∧ o.cfg.vfp ≤ o.period / o.cfg.ht ∧ o.period / o.cfg.ht < o.cfg.vfp + o.cfg.vs := by
  rw [OutPort.pins, if_neg h, beq_level_iff, Bool.and_eq_true, OutPort.within_iff _ _ _ vs, beq_iff_eq]

theorem OutPort.pins_enable_iff : o.pins.enable = o.cfg.deHigh ↔ o.drawing = true := by
  rw [OutPort.pins, if_neg h, beq_level_iff]

theorem OutPort.pins_data :
    o.pins.data = if o.drawing then o.pres.driven.getD o.column Pixel.black else Pixel.black := by
  rw [OutPort.pins, if_neg h]

end Running

/-! ### The statement -/

/-- Settles O37: a quiet tick is the count of the tick, and the pins are read off the timing position. -/
theorem tickMovesTimers : Obligations.TickMovesTimers := by
  refine ⟨fun s reverse wake hrun hq => ?_, fun o hhs hvs => ⟨fun hstop => o.pins_stopped hstop, fun hpos => ?_⟩⟩
  · refine ⟨s.countTick reverse wake, exec_microsecondTick_quiet s reverse wake hrun hq, rfl, rfl, rfl, rfl, rfl, rfl, rfl, rfl,
      rfl, rfl, rfl, fun hfull => ?_, fun hfull => ?_, fun p k hp => ?_, fun p q hp => ?_, fun p o hp => ?_,
      rfl, rfl, rfl, rfl, rfl⟩
    · rw [State.countTick_camera, if_pos hfull]; rfl
    · rw [State.countTick_camera, hfull]; rfl
    · rw [State.countTick_port, hp]; rfl
    · rw [State.countTick_port, hp]; rfl
    · exact ⟨o.runTick, by rw [State.countTick_port, hp]; rfl, rfl, rfl, rfl, rfl, rfl, o.runTick_pres⟩
  · have hdraw := o.drawing_iff
    have hdata := o.pins_data hpos
    have henable := (o.pins_enable_iff hpos).trans hdraw
    have hhsync := o.pins_hsync_iff hpos hhs
    have hvsync := o.pins_vsync_iff hpos hvs
    simp only [OutPort.column, o.period_of_running hpos] at hdraw hdata henable hhsync hvsync
    refine ⟨o.pins_clock hpos, hhsync, hvsync, henable, fun hd => ?_, fun hd => ?_⟩
    · rw [hdata, if_pos (hdraw.mpr hd)]; rfl
    · rw [hdata, if_neg (mt hdraw.mp hd)]; rfl

end Sys2Proof.Machine
end

section
/-! PROOFS. The ring link: signal and alignment, the units received in UP, what ends a parcel, and the transmit stream (R3 to
R14, R28, R35, R40). -/

namespace Sys2Proof.Machine

/-! ### A unit received in UP -/

/-- The state with the violation history aged by the unit received (R4). -/
def State.counted (s : State) : State := { s with link := s.link.countUnit }

/-- In UP a unit ages the violation history and then has its effect (R2, R4). -/
theorem State.unitUp_up (s : State) (f : State → State) (h : s.link.state = .up) : s.unitUp f = f s.counted := by
  rw [State.unitUp, if_pos h]; rfl

@[simp] theorem State.counted_link (s : State) : s.counted.link = s.link.countUnit := rfl
@[simp] theorem State.counted_node (s : State) : s.counted.node = s.node := rfl
@[simp] theorem State.counted_port (s : State) (p : PortId) : s.counted.port p = s.port p := by cases p <;> rfl

@[simp] theorem RingPort.countUnit_transit (l : RingPort) : l.countUnit.transit = l.transit := rfl

/-! ### Causes that stay pending -/

/-- A pending cause stays pending when others are raised (R172). -/
theorem State.isPending_raise_of (s : State) (m : Half) (c : Cause) (h : s.isPending c = true) :
    (s.raise m).isPending c = true := by
  have hne : s.att.pending &&& c.bit ≠ 0 := by simpa [State.isPending] using h
  have hkeep : (s.att.pending ||| m) &&& c.bit ≠ 0 := by
    intro hz
    apply hne
    rw [BitVec.and_or_distrib_right] at hz
    exact (BitVec.or_eq_zero_iff.mp hz).1
  simpa [State.isPending] using hkeep

theorem State.isPending_onOut_of (s : State) (p : PortId) (f : OutPort → OutPort × Half) (c : Cause)
    (h : s.isPending c = true) : (s.onOut p f).isPending c = true := by
  unfold State.onOut
  split
  · refine State.isPending_raise_of _ _ c ?_
    cases p <;> exact h
  · exact h
  · exact h

/-- An operation on an output port that raises nothing leaves the attention set. -/
theorem State.onOut_att (s : State) (p : PortId) (f : OutPort → OutPort × Half) (hf : ∀ o, (f o).2 = noCause) :
    (s.onOut p f).att = s.att := by
  unfold State.onOut
  split
  · rw [hf, State.raise_noCause, State.setPort_att]
  · rfl
  · rfl

@[simp] theorem State.finishLine_att (s : State) (ks : List SinkId) (good : Bool) : (s.finishLine ks good).att = s.att := by
  unfold State.finishLine
  exact foldl_frame State.att _ (fun s k => by exact s.onOut_att k.port _ (fun _ => rfl)) ks s

@[simp] theorem State.writeLine_att (s : State) (ks : List SinkId) (ps : List Pixel) : (s.writeLine ks ps).att = s.att := by
  unfold State.writeLine
  exact foldl_frame State.att _ (fun s k => by exact s.onOut_att k.port _ (fun _ => rfl)) ks s

/-! ### The end of a parcel -/

/-- The link after the end of a parcel: outside, and the end recorded for a forwarded one (R9, R10). -/
theorem State.endParcel_link (s : State) (r : Reception) (good : Bool) :
    (s.endParcel r good).link = { s.link with
      stage := .outside
      transit := if r.course = .forward then mapNewest (TransitEntry.close good) s.link.transit else s.link.transit } := by
  unfold State.endParcel; dsimp only
  split_ifs
  · rw [State.filterEnd_link _ _ _ rfl]; rfl
  · rw [State.filterEnd_link _ _ _ rfl]; rfl

/-- A pending cause stays pending through a bad end. -/
theorem State.isPending_endParcel_of (s : State) (r : Reception) (c : Cause) (h : s.isPending c = true) :
    (s.endParcel r false).isPending c = true := by
  have hfilter : ∀ l : RingPort, (({ s with link := l } : State).filterEnd r false).isPending c = true := by
    intro l
    rw [State.filterEnd_bad]
    by_cases hrep : r.repeater = true
    · rw [if_pos hrep]; exact h
    · rw [if_neg hrep]
      split
      · rw [State.isPending, State.finishLine_att]; exact h
      · split_ifs <;> exact h
      · unfold State.returnReport
        split
        · exact h
        · split
          · exact h
          · exact State.isPending_raise_of _ _ c h
      · exact h
  unfold State.endParcel; dsimp only
  split_ifs <;> exact hfilter _

/-- A bad end is one whatever the link and the attention set were before it. -/
theorem State.EndsBad.of_before {s t : State} {r : Reception} (l : RingPort) (a : AttentionSet)
    (h : ({ s with link := l, att := a } : State).EndsBad r t) : s.EndsBad r t := by
  refine ⟨fun hc hr hk hn p => ?_, h.ports, h.entry, h.returned, h.svc, h.rest⟩
  have hline := h.line hc hr hk hn p
  cases p <;> exact hline

/-- A bad end is one whatever becomes of the link after it. -/
theorem State.EndsBad.of_after {s t : State} {r : Reception} (l : RingPort) (h : s.EndsBad r t) :
    s.EndsBad r { t with link := l } := by
  refine ⟨fun hc hr hk hn p => ?_, h.ports, h.entry, h.returned, h.svc, h.rest⟩
  have hline := h.line hc hr hk hn p
  cases p <;> exact hline

/-! ### Before UP -/

/-- Settles O8: signal and units before UP. -/
theorem signalAligns : Obligations.SignalAligns := by
  refine ⟨fun s hrun hdown => ?_, fun s u hrun halign => ?_⟩
  · change live State.signalPresent s = _
    rw [live_running _ _ hrun, State.signalPresent, if_pos hdown]
  · change live (fun s => s.alignUnit u) s = _
    rw [live_running _ _ hrun, State.alignUnit, if_pos halign, RingPort.alignUnit]
    by_cases hu : u = .violation
    · simp [hu]
    · by_cases hfull : s.link.valid + 1 < 64
      · simp [hu, hfull, Nat.not_le.mpr hfull]
      · simp [hu, hfull, Nat.not_lt.mp hfull]

/-! ### Stray units -/

/-- Settles O11: a stray unit only ages the violation history. -/
theorem strayUnitsAbsorbed : Obligations.StrayUnitsAbsorbed := by
  intro s u hrun hup hstray
  have habsorbs : s.link.stage.absorbs u = true := by
    rcases hstray with rfl | ⟨hout, ⟨w, rfl⟩ | rfl | rfl⟩
    · cases s.link.stage <;> rfl
    all_goals rw [hout]; rfl
  change live (fun s => s.strayUnit u) s = _
  rw [live_running _ _ hrun, State.strayUnit, if_pos habsorbs, State.unitUp_up _ _ hup]
  rfl

/-! ### Breaks in the framing -/

/-- A bad end of the parcel in reception, from a state that differs from s in the link and the attention set alone. -/
theorem State.endParcel_endsBad_of {s : State} (l : RingPort) (a : AttentionSet) (r : Reception) :
    s.EndsBad r (({ s with link := l, att := a } : State).endParcel r false) :=
  State.EndsBad.of_before l a (State.endParcel_endsBad _ r)

/-- The transit buffer once what is in reception has ended bad: the end recorded for a forwarded parcel (R10). -/
def RingPort.brokenTransit (l : RingPort) : List TransitEntry :=
  match l.stage with
  | .body r => if r.course = .forward then mapNewest (TransitEntry.close false) l.transit else l.transit
  | .header _ => l.transit
  | .outside => l.transit

theorem RingPort.brokenTransit_body {l : RingPort} {r : Reception} (h : l.stage = .body r) : l.brokenTransit =
    if r.course = .forward then mapNewest (TransitEntry.close false) l.transit else l.transit := by
  rw [RingPort.brokenTransit, h]

/-- Where no forwarded parcel is in reception nothing is recorded. -/
theorem RingPort.brokenTransit_none {l : RingPort} (h : ∀ r, l.stage = .body r → r.course ≠ .forward) :
    l.brokenTransit = l.transit := by
  unfold RingPort.brokenTransit
  split
  · rename_i r hr; exact if_neg (h r hr)
  · rfl
  · rfl

/-- The link that has left UP (R5). -/
theorem State.leaveUp_link (s : State) (st : LinkState) : (s.leaveUp st).link =
    { s.link with state := st, violations := [], stage := .outside, transit := s.link.brokenTransit } := by
  unfold State.leaveUp RingPort.brokenTransit; dsimp only
  cases hs : s.link.stage with
  | outside => dsimp only; rw [← hs]; rfl
  | header ws => rfl
  | body r => dsimp only; rw [State.endParcel_link]; rfl

/-- A parcel in reception ends bad when the link leaves UP (R5). -/
theorem State.leaveUp_endsBad (s : State) (st : LinkState) (r : Reception) (h : s.link.stage = .body r) :
    s.EndsBad r (s.leaveUp st) := by
  unfold State.leaveUp; dsimp only
  rw [h]
  exact State.endParcel_endsBad_of _ _ r

theorem State.leaveUp_linkDown (s : State) (st : LinkState) : (s.leaveUp st).isPending .linkDown = true := by
  unfold State.leaveUp; dsimp only
  split
  · exact State.isPending_raise _ _
  · exact State.isPending_raise _ _
  · exact State.isPending_endParcel_of _ _ _ (State.isPending_raise _ _)

theorem State.leaveUp_sched (s : State) (st : LinkState) : (s.leaveUp st).sched = s.sched := by
  cases hs : s.link.stage with
  | outside => rw [State.leaveUp, hs]; rfl
  | header ws => rw [State.leaveUp, hs]; rfl
  | body r => exact (s.leaveUp_endsBad st r hs).rest.2.2.2.1

/-- Settles O9: a loss of signal leaves UP with the parcel in reception ended bad, and ALIGN with nothing else. -/
theorem lossOfSignalEnds : Obligations.LossOfSignalEnds := by
  refine ⟨fun s hrun hup => ⟨s.leaveUp .down, ?_, ?_⟩, fun s hrun halign => ?_⟩
  · change live State.lossOfSignal s = _
    rw [live_running _ _ hrun, State.lossOfSignal, hup]
  · rw [State.leaveUp_link]
    refine ⟨rfl, s.leaveUp_linkDown .down, rfl, rfl, rfl, rfl, rfl, s.leaveUp_sched .down, s.leaveUp_tick .down, ?_, ?_, ?_⟩
    · intro r hr hc; rw [RingPort.brokenTransit_body hr, if_pos hc]
    · exact RingPort.brokenTransit_none
    · exact fun r hr => s.leaveUp_endsBad .down r hr
  · change live State.lossOfSignal s = _
    rw [live_running _ _ hrun, State.lossOfSignal, halign]

/-- The link after a break in the framing inside a parcel: a payload error, the receiver outside, the end recorded (R8, R10). -/
theorem State.breakParcel_link_body (s : State) (r : Reception) (h : s.link.stage = .body r) : s.breakParcel.link =
    { s.link with
      stage := .outside, payErr := holdInc s.link.payErr
      transit := if r.course = .forward then mapNewest (TransitEntry.close false) s.link.transit else s.link.transit } := by
  rw [State.breakParcel, h]; dsimp only
  rw [State.endParcel_link]; rfl

theorem State.breakParcel_endsBad (s : State) (r : Reception) (h : s.link.stage = .body r) : s.EndsBad r s.breakParcel := by
  rw [State.breakParcel, h]
  exact State.endParcel_endsBad_of _ s.att r

theorem State.breakParcel_outside (s : State) (h : s.link.stage = .outside) : s.breakParcel = s := by
  rw [State.breakParcel, h]

theorem State.breakParcel_header (s : State) (ws : List Word) (h : s.link.stage = .header ws) : s.breakParcel =
    { s with link := { s.link with stage := .outside, hdrErr := holdInc s.link.hdrErr } } := by
  rw [State.breakParcel, h]; rfl

/-- A break in the framing leaves the node. -/
theorem State.breakParcel_node (s : State) : s.breakParcel.node = s.node := by
  cases hs : s.link.stage with
  | outside => rw [s.breakParcel_outside hs]
  | header ws => rw [s.breakParcel_header ws hs]
  | body r => exact (s.breakParcel_endsBad r hs).rest.1

/-- Settles O10: an SOP breaks what is in reception and begins a parcel, whose first three header words are held. -/
theorem sopBegins : Obligations.SopBegins := by
  refine ⟨fun s ws w hrun hup hstage hlen => ?_, fun s hrun hup => ?_⟩
  · change live (fun s => s.headerWord w) s = _
    rw [live_running _ _ hrun, State.headerWord, hstage]
    simp only [if_pos hlen]
    rw [State.unitUp_up _ _ hup]
    rfl
  · have hexec : exec .sopReceived s =
        .next (s.counted.breakParcel.toStage (.header [])) := by
      change live State.sopReceived s = _
      rw [live_running _ _ hrun, State.sopReceived, State.unitUp_up _ _ hup]
    rw [hexec]
    refine ⟨fun hout => ?_, fun ws hws => ?_, fun r hr => ⟨_, rfl, ?_, ?_⟩⟩
    · rw [s.counted.breakParcel_outside hout]; rfl
    · rw [s.counted.breakParcel_header ws hws]; rfl
    · exact (State.EndsBad.of_before _ s.att (s.counted.breakParcel_endsBad r hr)).of_after _
    · rw [State.toStage, s.counted.breakParcel_link_body r hr]; rfl

/-- The state in which the fourth violation finds the link (R4): its alignment count begins anew. -/
def State.fourth (s : State) : State := { s with link := { s.link.countUnit with valid := 0 } }

/-- The state with a violation put into the aged history (R4). -/
def State.violated (s : State) : State :=
  { s with link := { s.link.countUnit with violations := 0 :: s.link.countUnit.violations } }

/-- Settles O12: the fourth violation leaves UP, an earlier one breaks what is in reception. -/
theorem codingViolationBreaks : Obligations.CodingViolationBreaks := by
  intro s hrun hup
  have hexec : exec .codingViolation s = .next (
      if s.link.countUnit.fourthViolation then s.fourth.leaveUp .align else s.violated.breakParcel) := by
    change live State.codingViolation s = _
    rw [live_running _ _ hrun, State.codingViolation, State.unitUp_up _ _ hup]
    rfl
  rw [hexec]
  refine ⟨fun hfour => ?_, fun hless => ?_⟩
  · rw [if_pos (by simp [RingPort.fourthViolation]; omega)]
    refine ⟨_, rfl, ?_⟩
    rw [State.leaveUp_link]
    refine ⟨rfl, rfl, State.leaveUp_linkDown _ _, rfl, rfl, rfl, rfl, rfl, ?_, ?_, ?_⟩
    · intro r hr hc; exact (RingPort.brokenTransit_body hr).trans (if_pos hc)
    · exact fun h => RingPort.brokenTransit_none h
    · exact fun r hr => State.EndsBad.of_before _ s.att (s.fourth.leaveUp_endsBad .align r hr)
  · rw [if_neg (by simp [RingPort.fourthViolation]; omega)]
    refine ⟨fun hout => ?_, fun ws hws => ?_, fun r hr => ⟨_, rfl, ?_, ?_⟩⟩
    · rw [s.violated.breakParcel_outside hout]; rfl
    · rw [s.violated.breakParcel_header ws hws]; rfl
    · exact State.EndsBad.of_before _ s.att (s.violated.breakParcel_endsBad r hr)
    · rw [s.violated.breakParcel_link_body r hr]; rfl

/-! ### The end symbol -/

/-- What is left to the Parcel Filter at an end with nothing to copy, answer or take back (R18, R24, R25, R27, R29, R31). -/
theorem State.filterEnd_idle (s : State) (r : Reception) (good : Bool)
    (h : r.course = .orphan ∨ (r.course = .strip ∧ (r.kind = .line ∨ r.kind = .mark)) ∨
      (r.repeater = true ∧ (r.course ≠ .strip ∨ r.kind ≠ .census)) ∨
      (good = false ∧ (r.kind = .mark ∨ r.kind = .census))) : s.filterEnd r good = s := by
  unfold State.filterEnd
  split
  · rfl
  · rfl
  · rename_i hc hrep
    cases hk : r.kind with
    | line => simp [hc, hrep, hk] at h
    | mark => simp only [hc, hrep, hk] at h; simp_all
    | census => simp_all
    | message => simp_all
  · rename_i hc hrep
    cases hk : r.kind <;> simp_all
  · rename_i hc hrep
    cases hk : r.kind <;> simp_all

/-- An end symbol ends the parcel good or bad, an EOP that does not end it good with a payload error (R9). -/
theorem State.bodyEnd_eq (s : State) (r : Reception) (e : EndSymbol) :
    s.bodyEnd r e =
      (if e = .eop ∧ (e == .eop && r.endsGood) = false then s.payloadError else s).endParcel r (e == .eop && r.endsGood) := by
  cases e with
  | eopx => rfl
  | eop => cases hg : r.endsGood <;> simp [State.bodyEnd, hg]

/-- An end that the Parcel Filter has no part in changes the link alone. -/
theorem State.endParcel_idle (s : State) (r : Reception) (good : Bool)
    (h : r.course = .orphan ∨ (r.course = .strip ∧ (r.kind = .line ∨ r.kind = .mark)) ∨
      (r.repeater = true ∧ (r.course ≠ .strip ∨ r.kind ≠ .census)) ∨
      (good = false ∧ (r.kind = .mark ∨ r.kind = .census))) :
    s.endParcel r good = { s with link := (s.endParcel r good).link } := by
  rw [State.endParcel_link, State.endParcel]; dsimp only
  rw [State.filterEnd_idle _ _ _ h]
  split_ifs <;> rfl

/-- Settles O22: an end symbol ends the reception, good as R9 says. -/
theorem endSymbolEnds : Obligations.EndSymbolEnds := by
  refine ⟨fun s ws e hrun hup hstage => ?_, fun s r e hrun hup hstage => ?_⟩
  · change live (fun s => s.endEvent e) s = _
    rw [live_running _ _ hrun, State.endEvent, hstage]
    dsimp only
    rw [State.unitUp_up _ _ hup]
    rfl
  · have hexec : exec (.endEvent e) s = .next (s.counted.bodyEnd r e) := by
      change live (fun s => s.endEvent e) s = _
      rw [live_running _ _ hrun, State.endEvent, hstage]
      exact congrArg _ (s.unitUp_up _ hup)
    have hgood : (e == .eop && r.endsGood) = (e == .eop && r.got == r.hdr.len.toNat + 1 && r.checkOk) :=
      (Bool.and_assoc _ _ _).symm
    rw [hexec, State.bodyEnd_eq, hgood]
    generalize (e == .eop && r.got == r.hdr.len.toNat + 1 && r.checkOk) = good
    refine ⟨_, rfl, ?_, fun hbad => ?_, fun hidle => ?_⟩
    · rw [State.endParcel_link]
      split_ifs <;> rfl
    · subst hbad
      split_ifs
      · exact State.endParcel_endsBad_of _ s.att r
      · exact State.endParcel_endsBad_of _ s.att r
    · rw [State.endParcel_idle _ _ _ hidle]
      split_ifs <;> rfl

/-! ### The transmit stream -/

/-- The slot of a parcel's payload leaves the send store, where it has one (R40). -/
theorem State.returnSlots_toList (s : State) (slot : Option Nat) :
    s.returnSlots slot.toList = { s with store := s.store.filter (fun x => slot != some x.slot) } := by
  unfold State.returnSlots
  congr 1
  refine List.filter_congr fun x _ => ?_
  cases slot with
  | none => rfl
  | some n => simp [bne, eq_comm, beq_eq_decide]

/-- Settles O32: the transmit stream, case by case. -/
theorem transmitStream : Obligations.TransmitStream := by
  intro s hrun
  have hword : exec .wordSent s = .next { s with link := s.link.wordSent } := live_running State.wordSent s hrun
  have hend : exec .parcelEndSent s = .next s.parcelEndSent := live_running State.parcelEndSent s hrun
  rw [hword, hend]
  refine ⟨fun g e es htx hgap htransit hcut => ?_, fun g htx => ?_, fun e es w ws htx htransit hwords => ?_,
    fun e es htx htransit hwords hopen => ?_, fun p w ws htx hleft => ?_, fun e es good htx htransit hwords hheld hfin => ?_,
    fun p htx hleft => ?_⟩
  · change live State.cutThroughStart s = _
    rw [live_running _ _ hrun, State.cutThroughStart,
      if_pos (by simp [RingPort.gapDone, RingPort.cutCommitted, htx, htransit, hcut, hgap])]
    rfl
  · rw [RingPort.wordSent, htx]
  · rw [RingPort.wordSent, htx]; simp only [RingPort.transitWord, htransit, hwords]
  · have hwait : (e.fin.isSome && e.heldBack.isNone) = false := by
      rcases hopen with hfin | hheld
      · simp [hfin]
      · simp [Option.isNone_eq_false_iff.mpr (Option.isSome_iff_ne_none.mpr hheld)]
    rw [RingPort.wordSent, htx]; simp [RingPort.transitWord, htransit, hwords, hwait]
  · rw [RingPort.wordSent, htx]; simp only [hleft]
  · simp [State.parcelEndSent, htx, htransit, hfin, hwords, hheld, RingPort.ended, endUnit]
  · simp only [State.parcelEndSent, htx, hleft, List.isEmpty_nil, if_pos, State.returnSlots_toList, RingPort.ended]

end Sys2Proof.Machine
end

section
/-! PROOFS. The header event: the sighting, the offer of a line to the sink records, and what becomes of the parcel (R11, R12,
R18, R20 to R23, R28, R95, R100, R101). -/

namespace Sys2Proof.Machine

/-! ### The sighting and the offer -/

/-- The state once a full station has seen a header's pressure mark (R23, R51). -/
def State.sighted (s : State) (h : Header) : State :=
  if s.node.state.full && sights s.node.station h.pressure then s.sighting else s

/-- The state once a header has been sighted and a forwarded line offered to the sink records (R23, R28, R30). -/
def State.offered (s : State) (h : Header) (k : ParcelKind) : State :=
  if courseOf s.node.station h = .forward ∧ s.node.state.offers = true ∧ k = .line then (s.sighted h).offerLine h
  else s.sighted h

/-- A good header, after its sighting and its offer, is received, discarded or put into the transit buffer (R11, R12, R18). -/
theorem State.decideHeader_eq (s : State) (h : Header) (k : ParcelKind) : s.decideHeader h k =
    if courseOf s.node.station h = .forward then
      if Config.transitWords < fillOf s.link.transit + 4 then
        ((s.offered h k).overflow.toStage .outside).filterEnd (s.reception h k) false
      else
        ({ s.offered h k with
            link := { (s.offered h k).link with
              transit := (s.offered h k).link.transit ++ [transitEntry (s.rewrite h)
                (k == .message && !(s.reception h k).repeater) s.cutsThrough] } } : State).toStage
          (.body (s.reception h k))
    else (s.offered h k).toStage (.body (s.reception h k)) := rfl

theorem State.sighted_repeater {s : State} (h : Header) (hfull : s.node.state.full = false) : s.sighted h = s := by
  simp [State.sighted, hfull]

/-- A header that is no forwarded line is not offered. -/
theorem State.offered_none {s : State} {h : Header} {k : ParcelKind}
    (hn : ¬ (courseOf s.node.station h = .forward ∧ s.node.state.offers = true ∧ k = .line)) :
    s.offered h k = s.sighted h :=
  if_neg hn

theorem State.offered_line {s : State} {h : Header} (hc : courseOf s.node.station h = .forward)
    (ho : s.node.state.offers = true) : s.offered h .line = (s.sighted h).offerLine h :=
  if_pos ⟨hc, ho, rfl⟩

/-- A sighting leaves everything but the scheduler. -/
theorem State.sighted_eq (s : State) (h : Header) : s.sighted h = { s with sched := (s.sighted h).sched } := by
  unfold State.sighted; split_ifs <;> rfl

@[simp] theorem State.sighted_link (s : State) (h : Header) : (s.sighted h).link = s.link := by rw [s.sighted_eq h]
@[simp] theorem State.sighted_node (s : State) (h : Header) : (s.sighted h).node = s.node := by rw [s.sighted_eq h]
@[simp] theorem State.sighted_svc (s : State) (h : Header) : (s.sighted h).svc = s.svc := by rw [s.sighted_eq h]
@[simp] theorem State.sighted_port (s : State) (h : Header) (p : PortId) : (s.sighted h).port p = s.port p := by
  rw [s.sighted_eq h]; cases p <;> rfl

@[simp] theorem State.offered_link (s : State) (h : Header) (k : ParcelKind) : (s.offered h k).link = s.link := by
  unfold State.offered; split_ifs <;> simp
@[simp] theorem State.offered_node (s : State) (h : Header) (k : ParcelKind) : (s.offered h k).node = s.node := by
  unfold State.offered; split_ifs <;> simp
@[simp] theorem State.offered_svc (s : State) (h : Header) (k : ParcelKind) : (s.offered h k).svc = s.svc := by
  unfold State.offered; split_ifs <;> simp

/-! ### The course of a header -/

theorem courseOf_forward {station : StationNo} {h : Header} (hs : h.source ≠ station) (hh : h.hop ≠ 15) :
    courseOf station h = .forward :=
  (if_neg hs).trans (if_neg hh)

theorem courseOf_own {station : StationNo} {h : Header} (hs : h.source = station) : courseOf station h = .strip := if_pos hs

theorem courseOf_orphan {station : StationNo} {h : Header} (hs : h.source ≠ station) (hh : h.hop = 15) :
    courseOf station h = .orphan :=
  (if_neg hs).trans (if_pos hh)

/-- A header that is not forwarded is copied to no record (R28, R29). -/
theorem State.reception_lineTo_nil {s : State} {h : Header} {k : ParcelKind}
    (hn : courseOf s.node.station h ≠ .forward ∨ s.node.state.offers = false ∨ k ≠ .line) :
    (s.reception h k).lineTo = [] := by
  refine if_neg fun hcopy => ?_
  simp only [Bool.and_eq_true, beq_iff_eq] at hcopy
  obtain ⟨⟨hc, ho⟩, hk⟩ := hcopy
  simp [hc, ho, hk] at hn

theorem State.reception_markTo_nil {s : State} {h : Header} {k : ParcelKind}
    (hn : courseOf s.node.station h ≠ .forward ∨ s.node.state.offers = false ∨ k ≠ .mark) :
    (s.reception h k).markTo = [] := by
  refine if_neg fun hcopy => ?_
  simp only [Bool.and_eq_true, beq_iff_eq] at hcopy
  obtain ⟨⟨hc, ho⟩, hk⟩ := hcopy
  simp [hc, ho, hk] at hn

theorem State.reception_lineTo {s : State} {h : Header} (hc : courseOf s.node.station h = .forward)
    (ho : s.node.state.offers = true) : (s.reception h .line).lineTo = s.lineTakers h := by
  refine if_pos ?_
  simp [hc, ho]

/-- The states that offer lines and markers are those of a full station (R20, R30). -/
theorem NodeState.offers_of_repeater {n : NodeState} (h : n.full = false) : n.offers = false := by
  cases n <;> simp_all [NodeState.full, NodeState.offers]

theorem NodeState.full_iff (n : NodeState) : n.full = true ↔ n = .run ∨ n = .mute ∨ n = .standby := by
  cases n <;> simp [NodeState.full]

theorem State.cutsThrough_iff (s : State) :
    s.cutsThrough = true ↔ (∃ g, s.link.tx = .between g) ∧ s.link.transit = [] ∧ s.sched.safeQ = [] := by
  simp only [State.cutsThrough, Bool.and_eq_true, List.isEmpty_iff, and_assoc]
  cases s.link.tx <;> simp

/-! ### The good header -/

/-- A good fourth header word decides the parcel, whose kind is one of the four (R7, R181). -/
theorem exec_headerEvent_good {s : State} {w0 w1 w2 w3 : Word} (hrun : s.running) (hup : s.link.state = .up)
    (hstage : s.link.stage = .header [w0, w1, w2]) (hgood : headerGood w0 w1 w2 w3 = true) :
    ∃ k, (Header.ofWords w0 w1 w2 w3).kind = some k ∧
      exec (.headerEvent w3) s = .next (s.counted.decideHeader (Header.ofWords w0 w1 w2 w3) k) := by
  have hfields : (Header.ofWords w0 w1 w2 w3).fieldsOk = true := by
    simp only [headerGood, Bool.and_eq_true] at hgood
    exact hgood.2
  cases hk : (Header.ofWords w0 w1 w2 w3).kind with
  | none => rw [Header.fieldsOk, hk] at hfields; cases hfields
  | some k =>
    refine ⟨k, rfl, ?_⟩
    change live (fun s => s.headerEvent w3) s = _
    rw [live_running _ _ hrun, State.headerEvent, hstage]
    dsimp only
    rw [State.unitUp_up _ _ hup, if_pos hgood, hk]

/-- Settles O15: what a repeater makes of a foreign header. -/
theorem repeaterForwards : Obligations.RepeaterForwards := by
  intro s w0 w1 w2 w3 hrun hup hstage hgood hstate hsource hhop hfill h h'
  obtain ⟨k, -, hexec⟩ := exec_headerEvent_good hrun hup hstage hgood
  have hfull : s.node.state.full = false := by rcases hstate with hs | hs <;> rw [hs] <;> rfl
  have hoffers := NodeState.offers_of_repeater hfull
  have hcourse : courseOf s.counted.node.station h = .forward := courseOf_forward hsource hhop
  have hoffered : s.counted.offered h k = s.counted :=
    (State.offered_none (by simp [hoffers])).trans (State.sighted_repeater h hfull)
  have hrewrite : s.counted.rewrite h = h' := by rw [State.rewrite, State.counted_node, hfull]; rfl
  have hrep : (s.counted.reception h k).repeater = true := by simp [State.reception, hfull]
  refine ⟨_, s.counted.reception h k, s.counted.cutsThrough, hexec, ?_, rfl, hcourse, hrep, rfl,
    State.reception_lineTo_nil (.inr (.inl hoffers)), State.reception_markTo_nil (.inr (.inl hoffers)),
    s.counted.cutsThrough_iff⟩
  have hroom : ¬ Config.transitWords < fillOf s.counted.link.transit + 4 := by
    simpa [Config.transitWords] using hfill
  rw [State.decideHeader_eq, if_pos hcourse, if_neg hroom, hoffered, hrewrite, hrep, Bool.not_true, Bool.and_false]
  rfl

/-- Settles O17: an own header and an orphan are received, and no more than sighted. -/
theorem stripsAndOrphans : Obligations.StripsAndOrphans := by
  intro s w0 w1 w2 w3 hrun hup hstage hgood hcase h station own
  obtain ⟨k, -, hexec⟩ := exec_headerEvent_good hrun hup hstage hgood
  have hcourse : courseOf s.counted.node.station h = if h.source = s.node.station then .strip else .orphan := by
    by_cases hs : h.source = s.node.station
    · rw [if_pos hs]; exact courseOf_own hs
    · rw [if_neg hs]; exact courseOf_orphan hs (hcase.resolve_left hs)
  have hforward : courseOf s.counted.node.station h ≠ .forward := by rw [hcourse]; split_ifs <;> decide
  have hsighted : s.counted.decideHeader h k = (s.counted.sighted h).toStage (.body (s.counted.reception h k)) := by
    rw [State.decideHeader_eq, if_neg hforward, State.offered_none (fun hn => hforward hn.1)]
  have hstation : s.node.state.full = true ↔ station := NodeState.full_iff _
  have hsights : sights s.node.station h.pressure = true ↔ h.pressure ≠ 0 ∧ h.pressure ≠ own := by
    simp [sights, own, ownMark]
  have hsched : (s.counted.sighted h).sched =
      if station ∧ h.pressure ≠ 0 ∧ h.pressure ≠ own then { s.sched with yield := true, yieldTime := 500 }
      else s.sched := by
    by_cases hseen : station ∧ h.pressure ≠ 0 ∧ h.pressure ≠ own
    · have : (s.node.state.full && sights s.node.station h.pressure) = true := by
        rw [Bool.and_eq_true]; exact ⟨hstation.mpr hseen.1, hsights.mpr hseen.2⟩
      rw [if_pos hseen, State.sighted, State.counted_node, if_pos this]; rfl
    · have : ¬ (s.node.state.full && sights s.node.station h.pressure) = true := by
        rw [Bool.and_eq_true]; exact fun hn => hseen ⟨hstation.mp hn.1, hsights.mp hn.2⟩
      rw [if_neg hseen, State.sighted, State.counted_node, if_neg this]; rfl
  refine ⟨_, s.counted.reception h k, hexec.trans (congrArg _ hsighted), ?_, rfl, rfl, hcourse, ?_,
    State.reception_lineTo_nil (.inl hforward), State.reception_markTo_nil (.inl hforward), fun hst hp hown => ?_,
    fun hn => ?_, ?_⟩
  · rw [State.toStage, State.sighted_link]; rfl
  · rw [← hstation]
    change (!s.node.state.full) = false ↔ _
    cases s.node.state.full <;> simp
  · exact hsched.trans (if_pos ⟨hst, hp, hown⟩)
  · exact hsched.trans (if_neg (by rintro ⟨hst, hp, hown⟩; exact hn.elim (· hst) (·.elim hp hown)))
  · rw [State.toStage, State.sighted_eq]
    exact ⟨rfl, rfl, rfl, rfl, rfl, rfl, rfl, rfl, rfl⟩

end Sys2Proof.Machine
end

section
/-! PROOFS. A line at the sink records, and the data words after a header (R9, R12, R28, R32 to R35, R95, R100 to R102,
R144). -/

namespace Sys2Proof.Machine

/-! ### A line offered to one record -/

/-- What a record makes of a line's header: nothing unless it names the stream (R28). -/
def Sink.offered (limit : Nat) (h : Header) (k : Sink) : Sink × Taken :=
  if k.active = some h.stream then k.offer limit h.frame h.line.toNat h.width.toNat h.fmt else (k, .refused)

theorem OutPort.mapSink_self (o : OutPort) (role : Role) (k : Sink) (hk : o.sink role = some k) :
    o.mapSink role (fun _ => k) = o := by
  cases role with
  | main => cases hk; rfl
  | overlay =>
    have ho : o.overlay = some k := hk
    simp only [OutPort.mapSink, ho, Option.map_some]
    rw [← ho]

/-- A line offered to a port's record of a role (R28, R100, R101). -/
theorem OutPort.offerLine_some (o : OutPort) (h : Header) (role : Role) (k : Sink) (hk : o.sink role = some k) :
    o.offerLine h.stream h.frame h.line.toNat h.width.toNat h.fmt role =
      (o.mapSink role (fun _ => (k.offered (o.limit role k) h).1), k.offerCause (k.offered (o.limit role k) h).2,
        (k.offered (o.limit role k) h).2 == .accepted) := by
  unfold OutPort.offerLine Sink.offered
  rw [hk]; dsimp only
  by_cases hs : k.active = some h.stream
  · rw [if_pos hs, if_pos hs]
  · rw [if_neg hs, if_neg hs, OutPort.mapSink_self o role k hk]; rfl

theorem OutPort.offerLine_none (o : OutPort) (h : Header) (role : Role) (hk : o.sink role = none) :
    o.offerLine h.stream h.frame h.line.toNat h.width.toNat h.fmt role = (o, noCause, false) := by
  unfold OutPort.offerLine; rw [hk]

/-- An output port whose records have been offered a line. -/
def OutPort.offered (h : Header) (o : OutPort) : OutPort :=
  { o with
    main := (o.main.offered (o.limit .main o.main) h).1
    overlay := o.overlay.map (fun k => (k.offered (o.limit .overlay k) h).1) }

/-- The offer to one record does not depend on the other one. -/
theorem OutPort.offered_eq (h : Header) (o : OutPort) :
    ((o.offerLine h.stream h.frame h.line.toNat h.width.toNat h.fmt .main).1.offerLine h.stream h.frame h.line.toNat
      h.width.toNat h.fmt .overlay).1 = o.offered h := by
  rw [o.offerLine_some h .main o.main rfl]; dsimp only
  cases hk : o.overlay with
  | none =>
    have hnone : (o.mapSink .main (fun _ => (o.main.offered (o.limit .main o.main) h).1)).sink .overlay = none := hk
    rw [OutPort.offerLine_none _ h .overlay hnone, OutPort.offered, hk]
    simp only [OutPort.mapSink, Option.map_none]
    rw [← hk]
  | some k =>
    have hsome : (o.mapSink .main (fun _ => (o.main.offered (o.limit .main o.main) h).1)).sink .overlay = some k := hk
    rw [OutPort.offerLine_some _ h .overlay k hsome, OutPort.offered, hk]
    simp only [OutPort.mapSink, Option.map_some, hk]
    rfl

theorem OutPort.offered_sink (h : Header) (o : OutPort) (role : Role) (k : Sink) (hk : o.sink role = some k) :
    (o.offered h).sink role = some (k.offered (o.limit role k) h).1 := by
  cases role with
  | main => cases hk; rfl
  | overlay =>
    have ho : o.overlay = some k := hk
    simp [OutPort.sink, OutPort.offered, ho]

/-! ### A line offered to the four records -/

/-- A line offered to the two records of a port. -/
def State.offerPort (h : Header) (s : State) (p : PortId) : State :=
  State.offerTo h h.fmt (State.offerTo h h.fmt s ⟨p, .main⟩) ⟨p, .overlay⟩

theorem State.offerLine_eq (s : State) (h : Header) : s.offerLine h = State.offerPort h (State.offerPort h s .a) .b := rfl

theorem State.offerPort_ne (s : State) (h : Header) (p q : PortId) (hpq : p ≠ q) : (s.offerPort h p).port q = s.port q :=
  (State.onOut_port_ne _ p q _ hpq).trans (State.onOut_port_ne s p q _ hpq)

theorem State.offerTo_port (s : State) (h : Header) (p : PortId) (role : Role) (o : OutPort) (hp : s.port p = .output o) :
    (s.offerTo h h.fmt ⟨p, role⟩).port p =
      .output (o.offerLine h.stream h.frame h.line.toNat h.width.toNat h.fmt role).1 :=
  s.onOut_port p o _ hp

theorem State.offerPort_port (s : State) (h : Header) (p : PortId) (o : OutPort) (hp : s.port p = .output o) :
    (s.offerPort h p).port p = .output (o.offered h) := by
  rw [State.offerPort, State.offerTo_port _ h p .overlay _ (s.offerTo_port h p .main o hp), OutPort.offered_eq]

/-- An output port after the offer of a line: each of its records has been offered it once. -/
theorem State.offerLine_port (s : State) (h : Header) (p : PortId) (o : OutPort) (hp : s.port p = .output o) :
    (s.offerLine h).port p = .output (o.offered h) := by
  rw [State.offerLine_eq]
  cases p with
  | a => rw [State.offerPort_ne _ h .b .a (by decide)]; exact s.offerPort_port h .a o hp
  | b => exact State.offerPort_port _ h .b o ((s.offerPort_ne h .a .b (by decide)).trans hp)

/-- The records that take a line (R28). -/
theorem State.mem_lineTakers (s : State) (h : Header) (p : PortId) (role : Role) (o : OutPort) (k : Sink)
    (hp : s.port p = .output o) (hk : o.sink role = some k) :
    ⟨p, role⟩ ∈ s.lineTakers h ↔ (k.offered (o.limit role k) h).2 = .accepted := by
  have hall : (⟨p, role⟩ : SinkId) ∈ allSinks := by cases p <;> cases role <;> decide
  simp [State.lineTakers, hall, State.offerTaken, hp, o.offerLine_some h role k hk]

theorem State.lineTakers_nodup (s : State) (h : Header) : (s.lineTakers h).Nodup :=
  List.Nodup.filter _ (by decide)

/-! ### The cause of an overrun -/

theorem State.isPending_offerPort_of (s : State) (h : Header) (p : PortId) (c : Cause) (hs : s.isPending c = true) :
    (s.offerPort h p).isPending c = true :=
  State.isPending_onOut_of _ _ _ c (State.isPending_onOut_of s _ _ c hs)

/-- The first overrun of a frame raises its cause (R101). -/
theorem State.offerTo_overrun (s : State) (h : Header) (p : PortId) (role : Role) (o : OutPort) (k : Sink)
    (hp : s.port p = .output o) (hk : o.sink role = some k) (htaken : (k.offered (o.limit role k) h).2 = .overrun)
    (hfirst : k.overrun = false) : (s.offerTo h h.fmt ⟨p, role⟩).isPending .storeOverrun = true := by
  rw [State.offerTo, State.onOut_output s p o _ hp, o.offerLine_some h role k hk]
  dsimp only
  rw [htaken, Sink.offerCause, hfirst]
  exact State.isPending_raise _ _

theorem State.offerPort_overrun (s : State) (h : Header) (p : PortId) (role : Role) (o : OutPort) (k : Sink)
    (hp : s.port p = .output o) (hk : o.sink role = some k) (htaken : (k.offered (o.limit role k) h).2 = .overrun)
    (hfirst : k.overrun = false) : (s.offerPort h p).isPending .storeOverrun = true := by
  cases role with
  | main => exact State.isPending_onOut_of _ _ _ _ (s.offerTo_overrun h p .main o k hp hk htaken hfirst)
  | overlay =>
    have hport := s.offerTo_port h p .main o hp
    rw [o.offerLine_some h .main o.main rfl] at hport
    exact State.offerTo_overrun _ h p .overlay _ k hport hk htaken hfirst

theorem State.offerLine_overrun (s : State) (h : Header) (p : PortId) (role : Role) (o : OutPort) (k : Sink)
    (hp : s.port p = .output o) (hk : o.sink role = some k) (htaken : (k.offered (o.limit role k) h).2 = .overrun)
    (hfirst : k.overrun = false) : (s.offerLine h).isPending .storeOverrun = true := by
  rw [State.offerLine_eq]
  cases p with
  | a => exact State.isPending_offerPort_of _ h .b _ (s.offerPort_overrun h .a role o k hp hk htaken hfirst)
  | b => exact State.offerPort_overrun _ h .b role o k ((s.offerPort_ne h .a .b (by decide)).trans hp) hk htaken hfirst

/-! ### What a discarded line leaves -/

/-- A record that was filling no line and has been offered one, which was then taken back when it had been taken, has the
queue it had (R28, R100, R101). -/
theorem Sink.offered_queue (limit : Nat) (h : Header) (k : Sink) (hfull : ∀ x ∈ k.queue, x.full = true)
    (hdetached : k.detached = []) : (k.offered limit h).1.detached = [] ∧
      (k.offered limit h).1.withdrawn.queue = k.queue ∧
      ((k.offered limit h).2 ≠ .accepted → (k.offered limit h).1.queue = k.queue) := by
  have hkeep : k.queue.filter (fun x => x.full) = k.queue := List.filter_eq_self.mpr hfull
  unfold Sink.offered Sink.offer
  split_ifs
  · exact ⟨hdetached, hkeep, fun _ => rfl⟩
  · split
    · exact ⟨hdetached, hkeep, fun _ => rfl⟩
    · exact ⟨hdetached, by simp [Sink.withdrawn, hkeep], fun hn => absurd rfl hn⟩
  · exact ⟨hdetached, hkeep, fun _ => rfl⟩

/-! ### What one record makes of the offer -/

/-- The lowest slot of an allotment that is not in use, where there is one (R95). -/
theorem Sink.freeSlot_eq_none {k : Sink}
    (h : ∀ n, k.cfg.first ≤ n → n < k.cfg.first + k.cfg.count → n ∈ k.usedSlots) : k.freeSlot = none := by
  refine List.find?_eq_none.mpr fun n hn => ?_
  rw [List.mem_range'_1] at hn
  simpa using h n hn.1 hn.2

theorem Sink.freeSlot_eq_some {k : Sink} {n : Nat} (hlow : k.cfg.first ≤ n) (hhigh : n < k.cfg.first + k.cfg.count)
    (hfree : n ∉ k.usedSlots) (hbefore : ∀ m, k.cfg.first ≤ m → m < n → m ∈ k.usedSlots) : k.freeSlot = some n := by
  rw [Sink.freeSlot, List.find?_range'_eq_some]
  refine ⟨by simpa using hfree, by simpa [List.mem_range'_1] using ⟨hlow, hhigh⟩,
    fun m h1 h2 => by simpa using hbefore m h1 h2⟩

/-- A record that names another stream, or that refuses the line, stays (R28, R100). -/
theorem Sink.offered_refused {limit : Nat} {h : Header} {k : Sink}
    (hr : k.active ≠ some h.stream ∨ k.refuses limit h.frame h.line.toNat = true) : k.offered limit h = (k, .refused) := by
  unfold Sink.offered
  split_ifs with hs
  · exact if_pos (hr.resolve_left (not_not.mpr hs))
  · rfl

/-- A line that finds no free slot is an overrun (R101). -/
theorem Sink.offered_overrun {limit : Nat} {h : Header} {k : Sink} (hs : k.active = some h.stream)
    (hr : k.refuses limit h.frame h.line.toNat = false) (hslot : k.freeSlot = none) : k.offered limit h =
      ({ k with last := some h.line.toNat, torn := true, overrun := true, overrunCount := holdInc k.overrunCount },
        .overrun) := by
  rw [Sink.offered, if_pos hs, Sink.offer, if_neg (by simp [hr]), hslot]

/-- A line that is taken joins the queue as a FILLING record of the lowest free slot (R95, R100). -/
theorem Sink.offered_accepted {limit : Nat} {h : Header} {k : Sink} {n : Nat} (hs : k.active = some h.stream)
    (hr : k.refuses limit h.frame h.line.toNat = false) (hslot : k.freeSlot = some n) : k.offered limit h =
      ({ k with
          last := some h.line.toNat, torn := k.torn || h.line.toNat != k.expected
          queue := k.queue ++ [{ slot := n, frame := h.frame, line := h.line.toNat, width := h.width.toNat, fmt := h.fmt
                                 full := false, pixels := [] }] }, .accepted) := by
  rw [Sink.offered, if_pos hs, Sink.offer, if_neg (by simp [hr]), hslot]

/-- A record offered a line that is then discarded at its header, so taken back where it was taken (R12, R28): one that was
filling no line has the queue it had. -/
theorem Sink.discarded_queue (limit : Nat) (h : Header) (k : Sink) (taken : Prop) [Decidable taken]
    (htaken : taken ↔ (k.offered limit h).2 = .accepted) (hfull : ∀ x ∈ k.queue, x.full = true)
    (hdetached : k.detached = []) :
    (if taken then (k.offered limit h).1.withdrawn else (k.offered limit h).1).queue = k.queue ∧
      (if taken then (k.offered limit h).1.withdrawn else (k.offered limit h).1).detached = [] := by
  obtain ⟨hdet, hback, hkept⟩ := k.offered_queue limit h hfull hdetached
  by_cases ht : taken
  · rw [if_pos ht]; exact ⟨hback, rfl⟩
  · rw [if_neg ht]; exact ⟨hkept (mt htaken.mpr ht), hdet⟩

/-! ### A data word taken -/

/-- A data word with no decision due, neither in excess nor lost to a full buffer, is taken (R9, R12). -/
theorem State.bodyWord_take {s : State} {r : Reception} (w : Word) (hgot : r.got ≤ r.hdr.len.toNat)
    (hdecides : r.decides = false) (hroom : r.course = .forward → fillOf s.link.transit < 4096) :
    s.bodyWord r w = s.takeWord r w := by
  have hfull : ¬ (r.course = .forward ∧ Config.transitWords ≤ fillOf s.link.transit) := fun hn =>
    absurd (hroom hn.1) (Nat.not_lt.mpr hn.2)
  simp only [State.bodyWord, if_neg (Nat.not_le.mpr (Nat.lt_succ_of_le hgot)), State.maybeDecide, hdecides,
    Bool.false_eq_true, if_false, if_neg hfull]

/-- No decision is due (R32). -/
theorem Reception.decides_false {r : Reception}
    (h : r.kind ≠ .message ∨ r.got ≠ 0 ∨ r.course ≠ .forward ∨ r.repeater = true) : r.decides = false := by
  rw [Reception.decides, Bool.eq_false_iff]
  intro hd
  simp only [Bool.and_eq_true, beq_iff_eq, Bool.not_eq_true'] at hd
  obtain ⟨⟨⟨hc, hr⟩, hk⟩, hg⟩ := hd
  simp [hc, hr, hk, hg] at h

theorem Reception.decides_true {r : Reception} (hc : r.course = .forward) (hr : r.repeater = false) (hk : r.kind = .message)
    (hg : r.got = 0) : r.decides = true := by
  simp [Reception.decides, hc, hr, hk, hg]

/-- A data word joins the transit entry of a forwarded parcel (R12). -/
def State.joined (s : State) (r : Reception) (w : Word) : State :=
  if r.course = .forward then s.onNewest (TransitEntry.join w) else s

theorem State.joined_eq (s : State) (r : Reception) (w : Word) : s.joined r w =
    { s with link := { s.link with
        transit := if r.course = .forward then mapNewest (TransitEntry.join w) s.link.transit else s.link.transit } } := by
  unfold State.joined; split_ifs <;> rfl

/-- A word that carries no pixels joins the transit entry and is counted, and nothing else (R9, R12). -/
theorem State.takeWord_plain {s : State} {r : Reception} {w : Word} (hplain : ¬ (r.kind = .line ∧ r.got < r.hdr.len.toNat)) :
    s.takeWord r w = (s.joined r w).toStage (.body (r.count w)) := by
  change ((s.joined r w).copyWord r w).1.toStage (.body (((s.joined r w).copyWord r w).2.count w)) = _
  rw [State.copyWord, if_neg hplain]

/-- A payload word of a line gives its pixels to the records that took it (R28, R102). -/
theorem State.takeWord_line {s : State} {r : Reception} {w : Word} (hk : r.kind = .line) (hgot : r.got < r.hdr.len.toNat) :
    s.takeWord r w = ((s.joined r w).writeLine r.lineTo (unpackWord r.hdr.fmt r.carry w).1).toStage
      (.body (Reception.count { r with carry := (unpackWord r.hdr.fmt r.carry w).2 } w)) := by
  change ((s.joined r w).copyWord r w).1.toStage (.body (((s.joined r w).copyWord r w).2.count w)) = _
  rw [State.copyWord, if_pos ⟨hk, hgot⟩]

/-- A data word in UP, after the header. -/
theorem exec_payloadWord {s : State} {r : Reception} (w : Word) (hrun : s.running) (hup : s.link.state = .up)
    (hstage : s.link.stage = .body r) : exec (.payloadWord w) s = .next (s.counted.bodyWord r w) := by
  change live (fun s => s.payloadWord w) s = _
  rw [live_running _ _ hrun, State.payloadWord, hstage]
  exact congrArg _ (s.unitUp_up _ hup)

/-- Settles O19: a word that carries no pixels and needs no decision. -/
theorem payloadWordTaken : Obligations.PayloadWordTaken := by
  intro s r w hrun hup hstage hgot hplain hdecides hroom
  have hcopy : ¬ (r.kind = .line ∧ r.got < r.hdr.len.toNat) := fun hn =>
    hplain.elim (· hn.1) (fun he => absurd he (Nat.ne_of_lt hn.2))
  have hcount : r.count w =
      if r.got < r.hdr.len.toNat then
        { r with got := r.got + 1, crc := crc32Word r.crc w, payload := r.payload ++ [w] }
      else { r with got := r.got + 1, checkOk := w == r.crc } := by
    unfold Reception.count
    by_cases hpay : r.got < r.hdr.len.toNat
    · rw [if_pos hpay, if_pos hpay, if_neg (fun hk => hcopy ⟨hk, hpay⟩)]
    · rw [if_neg hpay, if_neg hpay]
  rw [exec_payloadWord w hrun hup hstage,
    State.bodyWord_take (s := s.counted) w hgot (Reception.decides_false hdecides) hroom, State.takeWord_plain hcopy, hcount,
    State.joined_eq]
  rfl

/-! ### The packing of 12.3 -/

/-- The pixels of a byte sequence: one for each three bytes, the rest carried (12.3). -/
theorem pixelsOfBytes_spec (l : List Byte) :
    (pixelsOfBytes l).1.length = l.length / 3 ∧ (pixelsOfBytes l).2 = l.drop (3 * (l.length / 3)) ∧
      ∀ j, j < l.length / 3 →
        (pixelsOfBytes l).1[j]? = some (p24Pixel (l.getD (3 * j) 0) (l.getD (3 * j + 1) 0) (l.getD (3 * j + 2) 0)) := by
  induction l using pixelsOfBytes.induct with
  | case1 r g b rest ih =>
    obtain ⟨hlen, hrest, hpix⟩ := ih
    have hdiv : (r :: g :: b :: rest).length / 3 = rest.length / 3 + 1 := by simp only [List.length_cons]; omega
    rw [hdiv, pixelsOfBytes]
    refine ⟨by simp [hlen], by rw [hrest, Nat.mul_add]; rfl, fun j hj => ?_⟩
    cases j with
    | zero => rfl
    | succ j =>
      rw [List.getElem?_cons_succ, hpix j (by omega), Nat.mul_succ]
      rfl
  | case2 rest hshort =>
    have hlen : rest.length < 3 := by
      match rest, hshort with
      | [], _ => simp
      | [_], _ => simp
      | [_, _], _ => simp
      | a :: b :: c :: l, hshort => exact (hshort a b c l rfl).elim
    have hdiv : rest.length / 3 = 0 := Nat.div_eq_of_lt hlen
    have hnone : pixelsOfBytes rest = ([], rest) := pixelsOfBytes.eq_2 rest hshort
    rw [hdiv, hnone]
    exact ⟨rfl, rfl, fun j hj => absurd hj (Nat.not_lt_zero j)⟩

/-- The fields of a P16 half word as parts of its number (12.3). -/
theorem unpackP16_eq (v : Half) : unpackP16 v =
    { r := BitVec.ofNat 10 ((v.toNat / 2048) * 33)
      g := BitVec.ofNat 10 ((v.toNat / 32 % 64) * 16 + v.toNat / 32 % 64 / 4)
      b := BitVec.ofNat 10 ((v.toNat % 32) * 33) } := by
  have hr : (v.extractLsb' 11 5).toNat = v.toNat / 2048 := by
    rw [BitVec.extractLsb'_toNat, Nat.shiftRight_eq_div_pow]; have := v.isLt; omega
  have hg : (v.extractLsb' 5 6).toNat = v.toNat / 32 % 64 := by rw [BitVec.extractLsb'_toNat, Nat.shiftRight_eq_div_pow]
  have hb : (v.extractLsb' 0 5).toNat = v.toNat % 32 := by rw [BitVec.extractLsb'_toNat, Nat.shiftRight_zero]
  simp only [unpackP16, expand5, expand6, hr, hg, hb]

/-! ### A line's header and its payload words -/

/-- The tests of R100, as they refuse a line. -/
theorem Sink.refuses_eq (limit : Nat) (frame : Half) (y : Nat) (k : Sink) : k.refuses limit frame y =
    ((match k.cur with | none => true | some f => f.no != frame) ||
      (match k.last with | none => false | some n => decide (y ≤ n)) || decide (limit ≤ y)) := by
  unfold Sink.refuses; rfl

theorem kind_of_code_zero {h : Header} {k : ParcelKind} (hk : h.kind = some k) (h0 : h.kindCode = 0) : k = .line := by
  rw [Header.kind, h0] at hk; cases hk; rfl

/-- A header with room behind it is received, whatever its course brings to the transit buffer (R11, R18). -/
theorem State.decideHeader_forward {s : State} {h : Header} {k : ParcelKind} (hc : courseOf s.node.station h = .forward)
    (hroom : fillOf s.link.transit + 4 ≤ 4096) : ∃ l : RingPort, s.decideHeader h k =
      ({ s.offered h k with link := l } : State).toStage (.body (s.reception h k)) := by
  rw [State.decideHeader_eq, if_pos hc, if_neg (by simpa [Config.transitWords] using hroom)]
  exact ⟨_, rfl⟩

theorem State.port_link (s : State) (l : RingPort) (p : PortId) : ({ s with link := l } : State).port p = s.port p := by
  cases p <;> rfl

/-- A port with one operation made on named records, spelled out. -/
theorem Port.mapNamed_spec (q : Port) (p : PortId) (l : List SinkId) (f : Sink → Sink) :
    (∀ o, q = .output o → q.mapNamed p l f = .output { o with
      main := if ⟨p, .main⟩ ∈ l then f o.main else o.main
      overlay := if ⟨p, .overlay⟩ ∈ l then o.overlay.map f else o.overlay }) ∧
    ((∀ o, q ≠ .output o) → q.mapNamed p l f = q) := by
  cases q with
  | output o => exact ⟨fun o' ho => by cases ho; rfl, fun hn => absurd rfl (hn o)⟩
  | input i => exact ⟨fun o ho => (nomatch ho), fun _ => rfl⟩
  | unused k => exact ⟨fun o ho => (nomatch ho), fun _ => rfl⟩

/-- A payload word of a line is counted, with the bytes of it that no whole pixel took (R9, 12.3). -/
theorem Reception.count_line {r : Reception} {w : Word} {c : List Byte} (hk : r.kind = .line) (hgot : r.got < r.hdr.len.toNat) :
    Reception.count { r with carry := c } w = { r with got := r.got + 1, crc := crc32Word r.crc w, carry := c } := by
  simp [Reception.count, hgot, hk]

/-- The ports after a payload word of a line (R28, R102). -/
theorem State.takeWord_line_port {s : State} {r : Reception} {w : Word} (hk : r.kind = .line)
    (hgot : r.got < r.hdr.len.toNat) (hn : r.lineTo.Nodup) (p : PortId) : (s.takeWord r w).port p =
      (s.port p).mapNamed p r.lineTo (Sink.write (unpackWord r.hdr.fmt r.carry w).1) := by
  rw [State.takeWord_line hk hgot, State.toStage, State.port_link, State.writeLine_port _ _ _ _ hn, State.joined_eq,
    State.port_link]

/-- Settles O20: a line at the sink records, its payload words, and their packing. -/
theorem lineWordReachesSink : Obligations.LineWordReachesSink := by
  refine ⟨?_, ?_, ?_⟩
  · intro s w0 w1 w2 w3 p role o k hrun hup hstage hgood hstate hsource hhop hroom hcode hp hk h y limit others used
    obtain ⟨kind, hkind, hexec⟩ := exec_headerEvent_good hrun hup hstage hgood
    obtain rfl := kind_of_code_zero hkind hcode
    have hoffers : s.counted.node.state.offers = true := by rcases hstate with hs | hs <;> rw [State.counted_node, hs] <;> rfl
    have hcourse : courseOf s.counted.node.station h = .forward := courseOf_forward hsource hhop
    obtain ⟨l, hl⟩ := State.decideHeader_forward (k := .line) hcourse hroom
    have hport : (s.counted.sighted h).port p = .output o := by simpa using hp
    have hrefuses : k.refuses limit h.frame y = others := k.refuses_eq limit h.frame y
    have hlimit : o.limit role k = limit := by cases role <;> rfl
    have htakers : ⟨p, role⟩ ∈ (s.counted.reception h .line).lineTo ↔ (k.offered limit h).2 = .accepted := by
      rw [State.reception_lineTo hcourse hoffers, ← hlimit]
      exact s.counted.mem_lineTakers h p role o k (by simpa using hp) hk
    refine ⟨_, s.counted.reception h .line, o.offered h, (k.offered limit h).1, hexec.trans (congrArg _ hl), rfl, ?_,
      hlimit ▸ o.offered_sink h role k hk, rfl, rfl, rfl, rfl, fun hn => ?_, fun hs hothers => ⟨fun hused => ?_, ?_⟩⟩
    · rw [State.toStage, State.port_link, State.port_link, State.offered_line hcourse hoffers]
      exact State.offerLine_port _ h p o hport
    · have hrefused := Sink.offered_refused (limit := limit) (h := h) (k := k) (hrefuses ▸ hn)
      rw [htakers, hrefused]
      exact ⟨rfl, by simp⟩
    · have hover := Sink.offered_overrun hs (hrefuses.trans hothers) (Sink.freeSlot_eq_none hused)
      rw [htakers, hover]
      refine ⟨rfl, by simp, fun hfirst => ?_⟩
      change (s.counted.offered h .line).isPending .storeOverrun = true
      rw [State.offered_line hcourse hoffers]
      exact State.offerLine_overrun _ h p role o k hport hk (by rw [hlimit, hover]) hfirst
    · intro n hlow hhigh hfree hbefore
      have htaken := Sink.offered_accepted hs (hrefuses.trans hothers) (Sink.freeSlot_eq_some hlow hhigh hfree hbefore)
      rw [htakers, htaken]
      exact ⟨rfl, rfl⟩
  · intro s r w hrun hup hstage hkind hgot hnodup hroom ps written
    refine ⟨_, exec_payloadWord w hrun hup hstage, ?_⟩
    have hdecides : r.decides = false := Reception.decides_false (.inl (by simp [hkind]))
    rw [State.bodyWord_take (s := s.counted) w hgot.le hdecides hroom]
    refine ⟨?_, ?_, ?_, ?_, ?_, ?_, fun p => ?_⟩
    · rw [State.takeWord_line hkind hgot, State.toStage, State.writeLine_link, State.joined_eq,
        Reception.count_line hkind hgot]
      rfl
    · rw [State.takeWord_line hkind hgot, State.joined_eq]; exact State.writeLine_att _ _ _
    · exact State.takeWord_sched _ _ _
    · exact State.takeWord_view _ _ _
    · exact State.takeWord_svc _ _ _
    · exact State.takeWord_store _ _ _
    · rw [State.takeWord_line_port hkind hgot hnodup, State.counted_port]
      exact Port.mapNamed_spec _ _ _ _
  · intro c w e8 half
    refine ⟨rfl, ?_, pixelsOfBytes_spec _⟩
    change ([unpackP16 _, unpackP16 _], _) = _
    rw [unpackP16_eq, unpackP16_eq]

end Sys2Proof.Machine
end

section
/-! PROOFS. A parcel ended early by a full transit buffer or by a word in excess (R9, R12, R28, R32 to R35). -/

namespace Sys2Proof.Machine

/-! ### The decision at a message's first payload word -/

/-- A message whose kind is undefined (R32). -/
theorem MessageKind.ofCode_none_iff (c : Nat) : MessageKind.ofCode c = none ↔ ¬ c ≤ 3 := by
  match c with
  | 0 | 1 | 2 | 3 => simp [MessageKind.ofCode]
  | n + 4 => simp [MessageKind.ofCode]

/-- An entry reserved by a decision is not complete (R33). -/
theorem decideMessage_entry {station source : StationNo} {room : Bool} {f : Byte} {w : Word} {e : InMessage}
    (he : (decideMessage station source room f w).entry = some e) : e.complete = false := by
  unfold decideMessage decideBroadcast decideUnicast at he
  split at he
  · cases he
  · split_ifs at he <;> cases he <;> rfl

/-- The two counts of a broadcast's flags (12.1). -/
theorem flagCounts_append (a b : BitVec 4) : flagCounts (a ++ b) = (a, b) := by
  unfold flagCounts
  rw [BitVec.extractLsb'_append_eq_left, BitVec.extractLsb'_append_eq_right]

theorem raiseCount_eq (c : BitVec 4) : raiseCount c = if c = 15 then 15 else c + 1 := by
  by_cases hc : c = 15#4
  · exact (if_pos hc).trans (hc.trans (if_pos hc).symm)
  · exact (if_neg hc).trans (if_neg hc).symm

/-- The flags a unicast addressed here leaves with (R33, log 48). -/
theorem decideMessage_unicast {station source : StationNo} {room : Bool} {f : Byte} {w : Word}
    (hk : messageKindCode w ≤ 3) (ht : messageTarget w = station.toNat) : (decideMessage station source room f w).flags =
      if f.getLsbD 7 = true ∨ f.getLsbD 6 = true then f else if room then f ||| 0x80#8 else f ||| 0x40#8 := by
  have hown : messageTarget w ≠ broadcastTarget := by have := station.isLt; rw [ht, broadcastTarget]; omega
  unfold decideMessage
  split
  · rename_i hnone; exact absurd hk ((MessageKind.ofCode_none_iff _).mp hnone)
  · simp only [if_neg hown, if_pos ht, decideUnicast, takenFlag, refusedFlag, Bool.or_eq_true]
    split_ifs <;> rfl

/-- The counts a broadcast leaves with (R34, log 20). -/
theorem decideMessage_broadcast {station source : StationNo} {room : Bool} {f : Byte} {w : Word}
    (hk : messageKindCode w ≤ 3) (ht : messageTarget w = 31) : flagCounts (decideMessage station source room f w).flags =
      if room then (raiseCount (flagCounts f).1, (flagCounts f).2) else ((flagCounts f).1, raiseCount (flagCounts f).2) := by
  unfold decideMessage
  split
  · rename_i hnone; exact absurd hk ((MessageKind.ofCode_none_iff _).mp hnone)
  · rw [if_pos (show messageTarget w = broadcastTarget from ht), decideBroadcast]
    split_ifs <;> exact flagCounts_append _ _

/-- A message for another station, or with an undefined kind or target, passes as it arrived (R32). -/
theorem decideMessage_passed {station source : StationNo} {room : Bool} {f : Byte} {w : Word}
    (hunicast : ¬ (messageKindCode w ≤ 3 ∧ messageTarget w = station.toNat))
    (hbroadcast : ¬ (messageKindCode w ≤ 3 ∧ messageTarget w = 31)) :
    (decideMessage station source room f w).flags = f := by
  unfold decideMessage
  split
  · rfl
  · rename_i k hsome
    have hk : messageKindCode w ≤ 3 := by
      by_contra hn
      rw [(MessageKind.ofCode_none_iff _).mpr hn] at hsome; cases hsome
    rw [if_neg (fun ht : messageTarget w = broadcastTarget => hbroadcast ⟨hk, ht⟩),
      if_neg (fun ht => hunicast ⟨hk, ht⟩)]

/-! ### The transit entry -/

theorem mapNewest_mapNewest (f g : TransitEntry → TransitEntry) (l : List TransitEntry) :
    mapNewest f (mapNewest g l) = mapNewest (fun e => f (g e)) l := by
  induction l with
  | nil => rfl
  | cons e es ih =>
    cases es with
    | nil => rfl
    | cons x xs =>
      have hne : ∃ y ys, mapNewest g (x :: xs) = y :: ys := by cases xs <;> exact ⟨_, _, rfl⟩
      obtain ⟨y, ys, hy⟩ := hne
      change mapNewest f (e :: mapNewest g (x :: xs)) = e :: mapNewest _ (x :: xs)
      rw [← ih, hy]; rfl

/-- An entry whose held header word leaves with its final flags and whose end is then recorded as bad (R10, R32). -/
theorem TransitEntry.close_release (w : Word) (e : TransitEntry) : (e.release w).close false =
    { e with words := e.words ++ (if e.heldBack.isSome then [w] else []), heldBack := none, fin := some false } := by
  obtain ⟨words, heldBack, fin, cut⟩ := e
  cases heldBack <;> simp [TransitEntry.release, TransitEntry.close, TransitEntry.releaseHeld]

/-! ### Ends before the end symbol -/

/-- A record that has no part in a line stays at its bad end (R28). -/
theorem State.filterEnd_uncopied {s : State} {r : Reception} (hc : r.course = .forward) (hl : r.lineTo = [])
    (hv : r.reserved = false) : s.filterEnd r false = s := by
  rw [State.filterEnd_bad, hc, hl, hv]
  cases r.repeater <;> cases r.kind <;> rfl

/-- The records of an output port in which no line is being filled have the queues they had after a line's header and its
discard (R12, R28). -/
theorem OutPort.discarded (h : Header) (o : OutPort) (p : PortId) (l : List SinkId)
    (hl : ∀ role k, o.sink role = some k → (⟨p, role⟩ ∈ l ↔ (k.offered (o.limit role k) h).2 = .accepted))
    (hdet : o.main.detached = []) (hfull : ∀ x ∈ o.main.queue, x.full = true)
    (hover : ∀ k, o.overlay = some k → k.detached = [] ∧ ∀ x ∈ k.queue, x.full = true) :
    let main := if ⟨p, .main⟩ ∈ l then (o.offered h).main.withdrawn else (o.offered h).main
    let overlay := if ⟨p, .overlay⟩ ∈ l then (o.offered h).overlay.map Sink.withdrawn else (o.offered h).overlay
    main.queue = o.main.queue ∧ main.detached = [] ∧ overlay.map Sink.queue = o.overlay.map Sink.queue ∧
      overlay.map Sink.detached = o.overlay.map Sink.detached := by
  intro main overlay
  obtain ⟨hq, hd⟩ := Sink.discarded_queue (o.limit .main o.main) h o.main _ (hl .main o.main rfl) hfull hdet
  refine ⟨hq, hd, ?_⟩
  cases hk : o.overlay with
  | none => simp [overlay, OutPort.offered, hk]
  | some k =>
    obtain ⟨hkd, hkf⟩ := hover k hk
    obtain ⟨hkq, hkd'⟩ := Sink.discarded_queue (o.limit .overlay k) h k _ (hl .overlay k hk) hkf hkd
    have hov : overlay = some (if ⟨p, .overlay⟩ ∈ l then (k.offered (o.limit .overlay k) h).1.withdrawn
        else (k.offered (o.limit .overlay k) h).1) := by
      simp only [overlay, OutPort.offered, hk, Option.map_some]
      split_ifs <;> rfl
    rw [hov]
    exact ⟨congrArg some hkq, congrArg some (hkd'.trans hkd.symm)⟩

/-- A truncated parcel: no decision is due and the buffer is full (R12). -/
theorem State.bodyWord_truncates {s : State} {r : Reception} (w : Word) (hgot : r.got ≤ r.hdr.len.toNat)
    (hc : r.course = .forward) (hfull : 4096 ≤ fillOf s.link.transit) :
    s.bodyWord r w = (s.maybeDecide r w).1.overflow.endParcel (s.maybeDecide r w).2 false := by
  have hcut : r.course = .forward ∧ Config.transitWords ≤ fillOf s.link.transit := ⟨hc, hfull⟩
  simp only [State.bodyWord, if_neg (Nat.not_le.mpr (Nat.lt_succ_of_le hgot)), if_pos hcut]

/-- A word beyond the check word ends the parcel bad (R9, log 37). -/
theorem State.bodyWord_excess {s : State} {r : Reception} (w : Word) (hgot : r.hdr.len.toNat + 1 ≤ r.got) :
    s.bodyWord r w = s.payloadError.endParcel r false := if_pos hgot

/-- A message decided at its first payload word: the held header word released, an entry reserved where one is due (R32). -/
theorem State.decideFirst_state (s : State) (r : Reception) (w : Word) : (s.decideFirst r w).1 =
    { s.onNewest (TransitEntry.release (Header.sealed { r.fwd with
        flags := (decideMessage s.node.station r.hdr.source s.inboxRoom r.fwd.flags w).flags }).word3) with
      svc := { s.svc with inbox := s.svc.inbox ++
        (decideMessage s.node.station r.hdr.source s.inboxRoom r.fwd.flags w).entry.toList } } := by
  unfold State.decideFirst; dsimp only
  cases (decideMessage s.node.station r.hdr.source s.inboxRoom r.fwd.flags w).entry with
  | none => rw [Option.toList_none, List.append_nil]; rfl
  | some e => rfl

/-- The bad end of a message decided here takes back the entry it reserved (R35). -/
theorem State.endParcel_message_bad {s : State} {r : Reception} (hc : r.course = .forward) (hr : r.repeater = false)
    (hk : r.kind = .message) : s.endParcel r false = { s with
      link := (s.endParcel r false).link
      svc := { s.svc with
        inbox := if r.reserved then s.svc.inbox.filter InMessage.complete else s.svc.inbox } } := by
  rw [State.endParcel_link, State.endParcel, if_pos hc, if_pos hc, State.filterEnd_bad, hr, hc, hk]
  cases r.reserved <;> rfl

/-- An inbox of complete entries is as it was once an entry that was reserved in it has been withdrawn (R35). -/
theorem inbox_withdrawn (box : List InMessage) (entry : Option InMessage) (hall : ∀ x ∈ box, x.complete = true)
    (hentry : ∀ e, entry = some e → e.complete = false) :
    (if entry.isSome then (box ++ entry.toList).filter InMessage.complete else box ++ entry.toList) = box := by
  cases entry with
  | none => simp
  | some e => simp [hentry e rfl, List.filter_eq_self.mpr hall]

/-- Settles O18: what the transit buffer and the length end early. -/
theorem overrunEnds : Obligations.OverrunEnds := by
  refine ⟨?_, ?_, ?_, ?_⟩
  · intro s w0 w1 w2 w3 hrun hup hstage hgood hsource hhop hfill
    obtain ⟨k, -, hexec⟩ := exec_headerEvent_good hrun hup hstage hgood
    generalize Header.ofWords w0 w1 w2 w3 = h at *
    have hcourse : courseOf s.counted.node.station h = .forward := courseOf_forward hsource hhop
    have hover : Config.transitWords < fillOf s.counted.link.transit + 4 := by
      simp only [Config.transitWords, State.counted_link, RingPort.countUnit_transit]; omega
    rw [State.decideHeader_eq, if_pos hcourse, if_pos hover] at hexec
    have hends := State.filterEnd_endsBad ((s.counted.offered h k).overflow.toStage .outside) (s.counted.reception h k)
    refine ⟨_, hexec, ?_, ?_, fun p o hp hdet hfull hoverlay => ?_⟩
    · rw [State.filterEnd_link _ _ _ rfl, State.toStage, State.overflow, State.offered_link]; rfl
    · exact (hends.svc (.inr (.inr (.inr (.inr ⟨hcourse, rfl⟩))))).trans (State.offered_svc _ _ _)
    · by_cases hoffer : s.counted.node.state.offers = true ∧ k = .line
      · obtain ⟨ho, rfl⟩ := hoffer
        have hport : (s.counted.sighted h).port p = .output o := by simpa using hp
        have hoffered : ((s.counted.offered h .line).overflow.toStage .outside).port p = .output (o.offered h) := by
          rw [State.offered_line hcourse ho, State.toStage, State.port_link, State.overflow, State.port_link]
          exact State.offerLine_port _ h p o hport
        have hrep : (s.counted.reception h .line).repeater = false := by
          change (!s.counted.node.state.full) = false
          cases hf : s.counted.node.state.full with
          | true => rfl
          | false => rw [NodeState.offers_of_repeater hf] at ho; cases ho
        have hto := State.reception_lineTo hcourse ho
        have hline := (hends.line hcourse hrep rfl (hto ▸ State.lineTakers_nodup _ _) p).1 _ hoffered
        refine ⟨_, hline, o.discarded h p _ (fun role x hx => ?_) hdet hfull hoverlay⟩
        rw [hto]
        exact s.counted.mem_lineTakers h p role o x (by simpa using hp) hx
      · have hto : (s.counted.reception h k).lineTo = [] :=
          State.reception_lineTo_nil (.inr (not_and_or.mp hoffer |>.imp_left (Bool.not_eq_true _).mp))
        rw [State.filterEnd_uncopied hcourse hto rfl, State.toStage, State.port_link, State.overflow, State.port_link,
          State.offered_none (fun hn => hoffer hn.2), State.sighted_port, State.counted_port]
        exact ⟨o, hp, rfl, hdet, rfl, rfl⟩
  · intro s r w hrun hup hstage hgot hcourse hdecides hfull
    refine ⟨_, exec_payloadWord w hrun hup hstage, ?_⟩
    have hdue : r.decides = false :=
      Reception.decides_false (hdecides.imp_right (Or.imp_right Or.inr))
    have htrunc : s.counted.bodyWord r w = s.counted.overflow.endParcel r false := by
      rw [State.bodyWord_truncates (s := s.counted) w hgot hcourse hfull, State.maybeDecide, hdue]; rfl
    rw [htrunc]
    refine ⟨State.endParcel_endsBad_of _ s.att r, ?_⟩
    rw [State.endParcel_link, if_pos hcourse]; rfl
  · intro s r w hrun hup hstage hcourse hrep hkind hgot hfull raised
    refine ⟨_, (decideMessage s.node.station r.hdr.source s.inboxRoom r.fwd.flags w).flags,
      exec_payloadWord w hrun hup hstage, ?_⟩
    have htrunc : s.counted.bodyWord r w =
        (s.counted.decideFirst r w).1.overflow.endParcel (s.counted.decideFirst r w).2 false := by
      rw [State.bodyWord_truncates (s := s.counted) w (by omega) hcourse hfull, State.maybeDecide,
        if_pos (Reception.decides_true hcourse hrep hkind hgot)]
    have hend := State.endParcel_message_bad (s := (s.counted.decideFirst r w).1.overflow)
      (r := (s.counted.decideFirst r w).2) hcourse hrep hkind
    rw [htrunc]
    refine ⟨?_, ?_, fun hall => ?_, ?_⟩
    · rw [State.endParcel_link, State.overflow, State.decideFirst_state]
      exact congrArg (fun t => { s.link.countUnit with stage := .outside, ovf := holdInc s.link.ovf, transit := t })
        ((if_pos hcourse).trans ((mapNewest_mapNewest _ _ _).trans
          (congrArg (mapNewest · s.link.transit) (funext (TransitEntry.close_release _)))))
    · have hroom : s.inboxRoom = decide (s.svc.inbox.length < 8) := rfl
      split_ifs with hunicast hflag hfree hbroadcast hfree
      · rw [decideMessage_unicast hunicast.1 hunicast.2, if_pos hflag]
      · rw [decideMessage_unicast hunicast.1 hunicast.2, if_neg hflag, hroom, if_pos (decide_eq_true hfree)]
      · rw [decideMessage_unicast hunicast.1 hunicast.2, if_neg hflag, hroom, if_neg (by simpa using hfree)]
      · rw [decideMessage_broadcast hbroadcast.1 hbroadcast.2, hroom, if_pos (decide_eq_true hfree), raiseCount_eq]
      · rw [decideMessage_broadcast hbroadcast.1 hbroadcast.2, hroom, if_neg (by simpa using hfree), raiseCount_eq]
      · exact decideMessage_passed hunicast hbroadcast
    · rw [hend, State.decideFirst_state]
      exact congrArg (fun b => { s.svc with inbox := b })
        (inbox_withdrawn _ _ hall (fun e he => decideMessage_entry he))
    · rw [hend, State.decideFirst_state]
      exact ⟨rfl, rfl, rfl, rfl⟩
  · intro s r w hrun hup hstage hgot
    refine ⟨_, exec_payloadWord w hrun hup hstage, ?_⟩
    rw [State.bodyWord_excess w hgot]
    exact ⟨State.endParcel_endsBad_of _ s.att r, State.endParcel_link _ _ _⟩

end Sys2Proof.Machine
end

section
/-! PROOFS. The slots of the Line Store through every operation on a sink record and on an output port (R95): what keeps a
record's allotment and the soundness of its slots. -/

namespace Sys2Proof.Machine

/-! ### One sink record -/

/-- The record k' may take the place of k in the Line Store: it has k's allotment, and its slots are sound where those of k
are (R95). -/
structure Sink.Keeps (k k' : Sink) : Prop where
  cfg : k'.cfg = k.cfg
  stored : k.Stored → k'.Stored

theorem Sink.Keeps.refl (k : Sink) : k.Keeps k := ⟨rfl, id⟩

theorem Sink.Keeps.trans {a b c : Sink} (h : a.Keeps b) (h' : b.Keeps c) : a.Keeps c :=
  ⟨h'.cfg.trans h.cfg, h'.stored ∘ h.stored⟩

/-- A record that holds no slot it did not hold stays sound. -/
theorem Sink.keeps_of_subperm {k k' : Sink} (hc : k'.cfg = k.cfg) (hs : k'.usedSlots.Subperm k.usedSlots) : k.Keeps k' := by
  refine ⟨hc, fun h => ⟨?_, fun n hn => ?_, ?_⟩⟩
  · obtain ⟨l, hp, hl⟩ := hs
    exact hp.nodup_iff.mp (h.once.sublist hl)
  · rw [hc]; exact h.inside n (hs.subset hn)
  · rw [hc]; exact h.allotted

/-- A record whose queue and detached list only lost entries stays sound. -/
theorem Sink.keeps_of_sublist {k k' : Sink} (hc : k'.cfg = k.cfg)
    (hq : (k'.queue.map LineRec.slot).Sublist (k.queue.map LineRec.slot))
    (hd : (k'.detached.map LineRec.slot).Sublist (k.detached.map LineRec.slot)) : k.Keeps k' :=
  Sink.keeps_of_subperm hc (hq.append hd).subperm

/-- A record whose queue and detached list stay is sound as it was. -/
theorem Sink.keeps_of_same {k k' : Sink} (hc : k'.cfg = k.cfg) (hq : k'.queue = k.queue) (hd : k'.detached = k.detached) :
    k.Keeps k' :=
  Sink.keeps_of_sublist hc (by rw [hq]) (by rw [hd])

theorem Sink.keeps_forget (k : Sink) : k.Keeps k.forget :=
  Sink.keeps_of_sublist rfl (List.nil_sublist _) (List.Sublist.refl _)

theorem Sink.keeps_judgeNonce (t : List TableEntry) (s : StreamId) (k : Sink) : k.Keeps (k.judgeNonce t s) := by
  have hset : ∀ k1 : Sink, k1.Keeps (match tableNonce t s with | some n => { k1 with nonce := some n } | none => k1) := by
    intro k1; split
    · exact Sink.keeps_of_same rfl rfl rfl
    · exact .refl _
  unfold Sink.judgeNonce
  refine Sink.Keeps.trans ?_ (hset _)
  split_ifs
  · exact k.keeps_forget
  · exact .refl k

theorem Sink.keeps_lose (k : Sink) : k.Keeps k.lose :=
  k.keeps_forget.trans (Sink.keeps_of_same rfl rfl rfl)

/-- A subscription change moves the FILLING records to the detached ones, and the others go (R97). -/
theorem Sink.keeps_change (t : List TableEntry) (sub : Option StreamId) (k : Sink) : k.Keeps (k.change t sub) := by
  refine Sink.keeps_of_subperm rfl ?_
  have hsub : ((k.queue.filter (fun r => !r.full)).map LineRec.slot).Sublist (k.queue.map LineRec.slot) :=
    List.filter_sublist.map _
  have hperm : (k.change t sub).usedSlots.Perm
      ((k.queue.filter (fun r => !r.full)).map LineRec.slot ++ k.detached.map LineRec.slot) := by
    simpa [Sink.change, Sink.closeTorn, Sink.usedSlots] using List.perm_append_comm
  exact hperm.subperm.trans (hsub.append (.refl _)).subperm

theorem Sink.keeps_writeShadow (role : Role) (v : Placed) (k : Sink) : k.Keeps (k.writeShadow role v) := by
  unfold Sink.writeShadow; dsimp only; split_ifs
  · exact .refl k
  · exact Sink.keeps_of_same rfl rfl rfl

/-- The lowest free slot of an allotment is in the allotment and not in use (R95). -/
theorem Sink.freeSlot_some {k : Sink} {n : Nat} (h : k.freeSlot = some n) :
    k.cfg.first ≤ n ∧ n < k.cfg.first + k.cfg.count ∧ n ∉ k.usedSlots := by
  have hmem := List.mem_range'_1.mp (List.mem_of_find?_eq_some h)
  have hfree := List.find?_some h
  exact ⟨hmem.1, hmem.2, by simpa using hfree⟩

/-- A line that is taken holds one more slot, a free one of the allotment (R95, R100, R101). -/
theorem Sink.keeps_offer (limit : Nat) (frame : Half) (line width : Nat) (fmt : RingFormat) (k : Sink) :
    k.Keeps (k.offer limit frame line width fmt).1 := by
  unfold Sink.offer
  split_ifs with href
  · exact .refl k
  · split
    · exact Sink.keeps_of_same rfl rfl rfl
    · rename_i n hn
      obtain ⟨hlo, hhi, hfree⟩ := Sink.freeSlot_some hn
      refine ⟨rfl, fun h => ?_⟩
      have hperm : ∀ q d : List Nat, ((q ++ [n]) ++ d).Perm (n :: (q ++ d)) := fun q d => by
        rw [List.append_assoc]; exact List.perm_middle
      refine ⟨?_, fun m hm => ?_, h.allotted⟩
      · simp only [Sink.usedSlots, List.map_append, List.map_cons, List.map_nil]
        exact (hperm _ _).nodup_iff.mpr (List.nodup_cons.mpr ⟨hfree, h.once⟩)
      · simp only [Sink.usedSlots, List.map_append, List.map_cons, List.map_nil] at hm
        rcases List.mem_cons.mp ((hperm _ _).mem_iff.mp hm) with rfl | hm
        · exact ⟨hlo, hhi⟩
        · exact h.inside m hm

theorem LineRec.write_slot (ps : List Pixel) (r : LineRec) : (r.write ps).slot = r.slot := by
  unfold LineRec.write; split_ifs <;> rfl

theorem Sink.keeps_write (ps : List Pixel) (k : Sink) : k.Keeps (k.write ps) := by
  have hslot : LineRec.slot ∘ LineRec.write ps = LineRec.slot := funext (LineRec.write_slot ps)
  refine Sink.keeps_of_sublist rfl ?_ ?_ <;> simp [Sink.write, hslot]

theorem Sink.keeps_finish (good : Bool) (k : Sink) : k.Keeps (k.finish good) := by
  unfold Sink.finish
  split_ifs
  · refine Sink.keeps_of_sublist rfl ?_ (List.nil_sublist _)
    simp [Function.comp_def]
  · exact Sink.keeps_of_sublist rfl (List.filter_sublist.map _) (List.nil_sublist _)

theorem Sink.keeps_purge (k : Sink) : k.Keeps k.purge := by
  refine Sink.keeps_of_sublist rfl ?_ (List.Sublist.refl _)
  unfold Sink.purge; dsimp only
  split
  · exact List.nil_sublist _
  · exact List.filter_sublist.map _

theorem Sink.keeps_judgeSilence (watched : Bool) (k : Sink) : k.Keeps (k.judgeSilence watched) :=
  Sink.keeps_of_same rfl rfl rfl

theorem Sink.keeps_retake (k : Sink) : k.Keeps k.retake := by
  unfold Sink.retake
  split
  · exact .refl k
  · split_ifs
    · exact .refl k
    · exact Sink.keeps_of_sublist rfl (List.filter_sublist.map _) (List.Sublist.refl _)

/-- A read takes records from the front of the queue (R106). -/
theorem Sink.keeps_read (frame : Half) (y : Nat) (k : Sink) : k.Keeps (k.read frame y).1 := by
  have hdrop : (dropLate frame y k.queue).Sublist k.queue := List.dropWhile_sublist _
  unfold Sink.read
  split
  · exact Sink.keeps_of_sublist rfl (List.nil_sublist _) (List.Sublist.refl _)
  · rename_i r rest hq
    rw [hq] at hdrop
    split_ifs
    · exact Sink.keeps_of_sublist rfl (((List.sublist_cons_self r rest).trans hdrop).map _) (List.Sublist.refl _)
    · exact Sink.keeps_of_sublist rfl (hdrop.map _) (List.Sublist.refl _)

theorem Sink.keeps_standby (k : Sink) : k.Keeps k.standby :=
  Sink.keeps_of_sublist rfl (List.nil_sublist _) (List.nil_sublist _)

theorem Sink.keeps_unpresent (k : Sink) : k.Keeps k.unpresent := Sink.keeps_of_same rfl rfl rfl

theorem Sink.keeps_fresh (k : Sink) : k.Keeps (Sink.fresh k.cfg) :=
  Sink.keeps_of_sublist rfl (List.nil_sublist _) (List.nil_sublist _)

/-- A record at the entry to RUN holds no slot, so it is sound when its allotment lies in the Line Store (R94, R95). -/
theorem Sink.fresh_stored (c : SinkCfg) (h : c.Checked) : (Sink.fresh c).Stored :=
  ⟨List.nodup_nil, fun _ hn => absurd hn List.not_mem_nil, h.last⟩

/-! ### The records of an output port -/

/-- The records of o' may take the places of those of o. -/
structure OutPort.Keeps (o o' : OutPort) : Prop where
  main : o.main.Keeps o'.main
  overlay : Option.Rel Sink.Keeps o.overlay o'.overlay

theorem Sink.keeps_rel_refl (k : Option Sink) : Option.Rel Sink.Keeps k k := by
  cases k with
  | none => exact .none
  | some k => exact .some (.refl k)

theorem Sink.keeps_rel_map (f : Sink → Sink) (hf : ∀ k : Sink, k.Keeps (f k)) (k : Option Sink) :
    Option.Rel Sink.Keeps k (k.map f) := by
  cases k with
  | none => exact .none
  | some k => exact .some (hf k)

theorem OutPort.Keeps.trans {a b c : OutPort} (h : a.Keeps b) (h' : b.Keeps c) : a.Keeps c := by
  refine ⟨h.main.trans h'.main, ?_⟩
  have h1 := h.overlay
  have h2 := h'.overlay
  generalize a.overlay = x at h1
  generalize b.overlay = y at h1 h2
  generalize c.overlay = z at h2
  cases h1 with
  | none => exact h2
  | some h1 =>
    cases h2 with
    | some h2 => exact .some (h1.trans h2)

/-- What leaves both records as they are keeps them. -/
theorem OutPort.keeps_of_same {o o' : OutPort} (hm : o'.main = o.main) (hv : o'.overlay = o.overlay) : o.Keeps o' :=
  ⟨hm ▸ .refl _, hv ▸ Sink.keeps_rel_refl _⟩

theorem OutPort.Keeps.refl (o : OutPort) : o.Keeps o := OutPort.keeps_of_same rfl rfl

/-- What comes after and leaves both records as they are changes nothing. -/
theorem OutPort.Keeps.same {a b c : OutPort} (h : a.Keeps b) (hm : c.main = b.main) (hv : c.overlay = b.overlay) :
    a.Keeps c :=
  h.trans (OutPort.keeps_of_same hm hv)

theorem OutPort.keeps_mapSink (role : Role) (f : Sink → Sink) (hf : ∀ k : Sink, k.Keeps (f k)) (o : OutPort) :
    o.Keeps (o.mapSink role f) := by
  cases role with
  | main => exact ⟨hf _, Sink.keeps_rel_refl _⟩
  | overlay => exact ⟨.refl _, Sink.keeps_rel_map f hf _⟩

/-- A record put in the place of one of the port's. -/
theorem OutPort.keeps_putSink (role : Role) (o : OutPort) (k k' : Sink) (h : o.sink role = some k) (hk : k.Keeps k') :
    o.Keeps (o.mapSink role (fun _ => k')) := by
  cases role with
  | main => cases h; exact ⟨hk, Sink.keeps_rel_refl _⟩
  | overlay =>
    refine ⟨.refl _, ?_⟩
    change o.overlay = some k at h
    simp only [OutPort.mapSink, h]
    exact .some hk

theorem OutPort.keeps_mapSinks (f : Sink → Sink) (hf : ∀ k : Sink, k.Keeps (f k)) (o : OutPort) : o.Keeps (o.mapSinks f) :=
  ⟨hf _, Sink.keeps_rel_map f hf _⟩

theorem OutPort.keeps_cameraGone (b : Bool) (o : OutPort) : o.Keeps (o.cameraGone b).1 := by
  unfold OutPort.cameraGone
  split_ifs
  · exact OutPort.keeps_of_same rfl rfl
  · exact .refl o

theorem OutPort.keeps_loseSource (role : Role) (o : OutPort) : o.Keeps (o.loseSource role).1 := by
  have hlose : ∀ role, o.Keeps (o.mapSink role Sink.lose) := fun role => o.keeps_mapSink role _ Sink.keeps_lose
  cases role with
  | main =>
    unfold OutPort.loseSource; dsimp only
    refine OutPort.Keeps.trans ?_ (OutPort.keeps_cameraGone _ _)
    exact (hlose .main).same rfl rfl
  | overlay => exact (hlose .overlay).trans (OutPort.keeps_cameraGone (o.cfg.camMode == .inset) _)

theorem OutPort.keeps_judgeSource (t : List TableEntry) (role : Role) (o : OutPort) : o.Keeps (o.judgeSource t role).1 := by
  unfold OutPort.judgeSource
  split
  · exact .refl o
  · split
    · dsimp only
      refine o.keeps_mapSink role _ (fun k => ?_)
      exact Sink.keeps_of_same rfl rfl rfl
    · split_ifs
      · exact .refl o
      · exact o.keeps_loseSource role
    · exact .refl o

theorem OutPort.keeps_tableReport1 (t : List TableEntry) (st : StationNo) (role : Role) (o : OutPort) :
    o.Keeps (o.tableReport1 t st role).1 := by
  unfold OutPort.tableReport1
  split
  · exact .refl o
  · exact (o.keeps_mapSink role _ (Sink.keeps_judgeNonce t _)).trans (OutPort.keeps_judgeSource t role _)

theorem OutPort.keeps_tableReport (t : List TableEntry) (st : StationNo) (o : OutPort) : o.Keeps (o.tableReport t st).1 :=
  (o.keeps_tableReport1 t st .main).trans (OutPort.keeps_tableReport1 t st .overlay _)

theorem OutPort.keeps_subscribe (t : List TableEntry) (direct : Bool) (role : Role) (sub : Option StreamId) (o : OutPort) :
    o.Keeps (o.subscribe t direct role sub).1 := by
  cases role with
  | main =>
    unfold OutPort.subscribe; dsimp only
    split_ifs
    · exact .refl o
    · exact (o.keeps_mapSink .main _ (Sink.keeps_change t sub)).same rfl rfl
  | overlay =>
    unfold OutPort.subscribe; dsimp only
    split
    · exact .refl o
    · rename_i k hk
      split_ifs
      · exact .refl o
      · exact ⟨.refl _, by rw [hk]; exact .some (k.keeps_change t sub)⟩

theorem OutPort.keeps_marker (t : List TableEntry) (stream : StreamId) (f : FrameInfo) (role : Role) (o : OutPort) :
    o.Keeps (o.marker t stream f role).1 := by
  unfold OutPort.marker
  split
  · exact .refl o
  · rename_i k hk
    split_ifs
    · have hput := o.keeps_putSink role k
        { k.openFrame (o.limit role k) f with
          source := k.sourceAfterMarker t
          mismatch := k.mismatch || (!k.mismatch && sizeMismatch o.cfg role k f) } hk (Sink.keeps_of_same rfl rfl rfl)
      cases role with
      | main => exact hput.same rfl rfl
      | overlay => exact hput
    · exact .refl o

theorem OutPort.keeps_offerLine (stream : StreamId) (frame : Half) (line width : Nat) (fmt : RingFormat) (role : Role)
    (o : OutPort) : o.Keeps (o.offerLine stream frame line width fmt role).1 := by
  unfold OutPort.offerLine
  split
  · exact .refl o
  · rename_i k hk
    split_ifs
    · exact o.keeps_putSink role k _ hk (k.keeps_offer _ frame line width fmt)
    · exact .refl o

theorem OutPort.keeps_takeOver (t : List TableEntry) (role : Role) (o : OutPort) : o.Keeps (o.takeOver t role).1 := by
  unfold OutPort.takeOver
  split
  · exact .refl o
  · split
    · exact .refl o
    · dsimp only
      refine OutPort.Keeps.trans (o.keeps_subscribe t false role _) (OutPort.keeps_mapSink role _ (fun k => ?_) _)
      cases role <;> exact Sink.keeps_of_same rfl rfl rfl

theorem OutPort.keeps_purge (o : OutPort) : o.Keeps o.purge :=
  have hk : ∀ (k : Sink) (b : Bool), k.Keeps (k.purge.judgeSilence b) :=
    fun k _ => k.keeps_purge.trans (Sink.keeps_judgeSilence _ _)
  ⟨hk _ _, Sink.keeps_rel_map _ (fun k => hk k _) _⟩

theorem OutPort.keeps_consult (o : OutPort) : o.Keeps o.consult.1 :=
  have h := o.consult_frame
  OutPort.keeps_of_same h.1 h.2.1

/-- An output frame start takes over shadows and purges the records (R98, R105). -/
theorem OutPort.keeps_frameStart (t : List TableEntry) (o : OutPort) : o.Keeps (o.frameStart t).1 := by
  have htake := (o.keeps_takeOver t .main).trans (OutPort.keeps_takeOver t .overlay _)
  unfold OutPort.frameStart; dsimp only
  refine OutPort.Keeps.trans ?_ (OutPort.keeps_consult _)
  exact OutPort.Keeps.same ((htake.same rfl rfl).trans (OutPort.keeps_purge
    { ((o.takeOver t .main).1.takeOver t .overlay).1 with pres.blank := _ })) rfl rfl

theorem OutPort.keeps_judgeAdded (added : Nat) (o : OutPort) : o.Keeps (o.judgeAdded added).1 := by
  have hretake : o.Keeps { o with main := o.main.retake } := ⟨o.main.keeps_retake, Sink.keeps_rel_refl _⟩
  unfold OutPort.judgeAdded; dsimp only
  split_ifs
  · split <;> exact hretake.same rfl rfl
  · exact hretake.same rfl rfl

theorem OutPort.keeps_addedLineEnd (o : OutPort) : o.Keeps o.addedLineEnd.1 := by
  unfold OutPort.addedLineEnd
  split_ifs
  · unfold OutPort.afterAdded
    split
    · split_ifs <;> exact OutPort.keeps_of_same rfl rfl
    · split_ifs
      · exact OutPort.keeps_of_same rfl rfl
      · exact OutPort.keeps_of_same rfl rfl
      · exact OutPort.Keeps.trans (b := o.passLine) (OutPort.keeps_of_same rfl rfl) (OutPort.keeps_judgeAdded _ _)
  · exact .refl o

theorem OutPort.keeps_holdGiveUp (o : OutPort) : o.Keeps o.holdGiveUp.1 := by
  unfold OutPort.holdGiveUp
  split_ifs
  · exact OutPort.keeps_of_same rfl rfl
  · exact .refl o

theorem OutPort.keeps_stretchEnd (o : OutPort) : o.Keeps o.stretchEnd.1 := by
  unfold OutPort.stretchEnd
  split_ifs
  · exact OutPort.keeps_of_same rfl rfl
  · exact .refl o

theorem OutPort.keeps_holdoverEnd (o : OutPort) : o.Keeps o.holdoverEnd.1 := by
  unfold OutPort.holdoverEnd
  split_ifs
  · exact OutPort.keeps_of_same rfl rfl
  · exact .refl o

theorem OutPort.keeps_silentLoss (role : Role) (o : OutPort) : o.Keeps (o.silentLoss role).1 := by
  unfold OutPort.silentLoss
  split
  · exact .refl o
  · split_ifs
    · exact o.keeps_loseSource role
    · exact .refl o

theorem OutPort.keeps_settle (o : OutPort) : o.Keeps o.settle.1 :=
  (o.keeps_silentLoss .main).trans <| (OutPort.keeps_silentLoss .overlay _).trans <|
    (OutPort.keeps_holdoverEnd _).trans <| (OutPort.keeps_holdGiveUp _).trans (OutPort.keeps_stretchEnd _)

theorem OutPort.keeps_dueFirst (f : OutPort → OutPort × Half) (hf : ∀ o : OutPort, o.Keeps (f o).1) (o : OutPort) :
    o.Keeps (o.dueFirst f).1 :=
  o.keeps_settle.trans (hf _)

theorem OutPort.keeps_readMain (y : Nat) (o : OutPort) : o.main.Keeps (o.readMain y).1 := by
  unfold OutPort.readMain
  split
  · exact .refl _
  · split_ifs
    · exact o.main.keeps_read _ y
    · exact .refl _

theorem OutPort.keeps_readOverlay (y : Nat) (o : OutPort) : Option.Rel Sink.Keeps o.overlay (o.readOverlay y).1 := by
  unfold OutPort.readOverlay
  split
  · rename_i hk; rw [hk]; exact .none
  · rename_i k hk
    rw [hk]
    split
    · exact .some (.refl k)
    · split_ifs
      · exact .some (k.keeps_read _ _)
      · exact .some (.refl k)

theorem OutPort.keeps_activeLine (o : OutPort) : o.Keeps o.activeLine := by
  unfold OutPort.activeLine
  by_cases hready : o.lineReady = true
  · rw [if_pos hready]
    split_ifs
    · exact OutPort.keeps_of_same rfl rfl
    all_goals exact ⟨o.keeps_readMain _, o.keeps_readOverlay _⟩
  · rw [if_neg hready]; exact .refl o

theorem OutPort.keeps_cut (o : OutPort) : o.Keeps o.cut := by
  rw [o.cut_rest]; exact OutPort.keeps_of_same rfl rfl

theorem OutPort.keeps_stop (o : OutPort) : o.Keeps o.stop := by
  unfold OutPort.stop
  split_ifs
  · exact (o.keeps_mapSinks _ Sink.keeps_unpresent).same rfl rfl
  · exact .refl o

theorem OutPort.keeps_standby (o : OutPort) : o.Keeps o.standby :=
  (o.keeps_mapSinks _ Sink.keeps_standby).same rfl rfl

theorem OutPort.keeps_wake (t : List TableEntry) (o : OutPort) : o.Keeps (o.wake t).1 := by
  unfold OutPort.wake; dsimp only
  split_ifs
  · refine OutPort.Keeps.trans ?_ (OutPort.keeps_frameStart t _)
    exact OutPort.keeps_of_same rfl rfl
  · exact OutPort.keeps_of_same rfl rfl

/-- A warm restart empties the records and keeps their allotments (R112). -/
theorem OutPort.keeps_restart (o : OutPort) : o.Keeps o.restart.1 := by
  have hfresh : ∀ o' : OutPort, o'.main = Sink.fresh o.main.cfg → o'.overlay = o.overlay.map (fun k => Sink.fresh k.cfg) →
      o.Keeps o' := fun o' hm hv => ⟨hm ▸ o.main.keeps_fresh, hv ▸ Sink.keeps_rel_map _ Sink.keeps_fresh _⟩
  unfold OutPort.restart; dsimp only
  split_ifs
  · refine OutPort.Keeps.trans ?_ (OutPort.keeps_frameStart [] _)
    exact hfresh _ rfl rfl
  · exact hfresh _ rfl rfl

theorem OutPort.keeps_engageFull (t : List TableEntry) (now : Word) (o : OutPort) : o.Keeps (o.engageFull t now) := by
  have hclear : o.Keeps { o with main := { o.main with shadow := none } } :=
    ⟨Sink.keeps_of_same rfl rfl rfl, Sink.keeps_rel_refl _⟩
  have hsub := hclear.trans (OutPort.keeps_subscribe t true .main (some o.cfg.camStream) _)
  have hswitch : ∀ o1 : OutPort, o.Keeps o1 → ∀ v b, o.Keeps (o1.switching now v b) := fun _ h _ _ => h.same rfl rfl
  unfold OutPort.engageFull; dsimp only
  split_ifs
  · refine hswitch _ ?_ _ _
    refine OutPort.Keeps.trans ?_ (OutPort.keeps_cut _)
    exact hsub.same rfl rfl
  · refine hswitch _ ?_ _ _
    exact hsub.same rfl rfl

theorem OutPort.keeps_engageInset (t : List TableEntry) (now : Word) (o : OutPort) : o.Keeps (o.engageInset t now) := by
  unfold OutPort.engageInset
  split
  · exact .refl o
  · have hclear := o.keeps_mapSink .overlay (fun k => { k with shadow := none }) (fun k => Sink.keeps_of_same rfl rfl rfl)
    refine (hclear.trans (OutPort.keeps_subscribe t true .overlay (some o.cfg.camStream) _)).trans ?_
    exact (OutPort.keeps_mapSink .overlay (fun k => { k with x := o.cfg.camX, y := o.cfg.camY })
      (fun k => Sink.keeps_of_same rfl rfl rfl) _).same rfl rfl

theorem OutPort.keeps_engage (t : List TableEntry) (now : Word) (o : OutPort) : o.Keeps (o.engage t now).1 := by
  unfold OutPort.engage
  split_ifs
  · refine OutPort.keeps_dueFirst _ (fun o => ?_) o
    unfold OutPort.engageMode
    split
    · exact .refl o
    · exact o.keeps_engageFull t now
    · exact o.keeps_engageInset t now
  · exact .refl o

theorem OutPort.keeps_releaseMode (o : OutPort) : o.Keeps o.releaseMode.1 := by
  have hwrite : ∀ role v, o.Keeps (o.mapSink role (Sink.writeShadow role v)).toIdle := fun role v =>
    (o.keeps_mapSink role _ (Sink.keeps_writeShadow role v)).same rfl rfl
  unfold OutPort.releaseMode
  split
  · split_ifs
    · exact .refl o
    · exact hwrite .main _
  · split_ifs
    · exact .refl o
    · exact hwrite .overlay _
  · exact OutPort.keeps_of_same rfl rfl
  · exact OutPort.keeps_of_same rfl rfl
  · exact .refl o

theorem OutPort.keeps_release (o : OutPort) : o.Keeps o.release.1 := by
  unfold OutPort.release
  split_ifs
  · exact o.keeps_dueFirst _ OutPort.keeps_releaseMode
  · exact .refl o

theorem OutPort.keeps_deadlineExpiry (now : Word) (o : OutPort) : o.Keeps (o.deadlineExpiry now).1 := by
  unfold OutPort.deadlineExpiry
  split_ifs
  · exact OutPort.keeps_of_same rfl rfl
  · exact .refl o

theorem OutPort.keeps_request (m : CameraMode) (role : Role) (v : Placed) (o : OutPort) : o.Keeps (o.request m role v) := by
  unfold OutPort.request
  split_ifs
  · exact OutPort.keeps_of_same rfl rfl
  · exact o.keeps_mapSink role _ (Sink.keeps_writeShadow role v)

end Sys2Proof.Machine
end

section
/-! PROOFS. The capacities through every operation (R12, R17, R42, R43, R44, R47, R63, R68, R89, R95, R168, R170, R171): one
lemma for each operation of the model, said over the state with an outbox given beside it, so that the steps of a warm
restart, which empty the CONTROL queue before the outbox, are covered too. -/

namespace Sys2Proof.Machine

/-! ### The parts of the invariant -/

/-- The picture queues and the credit within their limits (R42, R43, R47). -/
structure Scheduler.Within (cap : Nat) (q : Scheduler) : Prop where
  safeQ : q.safeQ.length ≤ Config.safeCap
  normalQ : q.normalQ.length ≤ Config.normalCap
  credit : q.credit ≤ cap

/-- The transit fill, the alignment count and the error counts within their limits (R4, R12, R17). -/
structure RingPort.Within (l : RingPort) : Prop where
  fill : fillOf l.transit ≤ Config.transitWords
  valid : l.valid ≤ Config.alignUnits
  hdrErr : l.hdrErr ≤ Config.countMax
  payErr : l.payErr ≤ Config.countMax
  ovf : l.ovf ≤ Config.countMax

/-- A station table of one entry a station, in order, with none for the station itself (R68). -/
structure TableWithin (own : StationNo) (t : List TableEntry) : Prop where
  sorted : t.Pairwise (fun a b => a.station.toNat < b.station.toNat)
  foreign : ∀ e ∈ t, e.station ≠ own

/-- An outbox within its limit, no tag twice, and the messages of the CONTROL queue its unsent ones (R44, R168). -/
structure MailWithin (box : List OutMessage) (msgs : List MessageEntry) : Prop where
  length : box.length ≤ Config.outboxCap
  tags : (box.map OutMessage.tag).Nodup
  unsent : msgs.map MessageEntry.tag = (box.filter (fun m => m.sent.isNone)).map OutMessage.tag

/-- Sink records with sound slots and allotments apart (R95). -/
structure SinksWithin (l : List Sink) : Prop where
  stored : ∀ k ∈ l, k.Stored
  apart : (l.map Sink.cfg).Pairwise (fun a b => a.apart b = true)

/-- The capacities of the state, with box in the place of its outbox. -/
structure State.Within (s : State) (box : List OutMessage) : Prop where
  sched : s.sched.Within s.cap
  store : s.store.length ≤ Config.sendSlots
  link : s.link.Within
  missed : s.view.missed ≤ 3
  table : TableWithin s.node.station s.view.table
  results : s.svc.results.length ≤ Config.resultCap
  inbox : s.svc.inbox.length ≤ Config.inboxCap
  mail : MailWithin box s.sched.msgs
  forwarded : ∀ r, s.link.stage = .body r → r.course = .forward → r.hdr.source ≠ s.node.station
  held : s.node.held = true → s.view.table = [] ∧ s.link.stage = .outside
  sinks : SinksWithin s.sinks

/-- The capacities of the state with its own outbox. -/
abbrev State.Sound (s : State) : Prop := s.Within s.svc.outbox

/-! ### The parts that follow from the others -/

/-- Fifteen other stations: a table of one entry a station, none of them its own, holds no more (R68). -/
theorem TableWithin.length_le {own : StationNo} {t : List TableEntry} (h : TableWithin own t) : t.length ≤ 15 := by
  have hnodup : (t.map (fun e => e.station.toNat)).Nodup :=
    List.pairwise_map.mpr (h.sorted.imp (fun hlt => Nat.ne_of_lt hlt))
  have hsub : t.map (fun e => e.station.toNat) ⊆ (List.range 16).erase own.toNat := by
    intro n hn
    obtain ⟨e, he, rfl⟩ := List.mem_map.mp hn
    exact (List.mem_erase_of_ne (fun heq => h.foreign e he (BitVec.eq_of_toNat_eq heq))).mpr
      (List.mem_range.mpr e.station.isLt)
  have hlen := (List.subperm_of_subset hnodup hsub).length_le
  rwa [List.length_map, List.length_erase_of_mem (List.mem_range.mpr own.isLt)] at hlen

/-- The slots of all records are slots of the Line Store, and none is held twice (R95). -/
theorem SinksWithin.slots_le {l : List Sink} (h : SinksWithin l) :
    (l.map (fun k => k.usedSlots.length)).sum ≤ Config.lineSlots := by
  have hdisjoint : l.Pairwise (Function.onFun List.Disjoint Sink.usedSlots) := by
    refine (List.pairwise_map.mp h.apart).imp_of_mem (fun {a b} ha hb hab n hna hnb => ?_)
    have hia := (h.stored a ha).inside n hna
    have hib := (h.stored b hb).inside n hnb
    simp only [SinkCfg.apart, Bool.or_eq_true, decide_eq_true_eq] at hab
    omega
  have hnodup : (l.flatMap Sink.usedSlots).Nodup :=
    List.nodup_flatMap.mpr ⟨fun k hk => (h.stored k hk).once, hdisjoint⟩
  have hsub : l.flatMap Sink.usedSlots ⊆ List.range Config.lineSlots := by
    intro n hn
    obtain ⟨k, hk, hnk⟩ := List.mem_flatMap.mp hn
    have hin := (h.stored k hk).inside n hnk
    have hlast := (h.stored k hk).allotted
    exact List.mem_range.mpr (by omega)
  have hlen := (List.subperm_of_subset hnodup hsub).length_le
  rwa [List.length_flatMap, List.length_range] at hlen

/-- The CONTROL queue: a census and no more messages than the outbox holds (R44). -/
theorem MailWithin.control_le {box : List OutMessage} {msgs : List MessageEntry} (h : MailWithin box msgs)
    (census : Option (List Word)) : census.toList.length + msgs.length ≤ 5 := by
  have hmsgs : msgs.length ≤ box.length := by
    have hlen := congrArg List.length h.unsent
    rw [List.length_map, List.length_map] at hlen
    exact hlen ▸ List.length_filter_le _ _
  have hbox : box.length ≤ 4 := h.length
  have hcensus : census.toList.length ≤ 1 := by cases census <;> simp
  omega

/-- The capacities of the manual are those of the parts. -/
theorem State.bounded_iff (s : State) : s.Bounded ↔ s.Sound := by
  constructor
  · intro h
    exact ⟨⟨h.safeQ, h.normalQ, h.credit⟩, h.store, ⟨h.fill, h.valid, h.hdrErr, h.payErr, h.ovf⟩, h.missed,
      ⟨h.entries, h.foreign⟩, h.results, h.inbox, ⟨h.outbox, h.tags, h.unsent⟩, h.forwarded, h.held,
      ⟨h.stored, h.apart⟩⟩
  · intro h
    exact ⟨h.sched.safeQ, h.sched.normalQ, h.mail.control_le _, h.sched.credit, h.store, h.link.fill, h.link.valid,
      h.link.hdrErr, h.link.payErr, h.link.ovf, h.missed, h.table.length_le, h.mail.length, h.results, h.inbox,
      h.sinks.slots_le, h.mail.tags, h.mail.unsent, h.table.sorted, h.table.foreign, h.forwarded, h.held, h.sinks.stored,
      h.sinks.apart⟩

/-! ### What the parts allow -/

/-- Records that take the places of sound ones are sound. -/
theorem SinksWithin.keeps {l l' : List Sink} (h : SinksWithin l) (hk : List.Forall₂ Sink.Keeps l l') : SinksWithin l' := by
  have hcfg : l'.map Sink.cfg = l.map Sink.cfg := by
    clear h
    induction hk with
    | nil => rfl
    | cons hab _ ih => rw [List.map_cons, List.map_cons, hab.cfg, ih]
  refine ⟨?_, hcfg ▸ h.apart⟩
  have hstored := h.stored
  clear hcfg h
  induction hk with
  | nil => exact fun k hk => absurd hk List.not_mem_nil
  | cons hab _ ih =>
    intro k hk
    rcases List.mem_cons.mp hk with rfl | hk
    · exact hab.stored (hstored _ List.mem_cons_self)
    · exact ih (fun k hk => hstored k (List.mem_cons_of_mem _ hk)) k hk

theorem holdInc_le {n : Nat} (h : n ≤ Config.countMax) : holdInc n ≤ Config.countMax := by
  unfold holdInc; split_ifs <;> omega

/-- A change of the newest entry that adds at most n words adds at most n to the fill. -/
theorem fillOf_mapNewest_le (f : TransitEntry → TransitEntry) (n : Nat) (hf : ∀ e, (f e).held ≤ e.held + n)
    (t : List TransitEntry) : fillOf (mapNewest f t) ≤ fillOf t + n := by
  induction t with
  | nil => exact Nat.zero_le _
  | cons e es ih =>
    cases es with
    | nil => simpa [mapNewest, fillOf] using hf e
    | cons e' es =>
      simp only [mapNewest, fillOf, List.map_cons, List.sum_cons] at ih ⊢
      omega

theorem TransitEntry.release_held (w : Word) (e : TransitEntry) : (e.release w).held = e.held := by
  unfold TransitEntry.release
  split_ifs with h
  · simp [TransitEntry.held, h]
  · rfl

theorem TransitEntry.close_held (good : Bool) (e : TransitEntry) : (e.close good).held = e.held := by
  unfold TransitEntry.close TransitEntry.releaseHeld
  split <;> rename_i h <;> simp [TransitEntry.held, h]

theorem TransitEntry.join_held (w : Word) (e : TransitEntry) : (e.join w).held = e.held + 1 := by
  simp only [TransitEntry.held, TransitEntry.join, List.length_append, List.length_singleton]
  exact Nat.add_right_comm _ _ _

theorem mem_insertEntry (e x : TableEntry) (t : List TableEntry) (h : x ∈ insertEntry e t) : x = e ∨ x ∈ t := by
  induction t with
  | nil => exact .inl (List.mem_singleton.mp h)
  | cons y ys ih =>
    unfold insertEntry at h
    split_ifs at h
    · exact List.mem_cons.mp h
    · exact (List.mem_cons.mp h).imp_right (List.mem_cons_of_mem _)
    · rcases List.mem_cons.mp h with rfl | h
      · exact .inr List.mem_cons_self
      · exact (ih h).imp_right (List.mem_cons_of_mem _)

/-- An entry put in its place leaves the table in order, one entry a station (4.5, R68). -/
theorem insertEntry_sorted (e : TableEntry) (t : List TableEntry)
    (h : t.Pairwise (fun a b => a.station.toNat < b.station.toNat)) :
    (insertEntry e t).Pairwise (fun a b => a.station.toNat < b.station.toNat) := by
  induction t with
  | nil => exact List.pairwise_singleton _ _
  | cons y ys ih =>
    obtain ⟨hy, hys⟩ := List.pairwise_cons.mp h
    unfold insertEntry
    split_ifs with hlt heq
    · refine List.pairwise_cons.mpr ⟨fun x hx => ?_, h⟩
      rcases List.mem_cons.mp hx with rfl | hx
      · exact hlt
      · exact hlt.trans (hy x hx)
    · exact List.pairwise_cons.mpr ⟨fun x hx => heq ▸ hy x hx, hys⟩
    · refine List.pairwise_cons.mpr ⟨fun x hx => ?_, ih hys⟩
      rcases mem_insertEntry e x ys hx with rfl | hx
      · have hne : x.station.toNat ≠ y.station.toNat := fun hn => heq (BitVec.eq_of_toNat_eq hn)
        omega
      · exact hy x hx

theorem TableWithin.insert {own : StationNo} {t : List TableEntry} (h : TableWithin own t) (e : TableEntry)
    (he : e.station ≠ own) : TableWithin own (insertEntry e t) := by
  refine ⟨insertEntry_sorted e t h.sorted, fun x hx => ?_⟩
  rcases mem_insertEntry e x t hx with rfl | hx
  · exact he
  · exact h.foreign x hx

theorem TableWithin.filter {own : StationNo} {t : List TableEntry} (h : TableWithin own t) (p : TableEntry → Bool) :
    TableWithin own (t.filter p) :=
  ⟨h.sorted.filter p, fun e he => h.foreign e (List.mem_filter.mp he).1⟩

theorem TableWithin.nil (own : StationNo) : TableWithin own [] := ⟨.nil, fun _ he => absurd he List.not_mem_nil⟩

/-! #### The outbox -/

/-- The message that leaves the outbox with a result was sent, so the unsent ones stay (R169). -/
theorem MailWithin.remove {box : List OutMessage} {msgs : List MessageEntry} (h : MailWithin box msgs) (m : OutMessage)
    (hm : m ∈ box) (hsent : m.sent.isSome = true) : MailWithin (box.filter (fun x => x.tag != m.tag)) msgs := by
  refine ⟨(List.length_filter_le _ _).trans h.length, h.tags.sublist (List.filter_sublist.map _), ?_⟩
  rw [List.filter_filter, h.unsent]
  congr 1
  refine List.filter_congr (fun x hx => ?_)
  by_cases hxm : x.tag = m.tag
  · have hx' : x = m := List.inj_on_of_nodup_map h.tags hx hm hxm
    simpa [hx'] using hsent
  · simp [hxm]

/-- A message of the outbox with this tag is in flight (R169). -/
theorem inFlight_some {box : List OutMessage} {tag : Byte} {m : OutMessage} (h : inFlight box tag = some m) :
    m ∈ box ∧ m.tag = tag ∧ m.sent.isSome = true := by
  have hp := List.find?_some h
  simp only [Bool.and_eq_true, beq_iff_eq] at hp
  exact ⟨List.mem_of_find?_eq_some h, hp.1, hp.2⟩

/-- The next tag is in no message of the outbox, which the search has more tries than messages to find (R168). -/
theorem nextTag_fresh (box : List OutMessage) (n : Nat) (t : Byte)
    (h : ∃ i, 1 ≤ i ∧ i ≤ n ∧ ∀ m ∈ box, m.tag ≠ t + BitVec.ofNat 8 i) :
    ∀ m ∈ box, m.tag ≠ nextTag box n t := by
  induction n generalizing t with
  | zero => obtain ⟨i, h1, h2, -⟩ := h; omega
  | succ n ih =>
    unfold nextTag
    split_ifs with hused
    · refine ih (t + 1) ?_
      obtain ⟨i, h1, h2, hfree⟩ := h
      have hi : i ≠ 1 := by
        rintro rfl
        obtain ⟨m, hm, hmt⟩ := List.any_eq_true.mp hused
        exact hfree m hm (by simpa using hmt)
      refine ⟨i - 1, by omega, by omega, fun m hm => ?_⟩
      have heq : t + 1 + BitVec.ofNat 8 (i - 1) = t + BitVec.ofNat 8 i := by
        obtain ⟨j, rfl⟩ : ∃ j, i = j + 1 := ⟨i - 1, by omega⟩
        rw [BitVec.add_assoc, Nat.add_sub_cancel, Nat.add_comm j 1, BitVec.ofNat_add]
        rfl
      exact heq ▸ hfree m hm
    · simp only [List.any_eq_true, beq_iff_eq, not_exists, not_and] at hused
      exact hused

/-- Among four tags one is free of an outbox of less than four messages (R168). -/
theorem exists_free_tag (box : List OutMessage) (t : Byte) (h : box.length < Config.outboxCap) :
    ∃ i, 1 ≤ i ∧ i ≤ Config.outboxCap ∧ ∀ m ∈ box, m.tag ≠ t + BitVec.ofNat 8 i := by
  by_contra hno
  push Not at hno
  have hnodup : ((List.range' 1 4).map (fun i => t + BitVec.ofNat 8 i)).Nodup := by
    have hinj : Function.Injective (fun x : Byte => t + x) := fun a b hab => by simpa using hab
    have hconst : ((List.range' 1 4).map (BitVec.ofNat 8)).Nodup := by decide
    simpa [List.map_map, Function.comp_def] using hconst.map hinj
  have hsub : (List.range' 1 4).map (fun i => t + BitVec.ofNat 8 i) ⊆ box.map OutMessage.tag := by
    intro x hx
    obtain ⟨i, hi, rfl⟩ := List.mem_map.mp hx
    obtain ⟨m, hm, hmt⟩ := hno i (List.mem_range'_1.mp hi).1 (by have := (List.mem_range'_1.mp hi).2; simp; omega)
    exact hmt ▸ List.mem_map_of_mem hm
  have hlen := (List.subperm_of_subset hnodup hsub).length_le
  simp only [List.length_map, List.length_range'] at hlen
  simp only [Config.outboxCap] at h
  omega

/-- A new unsent message joins the outbox and the CONTROL queue (R168). -/
theorem MailWithin.queue {box : List OutMessage} {msgs : List MessageEntry} (h : MailWithin box msgs) (m : OutMessage)
    (e : MessageEntry) (hroom : box.length < Config.outboxCap) (hfree : ∀ x ∈ box, x.tag ≠ m.tag) (hm : m.sent = none)
    (he : e.tag = m.tag) : MailWithin (box ++ [m]) (msgs ++ [e]) := by
  refine ⟨by simpa using hroom, ?_, ?_⟩
  · rw [List.map_append, List.map_singleton]
    refine List.nodup_append.mpr ⟨h.tags, List.nodup_singleton _, fun a ha b hb => ?_⟩
    obtain ⟨x, hx, rfl⟩ := List.mem_map.mp ha
    rw [List.mem_singleton.mp hb]
    exact hfree x hx
  · simp [h.unsent, hm, he]

/-- An outbox message with the send time its parcel's start gives the unsent message of this tag (R169). -/
def OutMessage.stamp (tag : Byte) (now : Word) (m : OutMessage) : OutMessage :=
  if m.tag = tag ∧ m.sent = none then { m with sent := some now } else m

theorem State.markSent_outbox (s : State) (tag : Byte) :
    (s.markSent tag).svc.outbox = s.svc.outbox.map (OutMessage.stamp tag s.tick) := rfl

theorem OutMessage.stamp_tag (tag : Byte) (now : Word) (m : OutMessage) : (m.stamp tag now).tag = m.tag := by
  unfold OutMessage.stamp; split_ifs <;> rfl

/-- The tags of the messages still unsent after a start: those before it, less the tag that started (R169). -/
theorem unsent_stamp (tag : Byte) (now : Word) (box : List OutMessage) :
    ((box.map (OutMessage.stamp tag now)).filter (fun m => m.sent.isNone)).map OutMessage.tag =
      ((box.filter (fun m => m.sent.isNone)).map OutMessage.tag).filter (· != tag) := by
  induction box with
  | nil => rfl
  | cons m ms ih =>
    rw [List.map_cons]
    by_cases hs : m.sent = none
    · by_cases ht : m.tag = tag
      · simpa [OutMessage.stamp, hs, ht] using ih
      · simpa [OutMessage.stamp, hs, ht] using ih
    · simpa [OutMessage.stamp, hs] using ih

/-- The head of the CONTROL queue's messages, once sent, is no longer among the unsent ones (R169). -/
theorem MailWithin.send {box : List OutMessage} {msgs : List MessageEntry} {e : MessageEntry}
    (h : MailWithin box (e :: msgs)) (now : Word) : MailWithin (box.map (OutMessage.stamp e.tag now)) msgs := by
  have htags : (box.map (OutMessage.stamp e.tag now)).map OutMessage.tag = box.map OutMessage.tag := by
    rw [List.map_map]; exact List.map_congr_left (fun m _ => m.stamp_tag e.tag now)
  refine ⟨by simpa using h.length, by rw [htags]; exact h.tags, ?_⟩
  have hnodup : ((e :: msgs).map MessageEntry.tag).Nodup := by
    rw [h.unsent]; exact h.tags.sublist (List.filter_sublist.map _)
  have hne : ∀ x ∈ msgs.map MessageEntry.tag, (x != e.tag) = true := fun x hx => by
    simpa using ne_of_mem_of_not_mem hx (List.nodup_cons.mp hnodup).1
  rw [unsent_stamp, ← h.unsent, List.map_cons, List.filter_cons_of_neg (by simp), List.filter_eq_self.mpr hne]

end Sys2Proof.Machine
end

section
/-! PROOFS. The capacities through the operations on ports, queues and streams, the Station View, the node's states, Camera
Priority and the inbox (R30, R42 to R55, R59 to R85, R89, R151 to R160, R168 to R171). -/

namespace Sys2Proof.Machine

/-! ### Ports, queues and streams -/

section Kept

variable {s : State} {box : List OutMessage} (h : s.Within box)
include h

theorem State.Within.raise (m : Half) : (s.raise m).Within box := { h with }

theorem State.Within.setPort (p : PortId) (q : Port) (hq : List.Forall₂ Sink.Keeps (s.port p).sinks q.sinks) :
    (s.setPort p q).Within box := by
  have hrefl : ∀ l : List Sink, List.Forall₂ Sink.Keeps l l := fun l => List.forall₂_same.mpr (fun k _ => .refl k)
  cases p with
  | a => exact { h with sinks := h.sinks.keeps (List.rel_append hq (hrefl _)) }
  | b => exact { h with sinks := h.sinks.keeps (List.rel_append (hrefl _) hq) }

/-- An operation on an output port that keeps its records. -/
theorem State.Within.onOut (p : PortId) (f : OutPort → OutPort × Half) (hf : ∀ o : OutPort, o.Keeps (f o).1) :
    (s.onOut p f).Within box := by
  unfold State.onOut
  split
  · rename_i o ho
    refine (h.setPort p _ ?_).raise _
    obtain ⟨hm, hv⟩ := hf o
    rw [ho]
    refine .cons hm ?_
    generalize o.overlay = x at hv ⊢
    generalize (f o).1.overlay = y at hv ⊢
    cases hv with
    | none => exact .nil
    | some hk => exact .cons hk .nil
  · exact h
  · exact h

theorem State.Within.onOuts (f : OutPort → OutPort × Half) (hf : ∀ o : OutPort, o.Keeps (f o).1) :
    (s.onOuts f).Within box :=
  (h.onOut .a f hf).onOut .b f hf

/-- An input port put in the place of one. -/
theorem State.Within.setInput (p : PortId) (q q' : InPort) (hq : s.port p = .input q) :
    (s.setPort p (.input q')).Within box :=
  h.setPort p _ (by rw [hq]; exact .nil)

end Kept

/-- What one step of a fold keeps, the fold keeps. -/
theorem State.Within.foldl {α : Type} {s : State} {box : List OutMessage} (h : s.Within box) (f : State → α → State)
    (hf : ∀ (s : State) (a : α), s.Within box → (f s a).Within box) (l : List α) : (l.foldl f s).Within box := by
  induction l generalizing s with
  | nil => exact h
  | cons a l ih => exact ih (hf s a h)

/-- An entry of a LINE leaves the send store as it is. -/
theorem State.append_line_store {s : State} (e : PicEntry) (he : e.isMark = false) : (s.append e).1.store = s.store := by
  simp only [State.append, he, Bool.false_eq_true, if_false]
  split_ifs <;> rfl

/-- A line is placed only while a slot of the send store is free (R89). -/
theorem State.takeSlot_room {s : State} (c : ParcelClass) (n : Nat) (hn : s.takeSlot c = some n) :
    s.store.length < Config.sendSlots := by
  have hneed : 1 ≤ s.slotsNeeded c := by unfold State.slotsNeeded; split_ifs <;> omega
  unfold State.takeSlot at hn
  split_ifs at hn with hfree
  unfold freeSlotCount at hfree
  omega

section Kept

variable {s : State} {box : List OutMessage} (h : s.Within box)
include h

theorem State.Within.purge (kill : PicEntry → Bool) : (s.purge kill).Within box := by
  rw [s.purge_eq]
  exact { h with
    sched := ⟨(List.length_filter_le _ _).trans h.sched.safeQ, (List.length_filter_le _ _).trans h.sched.normalQ,
      h.sched.credit⟩
    store := (List.length_filter_le _ _).trans h.store }

theorem State.Within.settlePort (p : PortId) : (s.settlePort p).Within box := by
  unfold State.settlePort
  split
  · rename_i q hq
    exact (h.setInput p q _ hq).foldl _ (fun _ i hs => hs.purge _) _
  · exact h
  · exact h

theorem State.Within.settleStreams : s.settleStreams.Within box := (h.settlePort .a).settlePort .b

/-- An entry joins its queue where there is room (R42, R43). -/
theorem State.Within.append (e : PicEntry) : (s.append e).1.Within box := by
  have hstale : (if e.isMark then s.purgeStale e.index else s).Within box := by
    split_ifs
    · exact h.purge _
    · exact h
  unfold State.append; dsimp only
  generalize (if e.isMark then s.purgeStale e.index else s) = s1 at hstale ⊢
  split_ifs with _ _ hroom hroom
  · exact { hstale with sched := ⟨by simpa using hroom, hstale.sched.normalQ, hstale.sched.credit⟩ }
  · exact hstale
  · exact { hstale with sched := ⟨hstale.sched.safeQ, by simpa using hroom, hstale.sched.credit⟩ }
  · exact hstale
  · exact h

theorem State.Within.setStream (p : PortId) (i : Nat) (k : Stream) : (s.setStream p i k).Within box := by
  unfold State.setStream
  split
  · rename_i q hq; exact h.setInput p q _ hq
  · exact h
  · exact h

theorem State.Within.dropLine (p : PortId) (i : Nat) (k : Stream) : (s.dropLine p i k).Within box := (h.setStream p i _).raise _

theorem State.Within.dropMark (p : PortId) (i : Nat) (k : Stream) : (s.dropMark p i k).Within box := (h.setStream p i _).raise _

theorem State.Within.placeLine (p : PortId) (i y : Nat) (frame : Half) (k : Stream) :
    (s.placeLine p i y frame k).Within box := by
  unfold State.placeLine; dsimp only
  split_ifs
  · exact h.setStream p i _
  · split
    · exact h.dropLine p i _
    · rename_i n hn
      have happ := h.append (lineEntry p i k frame (y - k.win.y0) k.asm.length n)
      split_ifs
      · refine State.Within.setStream ?_ p i _
        refine { happ with store := ?_ }
        rw [List.length_append, State.append_line_store _ rfl]
        exact State.takeSlot_room _ n hn
      · exact h.dropLine p i _

theorem State.Within.cutPixel (p : PortId) (px : Pixel) (i : Nat) : (s.cutPixel p px i).Within box := by
  unfold State.cutPixel
  split
  · split
    · dsimp only; split_ifs
      · exact h.placeLine p i _ _ _
      · exact h.setStream p i _
      · exact h
    · exact h
  · exact h
  · exact h

theorem State.Within.countPixel (p : PortId) : (s.countPixel p).Within box := by
  unfold State.countPixel
  split
  · rename_i q hq; exact h.setInput p q _ hq
  · exact h
  · exact h

theorem State.Within.activePixel (p : PortId) (r g b : Component) : (s.activePixel p r g b).Within box := by
  unfold State.activePixel
  split
  · split_ifs
    · exact (h.foldl _ (fun _ i hs => hs.cutPixel p _ i) _).countPixel p
    · exact h
  · exact h
  · exact h

theorem State.Within.endWindowLine (p : PortId) (i : Nat) : (s.endWindowLine p i).Within box := by
  unfold State.endWindowLine
  split
  · split
    · split_ifs
      · exact h
      · exact h.placeLine p i _ _ _
    · exact h
  · exact h
  · exact h

theorem State.Within.measureLine (p : PortId) : (s.measureLine p).Within box := by
  unfold State.measureLine
  split
  · rename_i q hq; exact h.setInput p q _ hq
  · exact h
  · exact h

theorem State.Within.inputLineEnd (p : PortId) : (s.inputLineEnd p).Within box := by
  unfold State.inputLineEnd
  split
  · split_ifs
    · exact (h.foldl _ (fun _ i hs => hs.endWindowLine p i) _).measureLine p
    · exact h
  · exact h
  · exact h

theorem State.Within.openFrame (p : PortId) (i : Nat) (frame : Half) (size : Size) (k : Stream) :
    (s.openFrame p i frame size k).Within box := by
  unfold State.openFrame; dsimp only
  split_ifs
  · exact h.setStream p i _
  · exact (h.append _).setStream p i _
  · exact (h.append _).dropMark p i _

theorem State.Within.frameStream (p : PortId) (i : Nat) : (s.frameStream p i).Within box := by
  unfold State.frameStream
  split
  · split
    · split
      · split_ifs
        · exact h.openFrame p i _ _ _
        · exact h.setStream p i _
      · exact h.setStream p i _
    · exact h
  · exact h
  · exact h

theorem State.Within.newFrame (p : PortId) : (s.newFrame p).Within box := by
  unfold State.newFrame
  split
  · rename_i q hq; exact h.setInput p q _ hq
  · exact h
  · exact h

theorem State.Within.inputFrameStart (p : PortId) : (s.inputFrameStart p).Within box := by
  unfold State.inputFrameStart
  split
  · split_ifs
    · exact (((h.inputLineEnd p).newFrame p).settlePort p).foldl _ (fun _ i hs => hs.frameStream p i) _
    · exact h
  · exact h
  · exact h

theorem State.Within.silenceTimeout (p : PortId) : (s.silenceTimeout p).Within box := by
  unfold State.silenceTimeout
  split
  · rename_i q hq
    split_ifs
    · exact (h.setInput p q _ hq).settlePort p
    · exact h
  · exact h
  · exact h

end Kept

/-! ### The Station View and the node -/

/-- The copies of a parcel dropped, its header and course stay (R30). -/
theorem Stage.dropCopies_body {g : Stage} {r : Reception} (hg : g.dropCopies = .body r) :
    ∃ r', g = .body r' ∧ r.hdr = r'.hdr ∧ r.course = r'.course := by
  cases g with
  | outside => cases hg
  | header ws => cases hg
  | body r' => cases hg; exact ⟨r', rfl, rfl, rfl⟩

section Kept

variable {s : State} {box : List OutMessage} (h : s.Within box)
include h

theorem State.Within.recomputeDemand : s.recomputeDemand.Within box := by
  unfold State.recomputeDemand
  split_ifs
  · exact h
  · exact State.Within.settleStreams { h with }

theorem State.Within.tableReport (st : StationNo) : (s.tableReport st).Within box :=
  (h.onOuts _ (OutPort.keeps_dueFirst _ (OutPort.keeps_tableReport _ st))).recomputeDemand

/-- A census copy is another station's (R20, R68), and a part held in reset makes none. -/
theorem State.Within.censusCopy (st : StationNo) (hop : BitVec 4) (payload : List Word) (hrun : s.running)
    (hst : st ≠ s.node.station) : (s.censusCopy st hop payload).Within box := by
  unfold State.censusCopy
  split
  · exact h
  · refine State.Within.tableReport ?_ st
    refine { h with table := h.table.insert _ hst, held := fun hheld => ?_ }
    exact absurd (hrun.symm.trans hheld) (by decide)

theorem State.Within.removeEntry (st : StationNo) : (s.removeEntry st).Within box := by
  refine State.Within.tableReport ?_ st
  refine { h with table := h.table.filter _, held := fun hheld => ?_ }
  obtain ⟨ht, hs⟩ := h.held hheld
  exact ⟨by rw [ht]; rfl, hs⟩

theorem State.Within.entryExpiry (st : StationNo) : (s.entryExpiry st).Within box := by
  unfold State.entryExpiry
  split
  · exact h
  · split_ifs
    · exact h.removeEntry st
    · exact h

theorem State.Within.censusExpiry : s.censusExpiry.Within box := by
  unfold State.censusExpiry
  split_ifs
  · exact { h with sched := { h.sched with } }
  · exact h

theorem State.Within.censusReturn : s.censusReturn.Within box := by
  refine State.Within.raise ?_ _
  exact { h with missed := Nat.zero_le _ }

theorem State.Within.enterState (st : NodeState) : (s.enterState st).Within box := by
  refine State.Within.settleStreams (State.Within.purge ?_ _)
  exact { h with }

theorem State.Within.enterMute : s.enterMute.Within box := by
  unfold State.enterMute
  split_ifs
  · exact h.enterState .mute
  · exact h

theorem State.Within.enterStandby : s.enterStandby.Within box := by
  have hent := h.enterState .standby
  unfold State.enterStandby; dsimp only
  split_ifs
  · refine State.Within.onOuts ?_ _ (OutPort.keeps_dueFirst _ (fun o => o.keeps_standby))
    refine { hent with link := { hent.link with }, forwarded := fun r hr hc => ?_, held := fun hheld => ?_ }
    · obtain ⟨r', hg, hh, hcr⟩ := Stage.dropCopies_body hr
      rw [hh]; exact hent.forwarded r' hg (hcr ▸ hc)
    · obtain ⟨ht, hs⟩ := hent.held hheld
      exact ⟨ht, by rw [hs]; rfl⟩
  · exact h

theorem State.Within.takeEntry : s.takeEntry.Within box := h.enterMute.enterStandby

theorem State.Within.askEntry (e : Entry) : (s.askEntry e).Within box := by
  refine State.Within.takeEntry ?_
  exact { h with }

theorem State.Within.conflictFound : s.conflictFound.Within box := by
  unfold State.conflictFound
  split
  · exact (h.raise _).askEntry .mute
  · exact h.raise _
  · refine State.Within.raise ?_ _
    exact { h with }
  · exact h
  · exact h

theorem State.Within.conflict : s.conflict.Within box := h.takeEntry.conflictFound

theorem State.Within.strippedCensus (payload : List Word) : (s.strippedCensus payload).Within box := by
  unfold State.strippedCensus; dsimp only
  split_ifs
  · exact h
  · exact h.censusReturn
  · exact h
  · exact h.conflict

theorem State.Within.strippedCensusFallback (payload : List Word) : (s.strippedCensusFallback payload).Within box := by
  unfold State.strippedCensusFallback
  split_ifs
  · exact h.censusReturn
  · exact h

end Kept

/-! ### Wake and Camera Priority -/

section Kept

variable {s : State} {box : List OutMessage} (h : s.Within box)
include h

/-- A wake fills the credit to CAP (R57). -/
theorem State.Within.wakeNode : s.wakeNode.Within box := by
  unfold State.wakeNode; dsimp only
  split_ifs
  · refine State.Within.onOuts (State.Within.settleStreams ?_) _ (OutPort.keeps_wake _)
    exact { h with sched := ⟨h.sched.safeQ, h.sched.normalQ, Nat.le_refl _⟩ }
  · exact h

theorem State.Within.dropStandby : s.dropStandby.Within box := by
  unfold State.dropStandby
  split_ifs
  · exact { h with }
  · exact h

theorem State.Within.engage : s.engage.Within box := by
  unfold State.engage; dsimp only
  split_ifs
  · exact ((h.takeEntry.wakeNode.dropStandby.onOuts _ (OutPort.keeps_engage _ _)).recomputeDemand).raise _
  · exact h

theorem State.Within.release : s.release.Within box := by
  unfold State.release
  split_ifs
  · exact ((h.onOuts _ OutPort.keeps_release).recomputeDemand).raise _
  · exact h

theorem State.Within.setSources (c : CameraControl) : (s.setSources c).Within box := by
  have hc : ({ s with camera := c } : State).Within box := { h with }
  unfold State.setSources; dsimp only
  split_ifs
  · exact hc.engage
  · exact hc.release
  · exact hc

theorem State.Within.reverseDebounced : s.reverseDebounced.Within box := by
  unfold State.reverseDebounced
  split_ifs
  · exact h.setSources _
  · exact h

theorem State.Within.wakePin : s.wakePin.Within box := by
  unfold State.wakePin
  split_ifs
  · exact h.wakeNode
  · exact h

end Kept

/-! ### Flags of the scheduler -/

section Kept

variable {s : State} {box : List OutMessage} (h : s.Within box)
include h

theorem State.Within.setStarved : s.setStarved.Within box := by
  unfold State.setStarved
  split_ifs
  · refine State.Within.raise ?_ _
    exact { h with sched := { h.sched with } }
  · exact h

theorem State.Within.clearYield : s.clearYield.Within box := by
  unfold State.clearYield
  split_ifs
  · exact { h with sched := { h.sched with } }
  · exact h

theorem State.Within.sighting : s.sighting.Within box :=
  { h with sched := { h.sched with } }

end Kept

/-! ### Messages -/

section Kept

variable {s : State} {box : List OutMessage} (h : s.Within box)
include h

theorem State.Within.withdraw : s.withdraw.Within box := { h with inbox := (List.length_filter_le _ _).trans h.inbox }

theorem State.Within.completeEntry (user : List Word) : (s.completeEntry user).Within box := by
  refine State.Within.raise ?_ _
  exact { h with inbox := (List.length_map _).trans_le h.inbox }

/-- An entry is reserved only while the inbox has room (R33, R34). -/
theorem State.Within.reserve (e : InMessage) (hroom : s.inboxRoom = true) : (s.reserve e).Within box :=
  { h with inbox := by simpa [State.reserve, State.inboxRoom] using hroom }

theorem State.Within.messageAction (k : Option MessageKind) : (s.messageAction k).Within box := by
  unfold State.messageAction
  split
  · exact h.setSources _
  · exact h.setSources _
  · exact h.wakeNode
  · exact h
  · exact h

theorem State.Within.messageEnd (payload : List Word) (addressed reserved good : Bool) :
    (s.messageEnd payload addressed reserved good).Within box := by
  unfold State.messageEnd; dsimp only
  split_ifs
  · exact (h.completeEntry _).messageAction _
  · exact h.completeEntry _
  · exact h.withdraw
  · exact h.messageAction _
  · exact h
  · exact h

end Kept

end Sys2Proof.Machine
end

section
/-! PROOFS. The capacities through the receive link, the copies of lines and markers and the Parcel Filter, and through
what reaches the outbox (R4 to R12, R18 to R35, R168, R169). -/

namespace Sys2Proof.Machine

/-! ### What reaches the outbox -/

/-- An operation that leaves the outbox. -/
theorem State.Within.own {s t : State} (h : t.Within s.svc.outbox) (e : t.svc.outbox = s.svc.outbox) : t.Sound := by
  rw [State.Sound, e]; exact h

theorem joinResult_length_le (r : MessageResult) (l : List MessageResult) (h : l.length ≤ Config.resultCap) :
    (joinResult r l).length ≤ Config.resultCap := by
  simp only [Config.resultCap] at h
  unfold joinResult
  split_ifs with hroom <;> simp only [Config.resultCap, List.length_append, List.length_singleton, List.length_drop] at * <;>
    omega

section Sound

variable {s : State} (h : s.Sound)
include h

/-- A message in flight leaves with its result (R169). -/
theorem State.Within.giveResult (r : MessageResult) (m : OutMessage) (hm : inFlight s.svc.outbox r.tag = some m) :
    (s.giveResult r).Sound := by
  obtain ⟨hmem, htag, hsent⟩ := inFlight_some hm
  have hmail := h.mail.remove m hmem hsent
  rw [htag] at hmail
  refine State.Within.raise ?_ _
  exact { h with results := joinResult_length_le r _ h.results, mail := hmail }

theorem State.Within.returnReport (payload : List Word) (good : Bool) (f : Byte) : (s.returnReport payload good f).Sound := by
  unfold State.returnReport
  split
  · exact h
  · split
    · exact h
    · rename_i m hm
      refine h.giveResult _ m ?_
      simpa [returnResult, (inFlight_some hm).2.1] using hm

theorem State.Within.messageTimeout (tag : Byte) : (s.messageTimeout tag).Sound := by
  unfold State.messageTimeout
  split
  · exact h
  · rename_i m hm
    by_cases hdue : m.timedOut s.tick = true
    · rw [if_pos hdue]
      refine State.Within.giveResult (s := { s with free := _ }) ?_ _ m hm
      exact { h with }
    · rw [if_neg hdue]; exact h

/-- A message is queued while the outbox has room, under a tag that is free (R168). -/
theorem State.Within.queueMessage (target : Option StationNo) (k : MessageKind) (user : List Word)
    (hroom : s.svc.outbox.length < Config.outboxCap) : (s.queueMessage target k user).Sound :=
  { h with
    sched := { h.sched with }
    mail := h.mail.queue _ _ hroom (nextTag_fresh _ _ _ (exists_free_tag _ _ hroom)) rfl rfl }

end Sound

/-! ### The receive link -/

theorem decideUnicast_full (f : Byte) (e : InMessage) : (decideUnicast false f e).entry = none := by
  simp only [decideUnicast, Bool.false_eq_true, if_false]
  split_ifs <;> rfl

theorem decideBroadcast_full (f : Byte) (e : InMessage) : (decideBroadcast false f e).entry = none := rfl

/-- A message decided here reserves an entry only while the inbox has room (R33, R34). -/
theorem decideMessage_full (station source : StationNo) (f : Byte) (w : Word) :
    (decideMessage station source false f w).entry = none := by
  unfold decideMessage
  split
  · rfl
  · split_ifs
    · exact decideBroadcast_full f _
    · exact decideUnicast_full f _
    · rfl

section Kept

variable {s : State} {box : List OutMessage} (h : s.Within box)
include h

theorem State.Within.toOutside : (s.toStage .outside).Within box :=
  { h with link := { h.link with }, forwarded := fun _ hr => (nomatch hr), held := fun hheld => ⟨(h.held hheld).1, rfl⟩ }

/-- The receiver goes on, in a parcel that is forwarded only when it is another station's. -/
theorem State.Within.toStage (g : Stage) (hrun : s.running)
    (hg : ∀ r, g = .body r → r.course = .forward → r.hdr.source ≠ s.node.station) : (s.toStage g).Within box :=
  { h with link := { h.link with }, forwarded := hg, held := fun hheld => absurd (hrun.symm.trans hheld) (by decide) }

theorem State.Within.headerError : s.headerError.Within box :=
  { h with link := { h.link with hdrErr := holdInc_le h.link.hdrErr } }

theorem State.Within.payloadError : s.payloadError.Within box :=
  { h with link := { h.link with payErr := holdInc_le h.link.payErr } }

theorem State.Within.overflow : s.overflow.Within box :=
  { h with link := { h.link with ovf := holdInc_le h.link.ovf } }

/-- A change of the newest entry that adds at most n words, where the buffer has n words free (R12). -/
theorem State.Within.onNewest (f : TransitEntry → TransitEntry) (n : Nat) (hf : ∀ e, (f e).held ≤ e.held + n)
    (hroom : fillOf s.link.transit + n ≤ Config.transitWords) : (s.onNewest f).Within box :=
  { h with link := { h.link with fill := (fillOf_mapNewest_le f n hf _).trans hroom } }

theorem State.Within.closeNewest (good : Bool) : (s.onNewest (TransitEntry.close good)).Within box :=
  h.onNewest _ 0 (fun e => (e.close_held good).le) h.link.fill

theorem State.Within.countUnit : ({ s with link := s.link.countUnit } : State).Within box :=
  { h with link := { h.link with } }

theorem State.Within.offerLine (hd : Header) : (s.offerLine hd).Within box :=
  h.foldl _ (fun _ k hs => hs.onOut k.port _ (OutPort.keeps_offerLine _ _ _ _ _ k.role)) _

theorem State.Within.writeLine (ks : List SinkId) (ps : List Pixel) : (s.writeLine ks ps).Within box :=
  h.foldl _ (fun _ k hs => hs.onOut k.port _ (OutPort.keeps_mapSink k.role _ (Sink.keeps_write ps))) _

theorem State.Within.finishLine (ks : List SinkId) (good : Bool) : (s.finishLine ks good).Within box :=
  h.foldl _ (fun _ k hs => hs.onOut k.port _ (OutPort.keeps_mapSink k.role _ (Sink.keeps_finish good))) _

theorem State.Within.deliverMark (r : Reception) : (s.deliverMark r).Within box := by
  unfold State.deliverMark; dsimp only
  split_ifs
  · exact h.foldl _ (fun _ k hs => hs.onOut k.port _ (OutPort.keeps_dueFirst _ (OutPort.keeps_marker _ _ _ k.role))) _
  · exact h

theorem State.Within.maybeDecide (r : Reception) (w : Word) : (s.maybeDecide r w).1.Within box := by
  unfold State.maybeDecide
  split_ifs
  · have hrel := h.onNewest (TransitEntry.release (Header.sealed { r.fwd with
      flags := (decideMessage s.node.station r.hdr.source s.inboxRoom r.fwd.flags w).flags }).word3) 0
      (fun e => (e.release_held _).le) h.link.fill
    unfold State.decideFirst; dsimp only
    split
    · rename_i e he
      refine hrel.reserve e ?_
      change s.inboxRoom = true
      by_contra hfull
      have hroom : s.inboxRoom = false := by simpa using hfull
      rw [hroom, decideMessage_full] at he
      cases he
    · exact hrel
  · exact h

end Kept

theorem State.messageEnd_outbox (s : State) (payload : List Word) (addressed reserved good : Bool) :
    (s.messageEnd payload addressed reserved good).svc.outbox = s.svc.outbox := by
  unfold State.messageEnd; dsimp only
  split_ifs
  · rw [State.messageAction_svc]; rfl
  · rfl
  · rfl
  · rw [State.messageAction_svc]
  · rfl
  · rfl

/-- A header that is forwarded is another station's (R20). -/
theorem State.reception_forward (s : State) (hd : Header) (k : ParcelKind) (hc : (s.reception hd k).course = .forward) :
    hd.source ≠ s.node.station := by
  intro hs
  have : courseOf s.node.station hd = .strip := by unfold courseOf; rw [if_pos hs]
  exact absurd (this.symm.trans hc) (by decide)

theorem fillOf_append (t : List TransitEntry) (e : TransitEntry) : fillOf (t ++ [e]) = fillOf t + e.held := by
  simp [fillOf]

/-- A forwarded header takes four words of the transit buffer (R12, R32). -/
theorem transitEntry_held (hd : Header) (hold cut : Bool) : (transitEntry hd hold cut).held = 4 := by
  unfold transitEntry; split_ifs <;> rfl

section Sound

variable {s : State} (h : s.Sound)
include h

/-- The end of a parcel at the Parcel Filter, of another station's when it was forwarded (R18, R20, R24 to R35). -/
theorem State.Within.filterEnd (r : Reception) (good : Bool) (hrun : s.running)
    (hr : r.course = .forward → r.hdr.source ≠ s.node.station) : (s.filterEnd r good).Sound := by
  unfold State.filterEnd
  split
  · exact h
  · exact h
  · rename_i hc _
    split
    · exact (h.finishLine _ good).own (by simp)
    · split_ifs
      · exact (h.deliverMark r).own (by simp)
      · exact h
    · split_ifs
      · exact (h.censusCopy _ _ _ hrun (hr hc)).own (by simp)
      · exact h
    · exact (h.messageEnd _ _ _ good).own (State.messageEnd_outbox _ _ _ _ _)
  · split
    · exact h
    · exact h
    · split_ifs
      · exact (h.strippedCensus _).own (by simp)
      · exact h
    · exact h.returnReport _ good _
  · split
    · split_ifs
      · exact (h.strippedCensusFallback _).own (by simp)
      · exact h
    · exact h
    · exact h
    · exact h

theorem State.Within.endParcel (r : Reception) (good : Bool) (hrun : s.running)
    (hr : r.course = .forward → r.hdr.source ≠ s.node.station) : (s.endParcel r good).Sound := by
  unfold State.endParcel; dsimp only
  split_ifs
  · exact State.Within.filterEnd (h.toOutside.closeNewest good) r good hrun hr
  · exact State.Within.filterEnd h.toOutside r good hrun hr

/-- The parcel in reception ends (R8, R10). -/
theorem State.Within.breakParcel (hrun : s.running) : s.breakParcel.Sound := by
  unfold State.breakParcel
  split
  · exact h
  · exact h.headerError.toOutside
  · rename_i r hr
    exact State.Within.endParcel h.payloadError r false hrun (h.forwarded r hr)

theorem State.Within.leaveUp (st : LinkState) (hrun : s.running) : (s.leaveUp st).Sound := by
  have hleft : (({ s with link := { s.link with state := st, violations := [] } } : State).raise Cause.linkDown.bit).Sound := by
    refine State.Within.raise ?_ _
    exact { h with link := { h.link with } }
  unfold State.leaveUp; dsimp only
  split
  · exact hleft
  · exact hleft.toOutside
  · rename_i r hr
    exact hleft.endParcel r false hrun (h.forwarded r hr)

/-- A unit received in UP (R4), then its effect. -/
theorem State.Within.unitUp (f : State → State)
    (hf : ({ s with link := s.link.countUnit } : State).Sound → (f { s with link := s.link.countUnit }).Sound) :
    (s.unitUp f).Sound := by
  unfold State.unitUp
  split_ifs
  · exact hf h.countUnit
  · exact h

theorem State.Within.signalPresent : s.signalPresent.Sound := by
  unfold State.signalPresent
  split_ifs
  · exact { h with link := { h.link with valid := Nat.zero_le _ } }
  · exact h

theorem State.Within.lossOfSignal (hrun : s.running) : s.lossOfSignal.Sound := by
  unfold State.lossOfSignal
  split
  · exact h
  · exact { h with link := { h.link with } }
  · exact h.leaveUp .down hrun

theorem State.Within.alignUnit (u : RxUnit) : (s.alignUnit u).Sound := by
  unfold State.alignUnit RingPort.alignUnit
  split_ifs
  · exact { h with link := { h.link with valid := Nat.zero_le _ } }
  · exact { h with link := { h.link with valid := Nat.le_refl _ } }
  · rename_i hlow
    exact { h with link := { h.link with valid := Nat.le_of_lt (Nat.lt_of_not_le hlow) } }
  · exact h

theorem State.Within.sopReceived (hrun : s.running) : s.sopReceived.Sound :=
  h.unitUp _ (fun h => by
    refine (h.breakParcel hrun).toStage _ ?_ (fun _ hr => nomatch hr)
    exact (congrArg (fun n : Node => n.held = false) (State.breakParcel_node _)).mpr hrun)

theorem State.Within.strayUnit (u : RxUnit) : (s.strayUnit u).Sound := by
  unfold State.strayUnit
  split_ifs
  · exact h.unitUp _ id
  · exact h

theorem State.Within.codingViolation (hrun : s.running) : s.codingViolation.Sound := by
  refine h.unitUp _ (fun h => ?_)
  dsimp only
  split_ifs
  · refine State.Within.leaveUp ?_ .align hrun
    exact { h with link := { h.link with valid := Nat.zero_le _ } }
  · refine State.Within.breakParcel ?_ hrun
    exact { h with link := { h.link with } }

theorem State.Within.headerWord (w : Word) (hrun : s.running) : (s.headerWord w).Sound := by
  unfold State.headerWord
  split
  · split_ifs
    · exact h.unitUp _ (fun h => h.toStage _ hrun (fun _ hr => nomatch hr))
    · exact h
  · exact h
  · exact h

theorem State.Within.offered (hd : Header) (k : ParcelKind) : (s.offered hd k).Sound := by
  have hsighted : (s.sighted hd).Within s.svc.outbox := by
    unfold State.sighted
    split_ifs
    · exact h.sighting
    · exact h
  have hoff : (s.offered hd k).Within s.svc.outbox := by
    unfold State.offered
    split_ifs
    · exact hsighted.offerLine hd
    · exact hsighted
  exact hoff.own (by rw [State.offered_svc])

theorem State.Within.decideHeader (hd : Header) (k : ParcelKind) (hrun : s.running) : (s.decideHeader hd k).Sound := by
  have hoff := h.offered hd k
  have hnode := s.offered_node hd k
  have hrun' : (s.offered hd k).running := (congrArg (fun n : Node => n.held = false) hnode).mpr hrun
  have hforward : ∀ r : Reception, Stage.body (s.reception hd k) = .body r → r.course = .forward →
      r.hdr.source ≠ (s.offered hd k).node.station := by
    rintro r hr hc
    cases hr
    rw [hnode]
    exact s.reception_forward hd k hc
  rw [State.decideHeader_eq]
  split_ifs with hc hfull
  · exact State.Within.filterEnd hoff.overflow.toOutside _ false hrun' (hforward _ rfl)
  · refine State.Within.toStage ?_ _ hrun' hforward
    have hfill : fillOf ((s.offered hd k).link.transit ++ [transitEntry (s.rewrite hd)
        (k == .message && !(s.reception hd k).repeater) s.cutsThrough]) ≤ Config.transitWords := by
      rw [fillOf_append, transitEntry_held, State.offered_link]
      exact Nat.not_lt.mp hfull
    exact { hoff with link := { hoff.link with fill := hfill } }
  · exact hoff.toStage _ hrun' hforward

theorem State.Within.headerEvent (w : Word) (hrun : s.running) : (s.headerEvent w).Sound := by
  unfold State.headerEvent
  split
  · refine h.unitUp _ (fun h => ?_)
    split_ifs
    · split
      · exact h.decideHeader _ _ hrun
      · exact h.headerError.toOutside
    · exact h.headerError.toOutside
  · exact h
  · exact h
  · exact h

end Sound

end Sys2Proof.Machine
end

section
/-! PROOFS. The capacities through the data words of a parcel and through the transmit link (R3, R9 to R14, R37 to R40). -/

namespace Sys2Proof.Machine

/-! ### Data words and the end symbol -/

/-- A decision leaves what a parcel is and where it goes (R32). -/
theorem State.maybeDecide_course (s : State) (r : Reception) (w : Word) :
    (s.maybeDecide r w).2.course = r.course ∧ (s.maybeDecide r w).2.hdr = r.hdr := by
  unfold State.maybeDecide; split_ifs <;> exact ⟨rfl, rfl⟩

theorem mapNewest_fill (f : TransitEntry → TransitEntry) (hf : ∀ e, (f e).held = e.held) (t : List TransitEntry) :
    fillOf (mapNewest f t) ≤ fillOf t := fillOf_mapNewest_le f 0 (fun e => (hf e).le) t

/-- A decision adds no word to the transit buffer (R32). -/
theorem State.maybeDecide_fill (s : State) (r : Reception) (w : Word) :
    fillOf (s.maybeDecide r w).1.link.transit ≤ fillOf s.link.transit := by
  unfold State.maybeDecide
  split_ifs
  · rw [State.decideFirst_state]
    exact mapNewest_fill _ (fun e => e.release_held _) _
  · exact le_rfl

theorem State.maybeDecide_outbox (s : State) (r : Reception) (w : Word) :
    (s.maybeDecide r w).1.svc.outbox = s.svc.outbox := by
  unfold State.maybeDecide
  split_ifs
  · rw [State.decideFirst_state]
  · rfl

theorem Reception.count_course (r : Reception) (w : Word) : (r.count w).course = r.course ∧ (r.count w).hdr = r.hdr := by
  unfold Reception.count; split_ifs <;> exact ⟨rfl, rfl⟩

/-- The receiver goes on in a parcel, which is another station's when it is forwarded. -/
theorem State.Within.toBody {u : State} {box : List OutMessage} (hu : u.Within box) (n : Node) (hn : u.node = n)
    (hrun : n.held = false) (r : Reception) (hr : r.course = .forward → r.hdr.source ≠ n.station) :
    (u.toStage (.body r)).Within box := by
  subst hn
  refine hu.toStage _ hrun fun r' hr' hc => ?_
  cases hr'
  exact hr hc

section Sound

variable {s : State} (h : s.Sound)
include h

/-- A data word taken: the transit buffer has room for it where the parcel is forwarded (R12). -/
theorem State.Within.takeWord (r : Reception) (w : Word) (hrun : s.running)
    (hr : r.course = .forward → r.hdr.source ≠ s.node.station)
    (hroom : r.course = .forward → fillOf s.link.transit < Config.transitWords) : (s.takeWord r w).Sound := by
  have hjoined : (s.joined r w).Within s.svc.outbox := by
    unfold State.joined
    split_ifs with hc
    · exact h.onNewest _ 1 (fun e => (e.join_held w).le) (hroom hc)
    · exact h
  have hnode : (s.joined r w).node = s.node := by rw [State.joined_eq]
  have hcounted : ∀ c : List Byte, (Reception.count { r with carry := c } w).course = .forward →
      (Reception.count { r with carry := c } w).hdr.source ≠ s.node.station := fun c => by
    rw [(Reception.count_course _ w).1, (Reception.count_course _ w).2]; exact hr
  have htaken : (s.takeWord r w).Within s.svc.outbox := by
    by_cases hline : r.kind = .line ∧ r.got < r.hdr.len.toNat
    · rw [State.takeWord_line hline.1 hline.2]
      exact (hjoined.writeLine _ _).toBody s.node ((State.writeLine_node _ _ _).trans hnode) hrun _ (hcounted _)
    · rw [State.takeWord_plain hline]
      exact hjoined.toBody s.node hnode hrun _ (hcounted r.carry)
  exact htaken.own (by rw [State.takeWord_svc])

/-- A data word after the header (R9, R12). -/
theorem State.Within.bodyWord (r : Reception) (w : Word) (hrun : s.running)
    (hr : r.course = .forward → r.hdr.source ≠ s.node.station) : (s.bodyWord r w).Sound := by
  obtain ⟨hcourse, hhdr⟩ := s.maybeDecide_course r w
  have hnode := s.maybeDecide_node r w
  have hdecided : (s.maybeDecide r w).1.Sound := (h.maybeDecide r w).own (s.maybeDecide_outbox r w)
  have hrun' : (s.maybeDecide r w).1.running := (congrArg (fun n : Node => n.held = false) hnode).mpr hrun
  have hr' : (s.maybeDecide r w).2.course = .forward →
      (s.maybeDecide r w).2.hdr.source ≠ (s.maybeDecide r w).1.node.station := by rw [hcourse, hhdr, hnode]; exact hr
  unfold State.bodyWord; dsimp only
  split_ifs with hexcess hfull
  · exact State.Within.endParcel h.payloadError r false hrun hr
  · exact State.Within.endParcel hdecided.overflow _ false hrun' hr'
  · refine hdecided.takeWord _ w hrun' hr' fun hc => ?_
    have hroom : fillOf s.link.transit < Config.transitWords :=
      Nat.not_le.mp (fun hn => hfull ⟨hcourse.symm.trans hc, hn⟩)
    exact (s.maybeDecide_fill r w).trans_lt hroom

theorem State.Within.payloadWord (w : Word) (hrun : s.running) : (s.payloadWord w).Sound := by
  unfold State.payloadWord
  split
  · rename_i r hr
    exact h.unitUp _ (fun h' => State.Within.bodyWord h' r w hrun (h.forwarded r hr))
  · exact h
  · exact h

theorem State.Within.endEvent (e : EndSymbol) (hrun : s.running) : (s.endEvent e).Sound := by
  unfold State.endEvent
  split
  · exact h
  · exact h.unitUp _ (fun h => h.headerError.toOutside)
  · rename_i r hr
    refine h.unitUp _ (fun h' => ?_)
    rw [State.bodyEnd_eq]
    split_ifs
    · exact State.Within.endParcel h'.payloadError r _ hrun (h.forwarded r hr)
    · exact State.Within.endParcel h' r _ hrun (h.forwarded r hr)

end Sound

/-! ### The transmit link -/

theorem State.Within.begin {u : State} {box : List OutMessage} (hu : u.Within box) (t : Tx) : (u.begin t).Within box :=
  { hu with link := { hu.link with } }

theorem State.Within.judgeStarved {u : State} {box : List OutMessage} (hu : u.Within box) : u.judgeStarved.Within box :=
  { hu with sched := { hu.sched with } }

/-- An own census send judges the one before it, at most three missed (R63). -/
theorem State.Within.ownCensusSend {u : State} {box : List OutMessage} (hu : u.Within box) :
    u.ownCensusSend.Within box := by
  have hmissed : missedAfterSend u.view ≤ 3 := by
    unfold missedAfterSend
    split_ifs
    · exact Nat.min_le_left _ _
    · exact hu.missed
  refine State.Within.raise ?_ _
  exact { hu with
    link := { hu.link with hdrErr := Nat.zero_le _, payErr := Nat.zero_le _, ovf := Nat.zero_le _ }, missed := hmissed }

/-- What the scheduler has chosen stands at the head of its queue (R37). -/
def Choice.Heads (s : State) : Choice → Prop
  | .none => True
  | .safe e rest => s.sched.safeQ = e :: rest
  | .transit => True
  | .census _ => True
  | .message m rest => s.sched.msgs = m :: rest
  | .normal e rest => s.sched.normalQ = e :: rest

theorem State.safeChoice_heads (s : State) : s.safeChoice.Heads s := by
  unfold State.safeChoice
  split
  · rename_i heq
    split_ifs
    · exact heq
    · trivial
  · trivial

theorem State.normalChoice_heads (s : State) : s.normalChoice.Heads s := by
  unfold State.normalChoice
  split
  · rename_i heq
    split_ifs
    · exact heq
    · trivial
  · trivial

theorem State.choice_heads (s : State) : s.choice.Heads s := by
  have hsafe := s.safeChoice_heads
  unfold State.choice
  split
  · rename_i heq; exact heq ▸ hsafe
  · split_ifs
    · unfold State.localChoice
      split
      · trivial
      · split
        · rename_i heq; exact heq
        · exact s.normalChoice_heads
    · trivial

theorem tail_length_le {α : Type} {l xs : List α} {x : α} {n : Nat} (hl : l = x :: xs) (hn : l.length ≤ n) :
    xs.length ≤ n := by
  subst hl; exact Nat.le_of_succ_le hn

theorem RingPort.Within.wordSent {l : RingPort} (hl : l.Within) : l.wordSent.Within := by
  unfold RingPort.wordSent
  split
  · exact { hl with }
  · unfold RingPort.transitWord
    split
    · exact hl
    · rename_i e es htransit
      split
      · rename_i w ws hwords
        have hfill := hl.fill
        simp only [htransit, fillOf, List.map_cons, List.sum_cons, TransitEntry.held, hwords, List.length_cons] at hfill
        refine { hl with fill := ?_ }
        simp only [fillOf, List.map_cons, List.sum_cons, TransitEntry.held]
        omega
      · split_ifs
        · exact hl
        · exact { hl with }
  · split
    · exact { hl with }
    · exact hl

/-- The transmit stream leaves the receiver's stage. -/
theorem RingPort.wordSent_stage (l : RingPort) : l.wordSent.stage = l.stage := by
  unfold RingPort.wordSent RingPort.transitWord
  split
  · rfl
  · split
    · rfl
    · split
      · rfl
      · split_ifs <;> rfl
  · split <;> rfl

section Sound

variable {s : State} (h : s.Sound)
include h

/-- The chosen parcel starts (R37). -/
theorem State.Within.parcelStart : s.parcelStart.Sound := by
  have hhead := s.choice_heads
  unfold State.parcelStart
  split_ifs
  · unfold State.start
    split
    · exact h
    · rename_i e rest hc
      rw [hc, Choice.Heads] at hhead
      refine State.Within.begin ?_ _
      exact { h with sched := { h.sched with safeQ := tail_length_le hhead h.sched.safeQ } }
    · exact h.begin _
    · refine State.Within.ownCensusSend (State.Within.begin ?_ _)
      exact { h with sched := { h.sched with } }
    · rename_i m rest hc
      rw [hc, Choice.Heads] at hhead
      have hmail := MailWithin.send (e := m) (hhead ▸ h.mail) s.tick
      exact { h with
        sched := { h.sched with }
        link := { h.link with }
        mail := by rw [State.markSent_outbox]; exact hmail }
    · rename_i e rest hc
      rw [hc, Choice.Heads] at hhead
      refine State.Within.judgeStarved (State.Within.begin ?_ _)
      exact { h with sched := { h.sched with
        normalQ := tail_length_le hhead h.sched.normalQ, credit := (Nat.sub_le _ _).trans h.sched.credit } }
  · exact h

theorem State.Within.cutThroughStart : s.cutThroughStart.Sound := by
  unfold State.cutThroughStart
  split_ifs
  · exact h.begin _
  · exact h

theorem State.Within.wordSent : s.wordSent.Sound :=
  { h with
    link := h.link.wordSent
    forwarded := fun r hr => h.forwarded r ((RingPort.wordSent_stage _).symm.trans hr)
    held := fun hheld => ⟨(h.held hheld).1, (RingPort.wordSent_stage _).trans (h.held hheld).2⟩ }

theorem State.Within.parcelEndSent : s.parcelEndSent.Sound := by
  unfold State.parcelEndSent
  split
  · exact h
  · split
    · exact h
    · rename_i e es htransit
      split
      · exact h
      · split_ifs
        · have hfill := h.link.fill
          simp only [htransit, fillOf, List.map_cons, List.sum_cons] at hfill
          exact { h with link := { h.link with fill := (Nat.le_add_left _ _).trans hfill } }
        · exact h
  · split_ifs
    · exact { h with store := (List.length_filter_le _ _).trans h.store, link := { h.link with } }
    · exact h

end Sound

end Sys2Proof.Machine
end

section
/-! PROOFS. The capacities through a tick and the requests of the service port (R1, R46, R162 to R174). -/

namespace Sys2Proof.Machine

/-! ### The tick -/

theorem Port.runTick_sinks (p : Port) : p.runTick.sinks = p.sinks := by cases p <;> rfl

/-- The refill stops at the cap (R46, R47). -/
theorem creditAfterTick_le (s : State) (h : s.sched.credit ≤ s.cap) : creditAfterTick s ≤ s.cap := by
  unfold creditAfterTick
  split_ifs
  · exact Nat.min_le_left _ _
  · exact h

section Sound

variable {s : State} (h : s.Sound)
include h

theorem State.Within.countTick (reverse wake : Bool) : (s.countTick reverse wake).Sound :=
  { h with
    sched := { h.sched with credit := creditAfterTick_le s h.sched.credit }
    sinks := by
      change SinksWithin (s.portA.runTick.sinks ++ s.portB.runTick.sinks)
      rw [Port.runTick_sinks, Port.runTick_sinks]
      exact h.sinks }

/-- What one step of a fold keeps of the state and its own outbox, the fold keeps. -/
theorem State.Within.foldlSound {α : Type} (f : State → α → State)
    (hf : ∀ (s : State) (a : α), s.Sound → (f s a).Sound) (l : List α) : (l.foldl f s).Sound := by
  induction l generalizing s with
  | nil => exact h
  | cons a l ih => exact ih (hf s a h)

theorem State.Within.takeDue : s.takeDue.Sound := by
  unfold State.takeDue; dsimp only
  have hview : s.takeEntry.setStarved.clearYield.censusExpiry.Within s.svc.outbox :=
    h.takeEntry.setStarved.clearYield.censusExpiry
  generalize hs1 : s.takeEntry.setStarved.clearYield.censusExpiry = s1 at hview ⊢
  have hsvc1 : s1.svc = s.svc := by rw [← hs1]; simp
  have hexpired := hview.foldl State.entryExpiry (fun _ st hs => hs.entryExpiry st) s1.tableStations
  have hports := (hexpired.silenceTimeout .a).silenceTimeout .b
  generalize hs3 : ((s1.tableStations.foldl State.entryExpiry s1).silenceTimeout .a).silenceTimeout .b = s3 at hports ⊢
  have hsvc3 : s3.svc = s.svc := by
    rw [← hs3, State.silenceTimeout_svc, State.silenceTimeout_svc,
      foldl_frame State.svc State.entryExpiry (fun s st => State.entryExpiry_svc s st), hsvc1]
  have hmail := State.Within.foldlSound (hports.own (by rw [hsvc3])) State.messageTimeout
    (fun _ tag hs => hs.messageTimeout tag) (s3.svc.outbox.map OutMessage.tag)
  generalize (s3.svc.outbox.map OutMessage.tag).foldl State.messageTimeout s3 = s4 at hmail ⊢
  have hlast := ((hmail.reverseDebounced.onOuts (OutPort.deadlineExpiry s4.reverseDebounced.tick)
    (OutPort.keeps_deadlineExpiry _)).wakePin).onOuts OutPort.settle OutPort.keeps_settle
  exact hlast.own (by simp)

theorem State.Within.microsecondTick (reverse wake : Bool) : (s.microsecondTick reverse wake).Sound :=
  h.takeDue.countTick reverse wake

end Sound

/-! ### The service port -/

/-- A response leaves all but the request and response buffers (R163). -/
theorem State.Within.respond {u : State} (hu : u.Sound) (c : ResponseCode) (data : List Byte) : (u.respond c data).Sound :=
  { hu with }

section Sound

variable {s : State} (h : s.Sound)
include h

/-- A request refused or carried out (R164). -/
theorem State.Within.serve (early argsOk : Bool) (f : State → State) (hf : (f s).Sound) : (s.serve early argsOk f).Sound := by
  unfold State.serve
  split_ifs
  · exact h.respond _ _
  · exact hf
  · exact h.respond _ _

theorem State.Within.placeRequest (p : PortId) (m : CameraMode) (role : Role) (v : Placed) :
    (s.placeRequest p m role v).Sound :=
  State.Within.respond ((h.onOut p _ (OutPort.keeps_request m role v)).own (by simp)) _ _

theorem State.Within.showStream (args : List Byte) : (s.showStream args).Sound := by
  refine h.serve _ _ _ ?_
  split
  · exact h.placeRequest _ _ _ _
  · exact h

theorem State.Within.inset (args : List Byte) : (s.inset args).Sound := by
  refine h.serve _ _ _ ?_
  split
  · exact h.placeRequest _ _ _ _
  · exact h

theorem State.Within.probe (args : List Byte) : (s.probe args).Sound := by
  refine h.serve _ _ _ ?_
  split
  · exact h.respond _ _
  · exact h

theorem State.Within.status (args : List Byte) : (s.status args).Sound := by
  refine h.serve _ _ _ ?_
  split
  · exact h.respond _ _
  · exact h

/-- A message is queued only while the outbox has room (R168). -/
theorem State.Within.sendMessage (a : SendArgs) : (s.sendMessage a).Sound := by
  unfold State.sendMessage
  split_ifs with hfull
  · exact h.respond _ _
  · exact State.Within.respond (h.queueMessage a.target a.kind a.user (Nat.not_le.mp hfull)) _ _

theorem State.Within.send (args : List Byte) : (s.send args).Sound := by
  refine h.serve _ _ _ ?_
  split
  · exact h.sendMessage _
  · exact h

theorem State.Within.take (args : List Byte) : (s.take args).Sound := by
  refine h.serve _ _ _ ?_
  split
  · refine State.Within.respond ?_ _ _
    exact { h with inbox := (List.length_eraseP_le).trans h.inbox }
  · exact h.respond _ _

theorem State.Within.result (args : List Byte) : (s.result args).Sound := by
  refine h.serve _ _ _ ?_
  split
  · rename_i r rest hr
    refine State.Within.respond ?_ _ _
    exact { h with results := tail_length_le hr h.results }
  · exact h.respond _ _

theorem State.Within.attention (args : List Byte) : (s.attention args).Sound := h.serve _ _ _ (h.respond _ _)

theorem State.Within.clear (args : List Byte) : (s.clear args).Sound := by
  refine h.serve _ _ _ ?_
  split
  · refine State.Within.respond ?_ _ _
    exact { h with }
  · exact h

theorem State.Within.cameraRequest (args : List Byte) : (s.cameraRequest args).Sound := by
  refine h.serve _ _ _ ?_
  split
  · exact State.Within.respond ((h.setSources _).own (by simp)) _ _
  · exact h

theorem State.Within.standbyRequest (args : List Byte) : (s.standbyRequest args).Sound := by
  refine h.serve _ _ _ ?_
  split_ifs
  · exact h.respond _ _
  · exact h.respond _ _
  · exact State.Within.respond ((h.askEntry _).own (by simp)) _ _

theorem State.Within.wakeRequest (args : List Byte) : (s.wakeRequest args).Sound := by
  refine h.serve _ _ _ ?_
  split
  · split_ifs
    · exact State.Within.respond (h.wakeNode.own (by simp)) _ _
    · exact h.respond _ _
    · exact h.sendMessage _
  · exact h

theorem State.Within.discardFrame : s.discardFrame.Sound := { h with }

theorem State.Within.readFrame (clocked : Nat) : (s.readFrame clocked).Sound := { h with }

end Sound

end Sys2Proof.Machine
end

section
/-! PROOFS. The capacities through reset, the image and a warm restart (R94, R175, R176, R180). -/

namespace Sys2Proof.Machine

/-! ### The ports an image gives -/

theorem SinksWithin.nil : SinksWithin [] := ⟨fun _ hk => absurd hk List.not_mem_nil, .nil⟩

/-- The records of a port at the entry to RUN: those of its allotments, with no slot in use (R94). -/
theorem PortCfg.port_sinks (k : AtRest) (c : PortCfg) : (c.port k).sinks = c.allotments.map Sink.fresh := by
  match c with
  | .unused => rfl
  | .input _ _ => rfl
  | .output _ _ none => rfl
  | .output _ _ (some _) => rfl

theorem PortCfg.Checked.allotment {c : PortCfg} (h : c.Checked) (x : SinkCfg) (hx : x ∈ c.allotments) : x.Checked := by
  match c with
  | .unused => cases hx
  | .input _ _ => cases hx
  | .output _ m none =>
    obtain ⟨-, hm, -⟩ := h
    exact List.mem_singleton.mp hx ▸ hm
  | .output _ m (some v) =>
    obtain ⟨-, hm, -, -, hv⟩ := h
    rcases List.mem_pair.mp hx with rfl | rfl
    · exact hm
    · exact (hv _ rfl).1

/-- An image that is taken has checked ports with allotments apart (R94, R176). -/
theorem imageOf_ports {ss : List Section} {i : Image} (h : imageOf ss = some i) :
    i.portA.Checked ∧ i.portB.Checked ∧
      (i.portA.allotments ++ i.portB.allotments).Pairwise (fun x y => x.apart y = true) := by
  unfold imageOf at h
  split at h
  · split at h
    · split at h
      · rename_i a b e hr ha hb he
        split at h
        · rename_i hapart
          cases h
          exact ⟨portOf_checked _ _ _ ha, portOf_checked _ _ _ hb, hapart.1⟩
        · cases h
      · cases h
    · cases h
  · cases h

theorem judgeFlash_accepted {bytes : List Byte} {i : Image} (h : judgeFlash bytes = .accepted i) :
    ∃ ss, imageOf ss = some i := by
  unfold judgeFlash judgeWords at h
  split at h
  · cases h
  · split_ifs at h
    split at h
    · split at h
      · rename_i hi; cases h; exact ⟨_, hi⟩
      · cases h
    · cases h

/-- The sink records an image gives are sound (R94, R95). -/
theorem Image.sinks_within {ss : List Section} {i : Image} (h : imageOf ss = some i) (ka kb : AtRest) :
    SinksWithin ((i.portA.port ka).sinks ++ (i.portB.port kb).sinks) := by
  obtain ⟨ha, hb, hapart⟩ := imageOf_ports h
  rw [PortCfg.port_sinks, PortCfg.port_sinks, ← List.map_append]
  refine ⟨fun k hk => ?_, ?_⟩
  · obtain ⟨c, hc, rfl⟩ := List.mem_map.mp hk
    rcases List.mem_append.mp hc with hc | hc
    · exact Sink.fresh_stored c (ha.allotment c hc)
    · exact Sink.fresh_stored c (hb.allotment c hc)
  · rw [List.map_map]
    simpa [Function.comp_def, Sink.fresh] using hapart

theorem MailWithin.nil : MailWithin [] [] := ⟨Nat.zero_le _, List.nodup_nil, rfl⟩

/-! ### Reset, image and restart -/

/-- The state after power-up holds nothing (R175). -/
theorem State.reset_sound : State.reset.Sound where
  sched := ⟨Nat.zero_le _, Nat.zero_le _, Nat.zero_le _⟩
  store := Nat.zero_le _
  link := ⟨Nat.zero_le _, Nat.zero_le _, Nat.zero_le _, Nat.zero_le _, Nat.zero_le _⟩
  missed := Nat.zero_le _
  table := TableWithin.nil _
  results := Nat.zero_le _
  inbox := Nat.zero_le _
  mail := MailWithin.nil
  forwarded := fun _ hr => (nomatch hr)
  held := fun _ => ⟨rfl, rfl⟩
  sinks := SinksWithin.nil

theorem State.coldReset_sound (s : State) : s.coldReset.Sound := { State.reset_sound with }

theorem State.Within.restartOuts {u : State} {box : List OutMessage} (hu : u.Within box) : u.restartOuts.Within box :=
  hu.onOuts _ (OutPort.keeps_dueFirst _ OutPort.keeps_restart)

theorem State.Within.restartView {u : State} {box : List OutMessage} (hu : u.Within box) : u.restartView.Within box := by
  unfold State.restartView; dsimp only
  refine State.Within.recomputeDemand (State.Within.foldl ?_ _ (fun _ st hs => hs.tableReport st) _)
  exact { hu with missed := Nat.zero_le _, table := TableWithin.nil _, held := fun hn => ⟨rfl, (hu.held hn).2⟩ }

theorem State.Within.restartService {u : State} (hu : u.Within []) : u.restartService.Sound :=
  { hu with results := Nat.zero_le _, inbox := Nat.zero_le _ }

theorem State.Within.judgeLate {u : State} {box : List OutMessage} (hu : u.Within box) : u.judgeLate.Within box := by
  unfold State.judgeLate
  split_ifs
  · exact hu
  · exact { hu with }

section Sound

variable {s : State} (h : s.Sound)
include h

/-- A part held in reset has an empty table and receives nothing, so that it may take any station number (R175). -/
theorem State.Within.resetRelease (straps : StationNo) : (s.resetRelease straps).Sound := by
  unfold State.resetRelease
  split_ifs with hheld
  · obtain ⟨htable, hstage⟩ := h.held hheld
    exact { h with
      sched := { h.sched with }
      link := { h.link with }
      table := by
        change TableWithin straps s.view.table
        rw [htable]; exact .nil _
      forwarded := fun r hr => nomatch hstage.symm.trans hr
      held := fun hn => nomatch hn }
  · exact h

theorem State.Within.toFallback : s.toFallback.Sound :=
  { h with missed := Nat.zero_le _, table := TableWithin.nil _, held := fun hn => ⟨rfl, (h.held hn).2⟩ }

theorem State.Within.takeImage (i : Image) (ss : List Section) (hi : imageOf ss = some i) : (s.takeImage i).Sound := by
  have hentered : ({ s with
      node := { s.node.endRead with state := .run, ring := some i.ring }
      sched := { s.sched with credit := i.ring.cap }
      view := StationView.start (seedFor i.ring.seed s.node.station) none false
      portA := i.portA.port s.portA.rest
      portB := i.portB.port s.portB.rest
      att := { s.att with enable := i.enable } } : State).Within s.svc.outbox :=
    { h with
      sched := { h.sched with credit := le_rfl }
      missed := Nat.zero_le _
      table := TableWithin.nil _
      held := fun hn => ⟨rfl, (h.held hn).2⟩
      sinks := Image.sinks_within hi _ _ }
  unfold State.takeImage; dsimp only
  exact (hentered.settleStreams.onOuts _ (OutPort.keeps_frameStart _)).own (by simp)

theorem State.Within.imageAccepted (bytes : List Byte) : (s.imageAccepted bytes).Sound := by
  unfold State.imageAccepted
  split_ifs
  · split
    · rename_i i hi
      obtain ⟨ss, hss⟩ := judgeFlash_accepted hi
      exact h.takeImage i ss hss
    · exact h
    · exact h
  · exact h

theorem State.Within.imageRejected (bytes : List Byte) : (s.imageRejected bytes).Sound := by
  unfold State.imageRejected
  split_ifs
  · exact h.toFallback
  · exact h

/-- The Ring Port at a warm restart (R15): the transit buffer and the counts are empty. -/
theorem State.Within.restartRing (hrun : s.running) : s.restartRing.Sound := by
  have habort : ∀ l : RingPort, l.abort.stage = l.stage ∧ l.abort.valid = l.valid := fun l => by
    unfold RingPort.abort; split <;> exact ⟨rfl, rfl⟩
  have hclear : ∀ u : State, u.Sound → ({ u with
      link := { u.link.abort with transit := [], hdrErr := 0, payErr := 0, ovf := 0 } } : State).Sound := fun u hu =>
    { hu with
      link := ⟨Nat.zero_le _, (habort u.link).2 ▸ hu.link.valid, Nat.zero_le _, Nat.zero_le _, Nat.zero_le _⟩
      forwarded := fun r hr => hu.forwarded r ((habort u.link).1.symm.trans hr)
      held := fun hn => ⟨(hu.held hn).1, (habort u.link).1.trans (hu.held hn).2⟩ }
  unfold State.restartRing; dsimp only
  split
  · exact hclear s h
  · exact hclear _ h.toOutside
  · rename_i r hr
    exact hclear _ (State.Within.endParcel h r false hrun (h.forwarded r hr))

/-- The queues are empty from here on, so the outbox that the next step but two empties counts as empty already (R55, R92). -/
theorem State.Within.restartSources : s.restartSources.Within [] := by
  have hsinks : ∀ q : Port, q.restartStreams.sinks = q.sinks := fun q => by cases q <;> rfl
  refine State.Within.settleStreams ?_
  exact { h with
    sched := ⟨Nat.zero_le _, Nat.zero_le _, le_rfl⟩
    store := Nat.zero_le _
    mail := MailWithin.nil
    sinks := by
      change SinksWithin (s.portA.restartStreams.sinks ++ s.portB.restartStreams.sinks)
      rw [hsinks, hsinks]
      exact h.sinks }

theorem State.Within.restartCamera : s.restartCamera.Sound := by
  have hcam : ({ s with camera := { debounced := s.pins.reverse, stability := 0, ringLatch := false, localLatch := false } } :
      State).Within s.svc.outbox := { h with }
  unfold State.restartCamera; dsimp only
  split_ifs
  · exact hcam.judgeLate.engage.own (by simp)
  · exact hcam.judgeLate.own (by simp)

/-- A warm restart (R180). -/
theorem State.Within.warmRestart (hrun : s.running) : s.warmRestart.Sound :=
  (h.restartRing hrun).restartSources.restartOuts.restartView.restartService.restartCamera

theorem State.Within.restartRequest (args : List Byte) (hrun : s.running) : (s.restartRequest args).Sound :=
  h.serve _ _ _ ((h.warmRestart hrun).respond _ _)

end Sound

/-! ### The commands -/

section Sound

variable {s : State} (h : s.Sound)
include h

/-- A command of a part in cold reset does nothing. -/
theorem State.Within.live {t u : State} (hu : s.running → u.Sound)
    (ht : Host.Outcome.next (if s.node.held then s else u) = (.next t : Answer)) : t.Sound := by
  rw [← Host.Outcome.next.inj ht]
  split_ifs with hheld
  · exact h
  · exact hu (by simpa using hheld)

end Sound

end Sys2Proof.Machine
end

section
/-! PROOFS. The capacities through every command, and so through every step. -/

namespace Sys2Proof.Machine

section Sound

variable {s : State} (h : s.Sound)
include h

/-- An operation made only under a condition. -/
theorem State.Within.when {t : State} (c : Prop) [Decidable c] (ht : t.Sound) : (if c then t else s).Sound := by
  split_ifs
  · exact ht
  · exact h

/-- An operation on an output port that keeps its records. -/
theorem State.Within.output (p : PortId) (f : OutPort → OutPort × Half) (hf : ∀ o : OutPort, o.Keeps (f o).1) :
    (s.onOut p f).Sound := (h.onOut p f hf).own (by simp)

/-- An event of an output port, after what was due there (log 2). -/
theorem State.Within.settled (p : PortId) (f : OutPort → OutPort × Half) (hf : ∀ o : OutPort, o.Keeps (f o).1) :
    ((s.onOut p OutPort.settle).onOut p f).Sound :=
  State.Within.output (h.output p _ OutPort.keeps_settle) p f hf

/-- Every command keeps the capacities. -/
theorem State.Within.exec {t : State} (c : Instr) (ht : exec c s = .next t) : t.Sound := by
  cases c with
  | coldReset => cases ht; exact s.coldReset_sound
  | resetRelease straps => cases ht; exact h.resetRelease straps
  | imageAccepted flash => exact h.live (fun _ => h.imageAccepted flash) ht
  | imageRejected flash => exact h.live (fun _ => h.imageRejected flash) ht
  | signalPresent => exact h.live (fun _ => h.signalPresent) ht
  | lossOfSignal => exact h.live (fun hrun => h.lossOfSignal hrun) ht
  | alignUnit u => exact h.live (fun _ => h.alignUnit u) ht
  | sopReceived => exact h.live (fun hrun => h.sopReceived hrun) ht
  | strayUnit u => exact h.live (fun _ => h.strayUnit u) ht
  | codingViolation => exact h.live (fun hrun => h.codingViolation hrun) ht
  | headerWord w => exact h.live (fun hrun => h.headerWord w hrun) ht
  | headerEvent w => exact h.live (fun hrun => h.headerEvent w hrun) ht
  | payloadWord w => exact h.live (fun hrun => h.payloadWord w hrun) ht
  | endEvent e => exact h.live (fun hrun => h.endEvent e hrun) ht
  | parcelStart => exact h.live (fun _ => h.parcelStart) ht
  | cutThroughStart => exact h.live (fun _ => h.cutThroughStart) ht
  | wordSent => exact h.live (fun _ => h.wordSent) ht
  | parcelEndSent => exact h.live (fun _ => h.parcelEndSent) ht
  | enterMute => exact h.live (fun _ => h.enterMute.own (by simp)) ht
  | enterStandby => exact h.live (fun _ => h.enterStandby.own (by simp)) ht
  | wakePin => exact h.live (fun _ => h.wakePin.own (by simp)) ht
  | microsecondTick reverse wake => exact h.live (fun _ => h.microsecondTick reverse wake) ht
  | starvedSet => exact h.live (fun _ => h.setStarved.own (by simp)) ht
  | yieldExpiry => exact h.live (fun _ => h.clearYield.own (by simp)) ht
  | censusTimerExpiry => exact h.live (fun _ => h.censusExpiry.own (by simp)) ht
  | tableEntryExpiry station => exact h.live (fun _ => (h.entryExpiry station).own (by simp)) ht
  | silenceTimeout p => exact h.live (fun _ => (h.silenceTimeout p).own (by simp)) ht
  | messageTimeout tag => exact h.live (fun _ => h.messageTimeout tag) ht
  | reverseDebounced => exact h.live (fun _ => h.reverseDebounced.own (by simp)) ht
  | cameraDeadlineExpiry p => exact h.live (fun _ => h.output p _ (OutPort.keeps_deadlineExpiry _)) ht
  | inputFrameStart p => exact h.live (fun _ => ((h.silenceTimeout p).inputFrameStart p).own (by simp)) ht
  | activePixel p r g b => exact h.live (fun _ => ((h.silenceTimeout p).activePixel p r g b).own (by simp)) ht
  | inputLineEnd p => exact h.live (fun _ => ((h.silenceTimeout p).inputLineEnd p).own (by simp)) ht
  | outputFrameStart p =>
    refine h.live (fun _ => h.settled p _ (fun o => ?_)) ht
    split_ifs
    · exact o.keeps_frameStart _
    · exact .refl o
  | silentFramesLost p role => exact h.live (fun _ => h.output p _ (OutPort.keeps_silentLoss role)) ht
  | holdoverExpiry p => exact h.live (fun _ => h.output p _ OutPort.keeps_holdoverEnd) ht
  | addedLineEnd p => exact h.live (fun _ => h.settled p _ OutPort.keeps_addedLineEnd) ht
  | holdGiveUp p => exact h.live (fun _ => h.output p _ OutPort.keeps_holdGiveUp) ht
  | stretchLimit p => exact h.live (fun _ => h.output p _ OutPort.keeps_stretchEnd) ht
  | activeLineStart p => exact h.live (fun _ => h.settled p _ OutPort.keeps_activeLine) ht
  | portStop p => exact h.live (fun _ => h.output p _ OutPort.keeps_stop) ht
  | requestFrameDiscarded frame => exact h.live (fun _ => h.when _ h.discardFrame) ht
  | readFrame clocked => exact h.live (fun _ => h.when _ (h.readFrame clocked)) ht
  | unknownRequest kind args => exact h.live (fun _ => h.when _ (h.respond _ _)) ht
  | showStream args => exact h.live (fun _ => h.when _ (h.showStream args)) ht
  | inset args => exact h.live (fun _ => h.when _ (h.inset args)) ht
  | probe args => exact h.live (fun _ => h.when _ (h.probe args)) ht
  | send args => exact h.live (fun _ => h.when _ (h.send args)) ht
  | take args => exact h.live (fun _ => h.when _ (h.take args)) ht
  | result args => exact h.live (fun _ => h.when _ (h.result args)) ht
  | status args => exact h.live (fun _ => h.when _ (h.status args)) ht
  | attention args => exact h.live (fun _ => h.when _ (h.attention args)) ht
  | clear args => exact h.live (fun _ => h.when _ (h.clear args)) ht
  | camera args => exact h.live (fun _ => h.when _ (h.cameraRequest args)) ht
  | standby args => exact h.live (fun _ => h.when _ (h.standbyRequest args)) ht
  | wake args => exact h.live (fun _ => h.when _ (h.wakeRequest args)) ht
  | restart args => exact h.live (fun hrun => h.when _ (h.restartRequest args hrun)) ht

end Sound

/-- Settles O58: every step keeps the capacities, part by part of the state. -/
theorem boundedKept : Obligations.BoundedKept := by
  intro s t hs ht
  rw [State.bounded_iff] at hs ⊢
  unfold step at ht
  split at ht
  · cases ht; exact hs
  · rename_i c rest _
    have hrest : ({ s with pending := rest } : State).Sound := { hs with }
    exact hrest.exec c ht

end Sys2Proof.Machine
end

section
/-! PROOFS. What a full station makes of a foreign header, of a message's first payload word, and of the end of a line and of a
returned message (R9 to R11, R20 to R23, R26, R28, R32 to R34, R51, R102). -/

namespace Sys2Proof.Machine

/-! ### The header of a full station -/

/-- A sighting sets YIELD anew; a header with no foreign mark leaves the scheduler (R23, R51). -/
theorem State.sighted_sched {s : State} (h : Header) (hfull : s.node.state.full = true) : (s.sighted h).sched =
    if h.pressure ≠ 0 ∧ h.pressure ≠ ownMark s.node.station then { s.sched with yield := true, yieldTime := 500 }
    else s.sched := by
  have hsights : (s.node.state.full && sights s.node.station h.pressure) = true ↔
      h.pressure ≠ 0 ∧ h.pressure ≠ ownMark s.node.station := by simp [hfull, sights]
  unfold State.sighted
  by_cases hseen : h.pressure ≠ 0 ∧ h.pressure ≠ ownMark s.node.station
  · rw [if_pos (hsights.mpr hseen), if_pos hseen]; rfl
  · rw [if_neg (mt hsights.mp hseen), if_neg hseen]

/-- The sighting and the offer reach the scheduler, the ports and the attention set alone (R23, R28). -/
theorem State.offered_frame (s : State) (h : Header) (k : ParcelKind) :
    (s.offered h k).sched = (s.sighted h).sched ∧ (s.offered h k).view = s.view ∧ (s.offered h k).store = s.store ∧
      (s.offered h k).camera = s.camera ∧ (s.offered h k).tick = s.tick := by
  unfold State.offered
  rw [s.sighted_eq h]
  split_ifs <;> simp

/-- The words of the transit entry of a forwarded header, those held back with them, are the header's (R11, R32). -/
theorem transitEntry_words (h : Header) (hold cut : Bool) :
    (transitEntry h hold cut).words ++ (transitEntry h hold cut).heldBack.toList = [h.word0, h.word1, h.word2, h.word3] := by
  cases hold <;> rfl

theorem transitEntry_heldBack (h : Header) (hold cut : Bool) : (transitEntry h hold cut).heldBack.isSome = hold := by
  cases hold <;> rfl

theorem transitEntry_cut (h : Header) (hold cut : Bool) : (transitEntry h hold cut).cut = cut := by cases hold <;> rfl

theorem transitEntry_fin (h : Header) (hold cut : Bool) : (transitEntry h hold cut).fin = none := by cases hold <;> rfl

/-- The kind of a header and its code (12.6). -/
theorem Header.kind_eq_some_iff {h : Header} {k : ParcelKind} (hk : h.kind = some k) :
    (k = .line ↔ h.kindCode = 0) ∧ (k = .mark ↔ h.kindCode = 1) ∧ (k = .census ↔ h.kindCode = 2) ∧
      (k = .message ↔ h.kindCode = 3) := by
  unfold Header.kind at hk
  generalize h.kindCode = c at hk ⊢
  cases k <;> revert c <;> decide

/-- Settles O16: what a full station makes of a foreign header. -/
theorem fullStationForwards : Obligations.FullStationForwards := by
  intro s w0 w1 w2 w3 hrun hup hstage hgood hstate hsource hhop hfill h own p h'
  obtain ⟨k, hkind, hexec⟩ := exec_headerEvent_good hrun hup hstage hgood
  obtain ⟨hline, hmark, -, hmessage⟩ := Header.kind_eq_some_iff hkind
  have hfull : s.node.state.full = true := (NodeState.full_iff _).mpr hstate
  have hcourse : courseOf s.counted.node.station h = .forward := courseOf_forward hsource hhop
  have hrewrite : s.counted.rewrite h = h' := by rw [State.rewrite, State.counted_node, hfull]; rfl
  have hrep : (s.counted.reception h k).repeater = false := by
    change (!s.counted.node.state.full) = false
    rw [State.counted_node, hfull]; rfl
  have hroom : ¬ Config.transitWords < fillOf s.counted.link.transit + 4 := by
    simpa [Config.transitWords] using hfill
  have hstandby : s.node.state = .standby → s.counted.node.state.offers = false := fun hs => by
    rw [State.counted_node, hs]; rfl
  obtain ⟨hsched, hview, hstore, hcamera, htick⟩ := s.counted.offered_frame h k
  rw [State.decideHeader_eq, if_pos hcourse, if_neg hroom, hrewrite, hrep, Bool.not_false, Bool.and_true] at hexec
  refine ⟨_, s.counted.reception h k, transitEntry h' (k == .message) s.counted.cutsThrough, hexec, ?_, rfl, hcourse, hrep,
    rfl, transitEntry_words _ _ _, ?_, transitEntry_fin _ _ _, ?_, ?_, ?_, hview, ?_, hstore, hcamera, htick,
    fun hn => ⟨?_, ?_⟩, fun hn => ?_⟩
  · rw [State.toStage, State.offered_link]; rfl
  · rw [transitEntry_heldBack, beq_iff_eq]; exact hmessage
  · rw [transitEntry_cut]; exact s.counted.cutsThrough_iff
  · exact hsched.trans (s.counted.sighted_sched h hfull)
  · exact s.counted.offered_node h k
  · exact s.counted.offered_svc h k
  · exact State.reception_lineTo_nil (.inr (hn.imp hstandby (mt hline.mp)))
  · have hoffered : s.counted.offered h k = s.counted.sighted h := State.offered_none (by
      rintro ⟨-, ho, hk⟩
      exact hn.elim (fun hs => by rw [hstandby hs] at ho; cases ho) (· (hline.mp hk)))
    rw [State.toStage, hoffered, State.sighted_eq]
    exact ⟨rfl, rfl, rfl⟩
  · exact State.reception_markTo_nil (.inr (hn.imp hstandby (mt hmark.mp)))

/-! ### The decision on a message -/

/-- A defined kind code is that of its kind (12.6). -/
theorem MessageKind.ofCode_some {c : Nat} (hc : c ≤ 3) : ∃ k, MessageKind.ofCode c = some k ∧ k.code.toNat = c := by
  match c with
  | 0 => exact ⟨.user, rfl, rfl⟩
  | 1 => exact ⟨.cameraOn, rfl, rfl⟩
  | 2 => exact ⟨.cameraOff, rfl, rfl⟩
  | 3 => exact ⟨.wake, rfl, rfl⟩

section Decision

variable (station source : StationNo) (room : Bool) (f : Byte) {w : Word}

/-- A broadcast is decided as R34 says. -/
theorem decideMessage_eq_broadcast (hk : messageKindCode w ≤ 3) (ht : messageTarget w = 31) :
    ∃ k : MessageKind, k.code.toNat = messageKindCode w ∧
      decideMessage station source room f w = decideBroadcast room f (reservedEntry source k w true) := by
  obtain ⟨k, hof, hcode⟩ := MessageKind.ofCode_some hk
  refine ⟨k, hcode, ?_⟩
  unfold decideMessage
  rw [hof]; dsimp only
  rw [if_pos (show messageTarget w = broadcastTarget from ht)]

/-- A unicast addressed here is decided as R33 says. -/
theorem decideMessage_eq_unicast (hk : messageKindCode w ≤ 3) (ht : messageTarget w = station.toNat) :
    ∃ k : MessageKind, k.code.toNat = messageKindCode w ∧
      decideMessage station source room f w = decideUnicast room f (reservedEntry source k w false) := by
  obtain ⟨k, hof, hcode⟩ := MessageKind.ofCode_some hk
  have hown : messageTarget w ≠ broadcastTarget := by have := station.isLt; rw [ht, broadcastTarget]; omega
  refine ⟨k, hcode, ?_⟩
  unfold decideMessage
  rw [hof]; dsimp only
  rw [if_neg hown, if_pos ht]

/-- Any other message is not for this station (R32). -/
theorem decideMessage_eq_passed (hunicast : ¬ (messageKindCode w ≤ 3 ∧ messageTarget w = station.toNat))
    (hbroadcast : ¬ (messageKindCode w ≤ 3 ∧ messageTarget w = 31)) :
    decideMessage station source room f w = { flags := f, addressed := false, entry := none } := by
  by_cases hk : messageKindCode w ≤ 3
  · obtain ⟨k, hof, -⟩ := MessageKind.ofCode_some hk
    unfold decideMessage
    rw [hof]; dsimp only
    rw [if_neg (fun ht : messageTarget w = broadcastTarget => hbroadcast ⟨hk, ht⟩), if_neg (fun ht => hunicast ⟨hk, ht⟩)]
  · unfold decideMessage
    rw [(MessageKind.ofCode_none_iff _).mpr hk]

end Decision

/-- A word joins the entry whose held header word has been released before it (R12, R32). -/
theorem TransitEntry.join_release (v w : Word) (e : TransitEntry) : (e.release v).join w =
    { e with words := e.words ++ (if e.heldBack.isSome then [v] else []) ++ [w], heldBack := none } := by
  obtain ⟨words, heldBack, fin, cut⟩ := e
  cases heldBack <;> simp [TransitEntry.release, TransitEntry.join]

/-- The reception once the message has been decided at its first payload word (R9, R32). -/
def Reception.decided (r : Reception) (d : Decision) (w : Word) : Reception :=
  Reception.count
    { r with fwd := Header.sealed { r.fwd with flags := d.flags }, addressed := d.addressed, reserved := d.entry.isSome } w

theorem Reception.decided_fwd (r : Reception) (d : Decision) (w : Word) :
    (r.decided d w).fwd = Header.sealed { r.fwd with flags := d.flags } := by
  unfold Reception.decided Reception.count; split_ifs <;> rfl

theorem Reception.decided_addressed (r : Reception) (d : Decision) (w : Word) : (r.decided d w).addressed = d.addressed := by
  unfold Reception.decided Reception.count; split_ifs <;> rfl

theorem Reception.decided_reserved (r : Reception) (d : Decision) (w : Word) :
    (r.decided d w).reserved = d.entry.isSome := by
  unfold Reception.decided Reception.count; split_ifs <;> rfl

/-- The first payload word of a message: it is decided, and its word joins the entry behind the released header word
(R12, R32). -/
theorem State.bodyWord_first {s : State} {r : Reception} (w : Word) (hc : r.course = .forward) (hr : r.repeater = false)
    (hk : r.kind = .message) (hgot : r.got = 0) (hroom : fillOf s.link.transit < 4096) :
    let d := decideMessage s.node.station r.hdr.source s.inboxRoom r.fwd.flags w
    s.bodyWord r w = { s with
      link := { s.link with
        stage := .body (r.decided d w)
        transit := mapNewest (fun e => (e.release (r.decided d w).fwd.word3).join w) s.link.transit }
      svc := { s.svc with inbox := s.svc.inbox ++ d.entry.toList } } := by
  intro d
  have hfull : ¬ (r.course = .forward ∧ Config.transitWords ≤ fillOf s.link.transit) := fun hn =>
    absurd hn.2 (Nat.not_le.mpr hroom)
  have htake : s.bodyWord r w = (s.decideFirst r w).1.takeWord (s.decideFirst r w).2 w := by
    simp only [State.bodyWord, if_neg (show ¬ r.hdr.len.toNat + 1 ≤ r.got by omega), State.maybeDecide,
      if_pos (Reception.decides_true hc hr hk hgot), if_neg hfull]
  have hplain : ¬ ((s.decideFirst r w).2.kind = .line ∧ (s.decideFirst r w).2.got < (s.decideFirst r w).2.hdr.len.toNat) :=
    fun hn => by
      have hline : r.kind = .line := hn.1
      rw [hk] at hline; cases hline
  have hforward : (s.decideFirst r w).2.course = .forward := hc
  rw [htake, State.takeWord_plain hplain, State.joined, if_pos hforward, State.decideFirst_state, Reception.decided_fwd,
    State.onNewest, State.toStage, State.onNewest]
  simp only [mapNewest_mapNewest]
  rfl

/-- Settles O21: the decision at the first payload word of a message. -/
theorem messageDecided : Obligations.MessageDecided := by
  intro s r w hrun hup hstage hcourse hrep hkind hgot hlen hroom raised
  have hbody := State.bodyWord_first (s := s.counted) w hcourse hrep hkind hgot hroom
  have hspace : s.counted.inboxRoom = decide (s.svc.inbox.length < 8) := rfl
  have hstation : s.counted.node.station = s.node.station := rfl
  rw [hspace, hstation] at hbody
  generalize hd : decideMessage s.node.station r.hdr.source (decide (s.svc.inbox.length < 8)) r.fwd.flags w = d at hbody
  dsimp only at hbody
  refine ⟨_, r.decided d w, (exec_payloadWord w hrun hup hstage).trans (congrArg _ hbody), rfl, ?_, ?_, ?_⟩
  · exact congrArg (mapNewest · s.link.transit) (funext (TransitEntry.join_release _ w))
  · rw [Reception.decided_fwd]; rfl
  · have hflags : (r.decided d w).fwd.flags = d.flags := by rw [Reception.decided_fwd]; rfl
    rw [hflags, Reception.decided_addressed, Reception.decided_reserved]
    have hnone : ∀ b : Service, { b with inbox := b.inbox ++ ([] : List InMessage) } = b := fun b => by simp
    by_cases hunicast : messageKindCode w ≤ 3 ∧ messageTarget w = s.node.station.toNat
    · obtain ⟨k, hcode, he⟩ := decideMessage_eq_unicast s.node.station r.hdr.source (decide (s.svc.inbox.length < 8))
        r.fwd.flags hunicast.1 hunicast.2
      rw [if_pos hunicast, ← hd, he, decideUnicast]
      simp only [takenFlag, refusedFlag, Bool.or_eq_true, decide_eq_true_eq]
      split_ifs
      · exact ⟨rfl, rfl, hnone _⟩
      · exact ⟨rfl, rfl, rfl, _, rfl, rfl, rfl, hcode, rfl, rfl, rfl⟩
      · exact ⟨rfl, rfl, rfl, hnone _⟩
    · rw [if_neg hunicast]
      by_cases hbroadcast : messageKindCode w ≤ 3 ∧ messageTarget w = 31
      · obtain ⟨k, hcode, he⟩ := decideMessage_eq_broadcast s.node.station r.hdr.source (decide (s.svc.inbox.length < 8))
          r.fwd.flags hbroadcast.1 hbroadcast.2
        rw [if_pos hbroadcast, ← hd, he, decideBroadcast]
        simp only [decide_eq_true_eq]
        split_ifs
        · rw [flagCounts_append]
          exact ⟨rfl, raiseCount_eq _, rfl, rfl, _, rfl, rfl, rfl, hcode, rfl, rfl, rfl⟩
        · rw [flagCounts_append]
          exact ⟨rfl, rfl, raiseCount_eq _, rfl, hnone _⟩
      · rw [if_neg hbroadcast, ← hd, decideMessage_eq_passed _ _ _ _ hunicast hbroadcast]
        exact ⟨rfl, rfl, rfl, hnone _⟩

/-! ### The end symbol at the Parcel Filter -/

/-- The parcel in reception ends good at this symbol (R9). -/
def Reception.goodAt (r : Reception) (e : EndSymbol) : Bool := e == .eop && r.endsGood

/-- The state in which the Parcel Filter finds the end of a parcel: the receiver outside, a payload error counted and the end
recorded for transit (R9, R10). -/
def State.atEnd (s : State) (r : Reception) (e : EndSymbol) : State :=
  { s with link := { s.link.countUnit with
      stage := .outside
      payErr := if e = .eop ∧ r.goodAt e = false then holdInc s.link.payErr else s.link.payErr
      transit :=
        if r.course = .forward then mapNewest (TransitEntry.close (r.goodAt e)) s.link.transit else s.link.transit } }

@[simp] theorem State.atEnd_node (s : State) (r : Reception) (e : EndSymbol) : (s.atEnd r e).node = s.node := rfl
@[simp] theorem State.atEnd_tick (s : State) (r : Reception) (e : EndSymbol) : (s.atEnd r e).tick = s.tick := rfl
@[simp] theorem State.atEnd_sched (s : State) (r : Reception) (e : EndSymbol) : (s.atEnd r e).sched = s.sched := rfl
@[simp] theorem State.atEnd_view (s : State) (r : Reception) (e : EndSymbol) : (s.atEnd r e).view = s.view := rfl
@[simp] theorem State.atEnd_store (s : State) (r : Reception) (e : EndSymbol) : (s.atEnd r e).store = s.store := rfl
@[simp] theorem State.atEnd_portA (s : State) (r : Reception) (e : EndSymbol) : (s.atEnd r e).portA = s.portA := rfl
@[simp] theorem State.atEnd_portB (s : State) (r : Reception) (e : EndSymbol) : (s.atEnd r e).portB = s.portB := rfl
@[simp] theorem State.atEnd_att (s : State) (r : Reception) (e : EndSymbol) : (s.atEnd r e).att = s.att := rfl
@[simp] theorem State.atEnd_svc (s : State) (r : Reception) (e : EndSymbol) : (s.atEnd r e).svc = s.svc := rfl
@[simp] theorem State.atEnd_camera (s : State) (r : Reception) (e : EndSymbol) : (s.atEnd r e).camera = s.camera := rfl
@[simp] theorem State.atEnd_tx (s : State) (r : Reception) (e : EndSymbol) : (s.atEnd r e).link.tx = s.link.tx := rfl
@[simp] theorem State.atEnd_port (s : State) (r : Reception) (e : EndSymbol) (p : PortId) :
    (s.atEnd r e).port p = s.port p := by
  cases p <;> rfl
@[simp] theorem State.atEnd_isPending (s : State) (r : Reception) (e : EndSymbol) (c : Cause) :
    (s.atEnd r e).isPending c = s.isPending c := rfl

/-- An end symbol after the header brings the Parcel Filter the end of the parcel (R9, R10). -/
theorem exec_endEvent {s : State} {r : Reception} (e : EndSymbol) (hrun : s.running) (hup : s.link.state = .up)
    (hstage : s.link.stage = .body r) : exec (.endEvent e) s = .next ((s.atEnd r e).filterEnd r (r.goodAt e)) := by
  have hexec : exec (.endEvent e) s = .next (s.counted.bodyEnd r e) := by
    change live (fun s => s.endEvent e) s = _
    rw [live_running _ _ hrun, State.endEvent, hstage]
    exact congrArg _ (s.unitUp_up _ hup)
  rw [hexec, State.bodyEnd_eq, State.endParcel]
  unfold State.atEnd Reception.goodAt
  split_ifs <;> rfl

theorem Reception.goodAt_eop {r : Reception} (hgood : r.endsGood = true) : r.goodAt .eop = true := by
  simp [Reception.goodAt, hgood]

/-- The state in which the Parcel Filter finds the good end of a forwarded parcel (R10). -/
theorem State.atEnd_good_forward {s : State} {r : Reception} (hgood : r.endsGood = true) (hc : r.course = .forward) :
    s.atEnd r .eop = { s with link := { s.link.countUnit with
      stage := .outside, transit := mapNewest (TransitEntry.close true) s.link.transit } } := by
  unfold State.atEnd
  rw [Reception.goodAt_eop hgood, if_pos hc, if_neg (by simp)]
  rfl

/-- The state in which the Parcel Filter finds the good end of a stripped parcel. -/
theorem State.atEnd_good_strip {s : State} {r : Reception} (hgood : r.endsGood = true) (hc : r.course = .strip) :
    s.atEnd r .eop = { s with link := { s.link.countUnit with stage := .outside } } := by
  unfold State.atEnd
  rw [Reception.goodAt_eop hgood, if_neg (show ¬ r.course = .forward by simp [hc]), if_neg (by simp)]
  rfl

/-! ### The end of a line, and of a returned message -/

/-- Settles O23: the end of a line at the sink records. -/
theorem lineEndReachesSink : Obligations.LineEndReachesSink := by
  intro s r e hrun hup hstage hcourse hrep hkind hnodup good ended
  have hgood : r.goodAt e = good := (Bool.and_assoc _ _ _).symm
  have hended : Sink.finish good = ended := by
    funext k
    cases hg : good with
    | true => simp [Sink.finish, ended, hg]
    | false => rw [Sink.finish_bad]; simp [Sink.withdrawn, ended, hg]
  have hfilter : (s.atEnd r e).filterEnd r (r.goodAt e) = (s.atEnd r e).finishLine r.lineTo good := by
    rw [hgood, State.filterEnd, hcourse, hrep, hkind]
  refine ⟨_, (exec_endEvent e hrun hup hstage).trans (congrArg _ hfilter), fun p => ?_, State.finishLine_att _ _ _,
    State.finishLine_sched _ _ _, State.finishLine_view _ _ _, State.finishLine_svc _ _ _, State.finishLine_store _ _ _⟩
  rw [State.finishLine_port _ _ _ _ hnodup, State.atEnd_port, hended]
  exact Port.mapNamed_spec _ _ _ _

/-- Settles O28: the outcome of a returned own message. -/
theorem returnGivesOutcome : Obligations.ReturnGivesOutcome := by
  intro s r w rest e m hrun hup hstage hcourse hrep hkind hpayload hflight good
  have hfilter : (s.atEnd r e).filterEnd r (r.goodAt e) =
      (s.atEnd r e).giveResult (returnResult m.tag good (messageTarget w == broadcastTarget) r.hdr.flags) := by
    have hfound : inFlight (s.atEnd r e).svc.outbox (messageTag w) = some m := hflight
    rw [State.filterEnd, hcourse, hrep, hkind]; dsimp only
    unfold State.returnReport
    rw [hpayload]; dsimp only
    rw [hfound]; rfl
  refine ⟨_, _, (exec_endEvent e hrun hup hstage).trans (congrArg _ hfilter), rfl, State.isPending_raise _ _, rfl, ?_, ?_,
    rfl, rfl, rfl⟩
  · simp [returnResult, returnOutcome, broadcastTarget, takenFlag, refusedFlag]
  · simp [returnResult, broadcastTarget]

end Sys2Proof.Machine
end

section
/-! PROOFS. The causes that the work on an output port can raise, and the end of a message at its inbox entry, at Camera Priority
and at the node (R35, R152, R172, R179, R182). -/

namespace Sys2Proof.Machine

/-! ### What becomes pending -/

/-- A set of causes without this one leaves it as it was (R172). -/
theorem State.isPending_raise_without {s : State} {m : Half} {c : Cause} (h : m &&& c.bit = 0#16) :
    (s.raise m).isPending c = s.isPending c := by
  have hand : (s.att.pending ||| m) &&& c.bit = s.att.pending &&& c.bit := by
    rw [BitVec.and_or_distrib_right, h, BitVec.or_zero]
  simp [State.isPending, hand]

theorem State.isPending_raise_ne {s : State} {c c' : Cause} (h : c' ≠ c) : (s.raise c'.bit).isPending c = s.isPending c :=
  State.isPending_raise_without (by revert h; cases c <;> cases c' <;> decide)

/-- A cause raised under a condition is pending afterwards where it was or where the condition holds (R172). -/
theorem State.isPending_raise_when (s : State) (c : Cause) (b : Bool) :
    (s.raise (c.when b)).isPending c = (s.isPending c || b) := by
  cases b with
  | true => rw [Bool.or_true]; exact s.isPending_raise c
  | false => rw [Bool.or_false]; exact congrArg (State.isPending · c) s.raise_noCause

/-! ### The causes of an output port -/

/-- The causes that a loss of source, the Frame Lock and the camera state of an output port raise. -/
def lockAndSourceCauses : Half := Cause.cameraLate.bit ||| Cause.sourceLost.bit ||| Cause.lockLost.bit ||| Cause.lockAcquired.bit

/-- A set of causes that holds no others. -/
def OfLockAndSource (m : Half) : Prop := m &&& ~~~lockAndSourceCauses = 0#16

theorem OfLockAndSource.or {m n : Half} (hm : OfLockAndSource m) (hn : OfLockAndSource n) : OfLockAndSource (m ||| n) := by
  unfold OfLockAndSource at *
  rw [BitVec.and_or_distrib_right, hm, hn, BitVec.or_zero]

theorem OfLockAndSource.none : OfLockAndSource noCause := by unfold OfLockAndSource; decide
theorem OfLockAndSource.cameraLate : OfLockAndSource Cause.cameraLate.bit := by unfold OfLockAndSource; decide
theorem OfLockAndSource.sourceLost : OfLockAndSource Cause.sourceLost.bit := by unfold OfLockAndSource; decide
theorem OfLockAndSource.lockLost : OfLockAndSource Cause.lockLost.bit := by unfold OfLockAndSource; decide
theorem OfLockAndSource.lockAcquired : OfLockAndSource Cause.lockAcquired.bit := by unfold OfLockAndSource; decide

theorem OfLockAndSource.without {m : Half} (hm : OfLockAndSource m) {c : Cause} (hc : lockAndSourceCauses &&& c.bit = 0#16) :
    m &&& c.bit = 0#16 := by
  have hbit : c.bit = ~~~lockAndSourceCauses &&& c.bit := by
    revert hc; cases c <;> decide
  rw [hbit, ← BitVec.and_assoc, hm, BitVec.zero_and]

theorem FrameLock.judge_causes (c : OutCfg) (e : Int) (l : FrameLock) : OfLockAndSource (l.judge c e).2 := by
  unfold FrameLock.judge
  split_ifs
  · exact .none
  · exact .lockLost
  · exact .none
  · exact .lockAcquired
  · exact .none
  · exact .none

theorem OutPort.compute_causes (lead : Nat) (o : OutPort) : OfLockAndSource (o.compute lead).2 := FrameLock.judge_causes _ _ _

theorem OutPort.cameraGone_causes (b : Bool) (o : OutPort) : OfLockAndSource (o.cameraGone b).2 := by
  unfold OutPort.cameraGone
  split_ifs
  · exact .cameraLate
  · exact .none

theorem OutPort.loseSource_causes (role : Role) (o : OutPort) : OfLockAndSource (o.loseSource role).2 := by
  cases role <;> exact (OutPort.cameraGone_causes _ _).or .sourceLost

theorem OutPort.silentLoss_causes (role : Role) (o : OutPort) : OfLockAndSource (o.silentLoss role).2 := by
  unfold OutPort.silentLoss
  split
  · exact .none
  · split_ifs
    · exact o.loseSource_causes role
    · exact .none

theorem OutPort.holdoverEnd_causes (o : OutPort) : OfLockAndSource o.holdoverEnd.2 := by
  unfold OutPort.holdoverEnd; split_ifs <;> exact .none

theorem OutPort.holdGiveUp_causes (o : OutPort) : OfLockAndSource o.holdGiveUp.2 := by
  unfold OutPort.holdGiveUp; split_ifs <;> exact .none

theorem OutPort.stretchEnd_causes (o : OutPort) : OfLockAndSource o.stretchEnd.2 := by
  unfold OutPort.stretchEnd
  split_ifs
  · exact OutPort.compute_causes _ _
  · exact .none

/-- What was due on a port raises causes of its lock, its sources and its camera state alone (log 2). -/
theorem OutPort.settle_causes (o : OutPort) : OfLockAndSource o.settle.2 :=
  ((((OutPort.silentLoss_causes _ _).or (OutPort.silentLoss_causes _ _)).or (OutPort.holdoverEnd_causes _)).or
    (OutPort.holdGiveUp_causes _)).or (OutPort.stretchEnd_causes _)

theorem OutPort.dueFirst_causes {f : OutPort → OutPort × Half} (hf : ∀ o, OfLockAndSource (f o).2) (o : OutPort) :
    OfLockAndSource (o.dueFirst f).2 :=
  o.settle_causes.or (hf _)

theorem OutPort.consult_causes (o : OutPort) : OfLockAndSource o.consult.2 := by
  unfold OutPort.consult
  cases o.lock.state with
  | free => exact .none
  | holdover => exact .none
  | acquire =>
    dsimp only; split_ifs
    · exact OutPort.compute_causes _ _
    · exact .none
  | track =>
    dsimp only; split_ifs
    · exact .none
    · exact .none
    · exact OutPort.compute_causes _ _

theorem OutPort.wake_causes (t : List TableEntry) (o : OutPort) : OfLockAndSource (o.wake t).2 := by
  unfold OutPort.wake; dsimp only
  split_ifs
  · exact OutPort.consult_causes _
  · exact .none

theorem OutPort.engage_causes (t : List TableEntry) (now : Word) (o : OutPort) : OfLockAndSource (o.engage t now).2 := by
  unfold OutPort.engage
  split_ifs
  · refine OutPort.dueFirst_causes (fun o => ?_) o
    unfold OutPort.engageMode
    split <;> exact .none
  · exact .none

theorem OutPort.release_causes (o : OutPort) : OfLockAndSource o.release.2 := by
  unfold OutPort.release
  split_ifs
  · refine OutPort.dueFirst_causes (fun o => ?_) o
    unfold OutPort.releaseMode
    split
    · split_ifs <;> exact .none
    · split_ifs <;> exact .none
    · exact .none
    · exact .none
    · exact .none
  · exact .none

/-! ### MESSAGE_IN through the events of the node and of Camera Priority -/

theorem State.onOut_isPending {s : State} (p : PortId) {f : OutPort → OutPort × Half} (hf : ∀ o, OfLockAndSource (f o).2)
    {c : Cause} (hc : lockAndSourceCauses &&& c.bit = 0#16) : (s.onOut p f).isPending c = s.isPending c := by
  unfold State.onOut
  split
  · rw [State.isPending_raise_without ((hf _).without hc), State.isPending, State.setPort_att]; rfl
  · rfl
  · rfl

theorem State.onOuts_isPending {s : State} {f : OutPort → OutPort × Half} (hf : ∀ o, OfLockAndSource (f o).2)
    {c : Cause} (hc : lockAndSourceCauses &&& c.bit = 0#16) : (s.onOuts f).isPending c = s.isPending c :=
  (State.onOut_isPending .b hf hc).trans (State.onOut_isPending .a hf hc)

section Unraised

variable (s : State)

theorem State.takeEntry_messageIn : s.takeEntry.isPending .messageIn = s.isPending .messageIn := by
  have hmute : s.enterMute.isPending .messageIn = s.isPending .messageIn := by rw [State.isPending, State.enterMute_att]; rfl
  unfold State.takeEntry State.enterStandby
  split_ifs
  · dsimp only
    rw [State.onOuts_isPending (OutPort.dueFirst_causes (fun _ => .none)) (by decide), ← hmute, State.isPending,
      State.enterState_att]
    rfl
  · exact hmute

theorem State.wakeNode_messageIn : s.wakeNode.isPending .messageIn = s.isPending .messageIn := by
  unfold State.wakeNode
  split_ifs
  · dsimp only
    rw [State.onOuts_isPending (OutPort.wake_causes _) (by decide), State.isPending, State.settleStreams_att]; rfl
  · rfl

theorem State.engage_messageIn : s.engage.isPending .messageIn = s.isPending .messageIn := by
  unfold State.engage
  split_ifs
  · dsimp only
    rw [State.isPending_raise_ne (by decide), State.isPending, State.recomputeDemand_att]
    refine (State.onOuts_isPending (OutPort.engage_causes _ _) (by decide)).trans ?_
    rw [State.isPending, State.dropStandby_att]
    exact s.takeEntry.wakeNode_messageIn.trans s.takeEntry_messageIn
  · rfl

theorem State.release_messageIn : s.release.isPending .messageIn = s.isPending .messageIn := by
  unfold State.release
  split_ifs
  · rw [State.isPending_raise_ne (by decide), State.isPending, State.recomputeDemand_att]
    exact State.onOuts_isPending OutPort.release_causes (by decide)
  · rfl

theorem State.setSources_messageIn (c : CameraControl) : (s.setSources c).isPending .messageIn = s.isPending .messageIn := by
  unfold State.setSources; dsimp only
  split_ifs
  · exact State.engage_messageIn _
  · exact State.release_messageIn _
  · rfl

/-- The action of a message raises no MESSAGE_IN (R35). -/
theorem State.messageAction_messageIn (k : Option MessageKind) :
    (s.messageAction k).isPending .messageIn = s.isPending .messageIn := by
  unfold State.messageAction
  split
  · exact s.setSources_messageIn _
  · exact s.setSources_messageIn _
  · exact s.wakeNode_messageIn
  · rfl
  · rfl

end Unraised

/-! ### Camera Priority's sources and the wake -/

/-- New sources that bring no engage or release event change nothing else (R152). -/
theorem State.setSources_same {s : State} {c : CameraControl} (h : s.camera.engaged = c.engaged ∨ s.hasCamera = false) :
    s.setSources c = { s with camera := c } := by
  unfold State.setSources; dsimp only
  rcases h with h | h
  · rw [h]; cases c.engaged <;> rfl
  · have hno : ({ s with camera := c } : State).hasCamera = false := h
    rw [State.engage, State.release, hno]
    simp

@[simp] theorem State.setSources_camera (s : State) (c : CameraControl) : (s.setSources c).camera = c := by
  unfold State.setSources; dsimp only; split_ifs <;> simp

/-- An engage or release event of a station with a camera-mode port raises CAMERA_CHANGE (R152). -/
theorem State.setSources_cameraChange {s : State} {c : CameraControl} (h : s.camera.engaged ≠ c.engaged)
    (hcam : s.hasCamera = true) : (s.setSources c).isPending .cameraChange = true := by
  have hyes : ({ s with camera := c } : State).hasCamera = true := hcam
  unfold State.setSources State.engage State.release; dsimp only
  rw [hyes]
  cases hs : s.camera.engaged <;> cases hc : c.engaged <;> simp_all [State.isPending_raise]

theorem State.wakeNode_awake {s : State} (h : s.node.state ≠ .standby) : s.wakeNode = s := if_neg h

/-- A wake from STANDBY (R67, R179): the state it leads to, the credit full and the mute-pending flag clear. -/
theorem State.wakeNode_standby {s : State} (h : s.node.state = .standby) :
    s.wakeNode.node.state = (if s.view.mutePending then .mute else .run) ∧ s.wakeNode.sched.credit = s.cap ∧
      s.wakeNode.view.mutePending = false := by
  unfold State.wakeNode
  rw [if_pos h]; dsimp only
  rw [State.onOuts_node, State.onOuts_sched, State.onOuts_view, State.settleStreams_node, State.settleStreams_view]
  obtain ⟨-, -, -, hcredit, -⟩ := State.settleStreams_sched
    { s with node := { s.node with state := s.wakeState, wakeFound := false }, sched := { s.sched with credit := s.cap }
             view := { s.view with mutePending := false } }
  exact ⟨rfl, hcredit, rfl⟩

/-! ### The end of a message -/

theorem State.completeEntry_svc (s : State) (user : List Word) : (s.completeEntry user).svc = { s.svc with
    inbox := s.svc.inbox.map (fun e => if e.complete then e else { e with complete := true, words := user }) } := rfl

theorem State.withdraw_svc (s : State) :
    s.withdraw.svc = { s.svc with inbox := s.svc.inbox.filter InMessage.complete } := rfl

/-- The action of a message at its good end, where it was addressed here (R35). -/
def State.actedOn (s : State) (addressed : Bool) (payload : List Word) : State :=
  if addressed then s.messageAction (MessageKind.ofCode (messageKindCode (payload.headD 0))) else s

/-- The entry of a message, where it holds one, is completed (R35). -/
def State.received (s : State) (reserved : Bool) (payload : List Word) : State :=
  if reserved then s.completeEntry (payload.drop 2) else s

/-- The completion of an entry reaches the inbox and the attention set alone. -/
theorem State.received_frame (s : State) (v : Bool) (ws : List Word) :
    (s.received v ws).node = s.node ∧ (s.received v ws).sched = s.sched ∧ (s.received v ws).view = s.view ∧
      (s.received v ws).camera = s.camera ∧ (s.received v ws).portA = s.portA ∧ (s.received v ws).portB = s.portB := by
  unfold State.received; split_ifs <;> exact ⟨rfl, rfl, rfl, rfl, rfl, rfl⟩

/-- The end of a message: its entry completed and its action taken, or its entry withdrawn (R35, R182). -/
theorem State.messageEnd_eq (s : State) (payload : List Word) (addressed reserved good : Bool) :
    s.messageEnd payload addressed reserved good =
      if (good && (!reserved || userCountFits payload)) = true then
        (s.received reserved payload).actedOn addressed payload
      else if reserved then s.withdraw
      else s := by
  unfold State.messageEnd State.actedOn State.received
  cases reserved <;> simp

theorem State.actedOn_svc (s : State) (a : Bool) (ws : List Word) : (s.actedOn a ws).svc = s.svc := by
  unfold State.actedOn; split_ifs <;> simp

theorem State.actedOn_messageIn (s : State) (a : Bool) (ws : List Word) :
    (s.actedOn a ws).isPending .messageIn = s.isPending .messageIn := by
  unfold State.actedOn
  split_ifs
  · exact s.messageAction_messageIn _
  · rfl

/-- A message not addressed here, a USER message and one of an undefined kind bring no action (R35). -/
theorem State.actedOn_idle {s : State} {a : Bool} {ws : List Word}
    (h : a = false ∨ messageKindCode (ws.headD 0) = 0 ∨ 3 < messageKindCode (ws.headD 0)) : s.actedOn a ws = s := by
  unfold State.actedOn
  rcases h with h | h | h
  · rw [h]; rfl
  · rw [h]; split_ifs <;> rfl
  · rw [(MessageKind.ofCode_none_iff _).mpr (by omega)]; split_ifs <;> rfl

/-- CAMERA_ON and CAMERA_OFF (R35). -/
theorem State.actedOn_camera {s : State} {ws : List Word}
    (h : messageKindCode (ws.headD 0) = 1 ∨ messageKindCode (ws.headD 0) = 2) :
    s.actedOn true ws = s.setSources { s.camera with ringLatch := messageKindCode (ws.headD 0) == 1 } := by
  rcases h with h | h <;> rw [State.actedOn, if_pos rfl, h] <;> rfl

/-- WAKE (R35, R179). -/
theorem State.actedOn_wake {s : State} {ws : List Word} (h : messageKindCode (ws.headD 0) = 3) :
    s.actedOn true ws = s.wakeNode := by
  rw [State.actedOn, if_pos rfl, h]; rfl

/-- The entry that a message holds is completed (R35). -/
theorem inbox_completed {ready : List InMessage} {x : InMessage} (user : List Word)
    (hready : ∀ y ∈ ready, y.complete = true) (hx : x.complete = false) :
    (ready ++ [x]).map (fun e => if e.complete then e else { e with complete := true, words := user }) =
      ready ++ [{ x with complete := true, words := user }] := by
  have hkept : ready.map (fun e => if e.complete then e else { e with complete := true, words := user }) = ready :=
    (List.map_congr_left (fun y hy => if_pos (hready y hy))).trans (List.map_id' _)
  rw [List.map_append, hkept]
  simp [hx]

/-- The entry that a message holds is withdrawn (R35). -/
theorem inbox_withdrawn_last {ready : List InMessage} {x : InMessage} (hready : ∀ y ∈ ready, y.complete = true)
    (hx : x.complete = false) : (ready ++ [x]).filter InMessage.complete = ready := by
  simp [hx, List.filter_eq_self.mpr hready]

/-- Settles O29: the end of a message at its entry and its action. -/
theorem inboxEntryEnds : Obligations.InboxEntryEnds := by
  intro s r e hrun hup hstage hcourse hrep hkind kind fits good
  have hgood : (r.goodAt e && (!r.reserved || userCountFits r.payload)) = good := rfl
  have hfilter : (s.atEnd r e).filterEnd r (r.goodAt e) =
      (s.atEnd r e).messageEnd r.payload r.addressed r.reserved (r.goodAt e) := by
    rw [State.filterEnd, hcourse, hrep, hkind]
  rw [State.messageEnd_eq, hgood] at hfilter
  obtain ⟨hnode, hsched, hview, hcamera, hportA, hportB⟩ := (s.atEnd r e).received_frame r.reserved r.payload
  refine ⟨_, (exec_endEvent e hrun hup hstage).trans (congrArg _ hfilter), fun hres => ?_, fun ready x hres hbox hready hx => ?_,
    fun hidle => ?_, fun hg haddr hk => ?_, fun hg haddr hk => ?_⟩
  · simp only [State.received, hres, Bool.false_eq_true, if_false]
    split_ifs
    · exact ⟨State.actedOn_svc _ _ _, State.actedOn_messageIn _ _ _⟩
    · exact ⟨rfl, rfl⟩
  · simp only [State.received, hres, if_true]
    cases good with
    | true =>
      rw [if_pos rfl, State.actedOn_svc, State.actedOn_messageIn, Bool.or_true]
      refine ⟨?_, State.isPending_raise _ _⟩
      rw [State.completeEntry_svc, State.atEnd_svc, hbox, inbox_completed _ hready hx, if_pos rfl]
    | false =>
      rw [if_neg (by decide), Bool.or_false]
      refine ⟨?_, rfl⟩
      rw [State.withdraw_svc, State.atEnd_svc, hbox, inbox_withdrawn_last hready hx, if_neg (by decide)]
  · by_cases hg : good = true
    · rw [if_pos hg, State.actedOn_idle (hidle.resolve_left (by simp [hg]))]
      exact ⟨hnode, hsched, hview, hcamera, hportA, hportB⟩
    · rw [if_neg hg]
      split_ifs <;> exact ⟨rfl, rfl, rfl, rfl, rfl, rfl⟩
  · intro c
    have hport : ((s.atEnd r e).received r.reserved r.payload).hasCamera = s.hasCamera := by
      rw [State.hasCamera, hportA, hportB]; rfl
    rw [if_pos hg, haddr, State.actedOn_camera hk, hcamera]
    refine ⟨State.setSources_camera _ _, fun hsame => ?_, fun hmoved hcam => ?_⟩
    · rw [State.setSources_same (hsame.imp (fun h => by rw [hcamera]; exact h) hport.trans)]
      exact ⟨hnode, hportA, hportB⟩
    · exact State.setSources_cameraChange (by rw [hcamera]; exact hmoved) (hport.trans hcam)
  · rw [if_pos hg, haddr, State.actedOn_wake hk]
    refine ⟨(State.wakeNode_camera _).trans hcamera, fun hawake => ?_, fun hstandby => ?_⟩
    · rw [State.wakeNode_awake (by rw [hnode]; exact hawake)]
      exact ⟨hnode, hportA, hportB⟩
    · obtain ⟨hstate, hcredit, hpending⟩ := State.wakeNode_standby
        (s := (s.atEnd r e).received r.reserved r.payload) (by rw [hnode]; exact hstandby)
      refine ⟨by rw [hstate, hview]; rfl, ?_, hpending⟩
      rw [hcredit, State.cap, hnode]; rfl

end Sys2Proof.Machine
end

section
/-! PROOFS. The judgement of a stripped census: the own return, the retired nonce, and the identity conflict with the entry to
MUTE that it brings (R18, R25, R54, R60, R64, R66, R67, R178). -/

namespace Sys2Proof.Machine

/-! ### The entries to MUTE and STANDBY -/

/-- No entry is taken in a state other than RUN, while none waits, and while an own LINE or MARK is being transmitted (R54). -/
theorem State.entryDue_false {s : State}
    (h : s.node.state ≠ .run ∨ s.node.waiting = none ∨ s.link.sendingPicture = true) (e : Entry) : s.entryDue e = false := by
  rcases h with h | h | h <;> simp [State.entryDue, h]

theorem State.entryDue_eq_true {s : State} {e : Entry} (hw : s.node.waiting = some e) (hr : s.node.state = .run)
    (hs : s.link.sendingPicture = false) : s.entryDue e = true := by
  simp [State.entryDue, hw, hr, hs]

/-- An own LINE or MARK is in transmission (R54). -/
theorem RingPort.sendingPicture_iff (l : RingPort) :
    l.sendingPicture = true ↔ ∃ p, l.tx = .sending p ∧ (p.kind = .line ∨ p.kind = .mark) := by
  unfold RingPort.sendingPicture
  cases l.tx <;> simp

@[simp] theorem State.enterState_node (s : State) (st : NodeState) :
    (s.enterState st).node = { s.node with state := st, waiting := none } := by
  simp [State.enterState]

/-- A waiting entry to MUTE is taken (R54, R177). -/
theorem State.takeEntry_mute {s : State} (hw : s.node.waiting = some .mute) (hr : s.node.state = .run)
    (hs : s.link.sendingPicture = false) : s.takeEntry = s.enterState .mute := by
  have hmute : s.enterMute = s.enterState .mute := if_pos (State.entryDue_eq_true hw hr hs)
  have hnone : ¬ (s.enterState .mute).entryDue .standby = true := by
    rw [State.entryDue_false (.inl (by rw [State.enterState_node]; exact nofun))]; decide
  rw [State.takeEntry, hmute]
  exact if_neg hnone

/-- A waiting entry to STANDBY is taken (R54, R178). -/
theorem State.takeEntry_standby_node {s : State} (hw : s.node.waiting = some .standby) (hr : s.node.state = .run)
    (hs : s.link.sendingPicture = false) : s.takeEntry.node = { s.node with state := .standby, waiting := none } := by
  have hmute : s.enterMute = s := if_neg (by simp [State.entryDue, hw])
  rw [State.takeEntry, hmute, State.enterStandby, if_pos (State.entryDue_eq_true hw hr hs)]
  simp

/-! ### The entry to a state reads neither the link nor the attention set -/

theorem State.port_linkAtt (s : State) (l : RingPort) (a : AttentionSet) (p : PortId) :
    ({ s with link := l, att := a } : State).port p = s.port p := by
  cases p <;> rfl

theorem State.setPort_linkAtt (s : State) (l : RingPort) (a : AttentionSet) (p : PortId) (q : Port) :
    ({ s with link := l, att := a } : State).setPort p q = { s.setPort p q with link := l, att := a } := by
  cases p <;> rfl

theorem State.purge_linkAtt (s : State) (l : RingPort) (a : AttentionSet) (kill : PicEntry → Bool) :
    ({ s with link := l, att := a } : State).purge kill = { s.purge kill with link := l, att := a } := by
  rw [State.purge_eq, State.purge_eq]; rfl

theorem purgeStreams_linkAtt (l : RingPort) (a : AttentionSet) (p : PortId) (is : List Nat) (s : State) :
    is.foldl (fun s i => s.purgeStream (streamIndex p i)) { s with link := l, att := a } =
      { is.foldl (fun s i => s.purgeStream (streamIndex p i)) s with link := l, att := a } := by
  induction is generalizing s with
  | nil => rfl
  | cons i is ih => rw [List.foldl_cons, List.foldl_cons, State.purgeStream, State.purge_linkAtt, ih]; rfl

theorem State.settlePort_linkAtt (s : State) (l : RingPort) (a : AttentionSet) (p : PortId) :
    ({ s with link := l, att := a } : State).settlePort p = { s.settlePort p with link := l, att := a } := by
  unfold State.settlePort
  rw [State.port_linkAtt]
  cases s.port p with
  | input q => dsimp only; rw [State.setPort_linkAtt, purgeStreams_linkAtt]
  | output o => rfl
  | unused k => rfl

theorem State.enterState_linkAtt (s : State) (l : RingPort) (a : AttentionSet) (st : NodeState) :
    ({ s with link := l, att := a } : State).enterState st = { s.enterState st with link := l, att := a } := by
  have hpurge := State.purge_linkAtt { s with node := { s.node with state := st, waiting := none } } l a (fun _ => true)
  unfold State.enterState State.settleStreams State.purgePictures
  rw [← State.settlePort_linkAtt, ← State.settlePort_linkAtt, ← hpurge]

/-! ### The identity conflict -/

/-- The state in which the entry to MUTE has been asked for (R54). -/
def State.muteAsked (s : State) : State := { s with node := { s.node with waiting := some .mute } }

/-- A conflict report touches the mute-pending flag of the Station View alone (R67). -/
theorem State.conflict_view (s : State) : s.conflict.view = { s.view with mutePending := s.conflict.view.mutePending } := by
  unfold State.conflict State.conflictFound
  split <;> simp [State.askEntry]

theorem State.conflictFound_mute {s : State} (h : s.node.state = .mute) :
    s.conflictFound = s.raise Cause.idConflict.bit := by
  rw [State.conflictFound, h]

theorem State.conflictFound_standby {s : State} (h : s.node.state = .standby) :
    s.conflictFound = ({ s with view.mutePending := true } : State).raise Cause.idConflict.bit := by
  rw [State.conflictFound, h]

/-- In RUN a conflict report asks for the entry to MUTE, which waits for the own picture parcel in transmission (R54, R66). -/
theorem State.conflict_sending {s : State} (hr : s.node.state = .run) (hs : s.link.sendingPicture = true) : s.conflict =
    s.muteAsked.raise Cause.idConflict.bit := by
  rw [State.conflict, State.takeEntry_none s (State.entryDue_false (.inr (.inr hs))), State.conflictFound, hr]
  exact State.takeEntry_none _ (State.entryDue_false (.inr (.inr hs)))

/-- Where no own picture parcel is in transmission the entry to MUTE comes at once (R54, R66). -/
theorem State.conflict_enters {s : State} (hr : s.node.state = .run) (hs : s.link.sendingPicture = false)
    (hw : s.node.waiting = none) : s.conflict = (s.muteAsked.raise Cause.idConflict.bit).enterState .mute := by
  rw [State.conflict, State.takeEntry_none s (State.entryDue_false (.inr (.inl hw))), State.conflictFound, hr]
  exact State.takeEntry_mute rfl hr hs

/-- A conflict report in MUTE (R66). -/
theorem State.conflict_mute {s : State} (hr : s.node.state = .mute) : s.conflict = s.raise Cause.idConflict.bit := by
  rw [State.conflict, State.takeEntry_none s (State.entryDue_false (.inl (by simp [hr]))), State.conflictFound_mute hr]

/-- A conflict report in STANDBY sets the mute-pending flag (R67). -/
theorem State.conflict_standby {s : State} (hr : s.node.state = .standby) :
    s.conflict = ({ s with view.mutePending := true } : State).raise Cause.idConflict.bit := by
  rw [State.conflict, State.takeEntry_none s (State.entryDue_false (.inl (by simp [hr]))), State.conflictFound_standby hr]

/-- A conflict report that finds an entry whose end symbol has come takes it first (R54, log 2). -/
theorem State.conflict_waiting {s : State} {e : Entry} (hr : s.node.state = .run) (hs : s.link.sendingPicture = false)
    (hw : s.node.waiting = some e) :
    s.conflict.node.waiting = none ∧ s.conflict.isPending .idConflict = true ∧
      (e = .mute → s.conflict.node.state = .mute) ∧
      (e = .standby → s.conflict.node.state = .standby ∧ s.conflict.view.mutePending = true) := by
  cases e with
  | mute =>
    have hnode : s.takeEntry.node = { s.node with state := .mute, waiting := none } := by
      rw [State.takeEntry_mute hw hr hs, State.enterState_node]
    have hconflict : s.conflict = s.takeEntry.raise Cause.idConflict.bit := State.conflictFound_mute (by rw [hnode])
    rw [hconflict, State.raise_node, hnode]
    exact ⟨rfl, State.isPending_raise _ _, fun _ => rfl, nofun⟩
  | standby =>
    have hnode := State.takeEntry_standby_node hw hr hs
    have hconflict : s.conflict =
        ({ s.takeEntry with view.mutePending := true } : State).raise Cause.idConflict.bit :=
      State.conflictFound_standby (by rw [hnode])
    rw [hconflict, State.raise_node, hnode]
    exact ⟨rfl, State.isPending_raise _ _, nofun, fun _ => ⟨rfl, rfl⟩⟩

/-! ### The stripped census -/

theorem State.strippedCensus_own {s : State} {w : Word} (rest : List Word) (h : s.view.nonce = some (w.extractLsb' 16 16)) :
    s.strippedCensus (w :: rest) = s.censusReturn := by
  simp [State.strippedCensus, h]

theorem State.strippedCensus_retired {s : State} {w : Word} (rest : List Word)
    (hn : s.view.nonce ≠ some (w.extractLsb' 16 16)) (hr : s.view.retired = some (w.extractLsb' 16 16)) :
    s.strippedCensus (w :: rest) = s := by
  simp [State.strippedCensus, hn, hr]

theorem State.strippedCensus_foreign {s : State} {w : Word} (rest : List Word)
    (hn : s.view.nonce ≠ some (w.extractLsb' 16 16)) (hr : s.view.retired ≠ some (w.extractLsb' 16 16)) :
    s.strippedCensus (w :: rest) = s.conflict := by
  simp [State.strippedCensus, hn, hr]

/-- RING_HEALED is raised at a return to an OPEN ring (R64). -/
theorem State.censusReturn_ringHealed (s : State) :
    s.censusReturn.isPending .ringHealed = (s.isPending .ringHealed || s.view.ring == .broken) :=
  State.isPending_raise_when _ _ _

theorem State.strippedCensusFallback_own {s : State} {w : Word} (rest : List Word) (hf : s.node.state = .fallback)
    (h : s.view.nonce = some (w.extractLsb' 16 16)) : s.strippedCensusFallback (w :: rest) = s.censusReturn := by
  simp [State.strippedCensusFallback, hf, h]

theorem State.strippedCensusFallback_foreign {s : State} {w : Word} (rest : List Word)
    (h : s.view.nonce ≠ some (w.extractLsb' 16 16)) : s.strippedCensusFallback (w :: rest) = s := by
  simp [State.strippedCensusFallback, h]

/-- Settles O27: what a stripped census brings. -/
theorem ownCensusJudged : Obligations.OwnCensusJudged := by
  constructor
  · intro s r w rest hrun hup hstage hcourse hrep hkind hgood hpayload sends stays
    have hexec := exec_endEvent .eop hrun hup hstage
    have hfilter : (s.atEnd r .eop).filterEnd r (r.goodAt .eop) = (s.atEnd r .eop).strippedCensus (w :: rest) := by
      rw [Reception.goodAt_eop hgood, State.filterEnd, hcourse, hrep, hkind]; dsimp only
      rw [if_pos rfl, hpayload]
    rw [hfilter] at hexec
    by_cases hnonce : s.view.nonce = some (w.extractLsb' 16 16)
    · rw [State.strippedCensus_own (s := s.atEnd r .eop) rest hnonce] at hexec
      refine ⟨_, hexec, rfl, rfl, rfl, fun _ => ⟨rfl, rfl, rfl, rfl⟩, ?_⟩
      rw [if_pos hnonce]
      exact ⟨rfl, rfl, rfl, rfl, State.censusReturn_ringHealed _⟩
    by_cases hretired : s.view.retired = some (w.extractLsb' 16 16)
    · rw [State.strippedCensus_retired (s := s.atEnd r .eop) rest hnonce hretired] at hexec
      refine ⟨_, hexec, rfl, rfl, rfl, fun hn => absurd hn hnonce, ?_⟩
      rw [if_neg hnonce, if_pos hretired]
      exact ⟨rfl, rfl, rfl, rfl, rfl, rfl, rfl⟩
    rw [State.strippedCensus_foreign (s := s.atEnd r .eop) rest hnonce hretired] at hexec
    have hview := (s.atEnd r .eop).conflict_view
    have hsends : (s.atEnd r .eop).link.sendingPicture = true ↔ sends := RingPort.sendingPicture_iff _
    have hquiet : ¬ sends → (s.atEnd r .eop).link.sendingPicture = false := fun h => Bool.eq_false_iff.mpr (mt hsends.mp h)
    refine ⟨_, hexec, State.conflict_svc _, by rw [hview]; rfl, by rw [hview]; rfl, fun hn => absurd hn hnonce, ?_⟩
    rw [if_neg hnonce, if_neg hretired]
    refine ⟨by rw [hview]; rfl, by rw [hview]; rfl, by rw [hview]; rfl, fun hst hsending => ?_, fun hst hfree hwait => ?_,
      fun hst hfree e hwait => ?_, fun hst => ?_, fun hst => ?_⟩
    · rw [State.conflict_sending (s := s.atEnd r .eop) hst (hsends.mpr hsending)]
      exact ⟨rfl, State.isPending_raise _ _, rfl, rfl, rfl, rfl⟩
    · have hconflict : (s.atEnd r .eop).conflict = { s.muteAsked.enterState .mute with
          link := (s.atEnd r .eop).link, att := (s.raise Cause.idConflict.bit).att } :=
        (State.conflict_enters (s := s.atEnd r .eop) hst (hquiet hfree) hwait).trans (s.muteAsked.enterState_linkAtt _ _ _)
      have hmute : exec .enterMute s.muteAsked = .next (s.muteAsked.enterState .mute) := by
        have hdue : s.muteAsked.entryDue .mute = true := State.entryDue_eq_true rfl hst (hquiet hfree)
        change live State.enterMute s.muteAsked = _
        rw [live_running _ s.muteAsked hrun, State.enterMute, if_pos hdue]
      rw [hconflict]
      exact ⟨State.enterState_node _ _, s.isPending_raise _, _, hmute, rfl, rfl, rfl, rfl⟩
    · exact State.conflict_waiting (s := s.atEnd r .eop) hst (hquiet hfree) hwait
    · rw [State.conflict_mute (s := s.atEnd r .eop) hst]
      exact ⟨rfl, State.isPending_raise _ _, rfl, rfl, rfl, rfl⟩
    · rw [State.conflict_standby (s := s.atEnd r .eop) hst]
      exact ⟨rfl, rfl, State.isPending_raise _ _, rfl, rfl, rfl, rfl⟩
  · intro s r w rest hrun hup hstage hcourse hrep hkind hgood hpayload
    have hexec := exec_endEvent .eop hrun hup hstage
    have hfilter : (s.atEnd r .eop).filterEnd r (r.goodAt .eop) = (s.atEnd r .eop).strippedCensusFallback (w :: rest) := by
      rw [Reception.goodAt_eop hgood, State.filterEnd, hcourse, hrep, hkind]; dsimp only
      rw [if_pos rfl, hpayload]
    rw [hfilter] at hexec
    refine ⟨fun hst hnonce => ?_, fun hst hnonce => ?_⟩
    · rw [State.strippedCensusFallback_own (s := s.atEnd r .eop) rest hst hnonce] at hexec
      refine ⟨_, hexec, rfl, rfl, State.censusReturn_ringHealed _, ?_, rfl, rfl⟩
      rw [State.censusReturn_link, State.atEnd_good_strip hgood hcourse]
    · rw [hexec, State.strippedCensusFallback_foreign (s := s.atEnd r .eop) rest hnonce,
        State.atEnd_good_strip hgood hcourse]

end Sys2Proof.Machine
end

section
/-! PROOFS. A census copy at the station table and at the sink records, and the settling of the streams after a change of the
demand (R31, R45, R68, R69, R71, R81, R82, R107, R109, R119, R156). -/

namespace Sys2Proof.Machine

/-! ### The station table -/

theorem entryFor_insertEntry_same (e : TableEntry) (t : List TableEntry) :
    entryFor (insertEntry e t) e.station = some e := by
  unfold entryFor
  induction t with
  | nil => simp [insertEntry]
  | cons x xs ih =>
    unfold insertEntry
    split_ifs with hlt heq
    · simp
    · simp
    · rw [List.find?_cons_of_neg (by simpa using Ne.symm heq), ih]

theorem entryFor_insertEntry_other {e : TableEntry} {n : StationNo} (hn : n ≠ e.station) (t : List TableEntry) :
    entryFor (insertEntry e t) n = entryFor t n := by
  unfold entryFor
  induction t with
  | nil => simp [insertEntry, Ne.symm hn]
  | cons x xs ih =>
    unfold insertEntry
    split_ifs with hlt heq
    · rw [List.find?_cons_of_neg (by simpa using Ne.symm hn)]
    · rw [List.find?_cons_of_neg (by simpa using Ne.symm hn),
        List.find?_cons_of_neg (by rw [← heq]; simpa using Ne.symm hn)]
    · rw [List.find?_cons, List.find?_cons, ih]

/-! ### A table report at one record -/

/-- A record that has judged the nonce of its source's entry (R107). -/
def Sink.judged (n : Half) (k : Sink) : Sink :=
  { (if ∃ m, k.nonce = some m ∧ m ≠ n then k.forget else k) with nonce := some n }

/-- What a record is after the report that the table's entry for its source has this nonce and shows its stream or not
(R107, R109). -/
def Sink.reported (n : Half) (shown : Bool) (k : Sink) : Sink :=
  match k.source with
  | .absent => { k.judged n with source := if shown then .present else .absent }
  | .present => if shown then k.judged n else (k.judged n).lose
  | .lost => k.judged n

/-- The report takes the record's source from it (R109). -/
def Sink.losesBy (shown : Bool) (k : Sink) : Bool := k.source == .present && !shown

theorem Sink.losesBy_iff {shown : Bool} {k : Sink} : k.losesBy shown = true ↔ k.source = .present ∧ shown = false := by
  simp [Sink.losesBy]

theorem Sink.judgeNonce_eq {t : List TableEntry} {x : StreamId} {n : Half} (h : tableNonce t x = some n) (k : Sink) :
    k.judgeNonce t x = k.judged n := by
  have hchanged : k.nonceChanged t x = true ↔ ∃ m, k.nonce = some m ∧ m ≠ n := by
    unfold Sink.nonceChanged
    rw [h]
    cases k.nonce with
    | none => simp
    | some m => simp [ne_comm]
  unfold Sink.judgeNonce Sink.judged
  rw [h]
  by_cases hc : ∃ m, k.nonce = some m ∧ m ≠ n
  · rw [if_pos hc, if_pos (hchanged.mpr hc)]
  · rw [if_neg hc, if_neg (mt hchanged.mp hc)]

/-- The record after a report, field by field (R107, R109). -/
theorem Sink.reported_spec (n : Half) (shown : Bool) (k : Sink) :
    let k' := k.reported n shown
    k'.active = k.active ∧ k'.nonce = some n ∧ k'.presented = k.presented ∧
      (k.source = .absent → k'.source = if shown then .present else .absent) ∧
      (k.source = .present → k'.source = if shown then .present else .lost) ∧
      (k.source = .lost → k'.source = .lost) ∧
      ((k.source ≠ .present ∨ shown = true) → (k.nonce = none ∨ k.nonce = some n) → k'.cur = k.cur ∧ k'.queue = k.queue) ∧
      (((k.source = .present ∧ shown = false) ∨ ∃ m, k.nonce = some m ∧ m ≠ n) →
        k'.cur = none ∧ k'.queue = [] ∧ k'.last = none ∧
        k'.tornCount = if k.torn then holdInc k.tornCount else k.tornCount) := by
  have hstays : (k.nonce = none ∨ k.nonce = some n) → ¬ ∃ m, k.nonce = some m ∧ m ≠ n := by
    rintro (h | h) ⟨m, hm, hne⟩ <;> rw [h] at hm
    · cases hm
    · cases hm; exact hne rfl
  unfold Sink.reported Sink.judged
  by_cases hnonce : ∃ m, k.nonce = some m ∧ m ≠ n
  · have hnew := mt hstays (not_not.mpr hnonce)
    rw [if_pos hnonce]
    cases hs : k.source <;> cases shown <;> simp [hnonce, hnew, hs, Sink.lose, Sink.forget, Sink.closeTorn]
  · rw [if_neg hnonce]
    cases hs : k.source <;> cases shown <;> simp [hnonce, hs, Sink.lose, Sink.forget, Sink.closeTorn]

/-! ### A table report at an output port -/

@[simp] theorem OutPort.mapSink_sink (o : OutPort) (role : Role) (f : Sink → Sink) :
    (o.mapSink role f).sink role = (o.sink role).map f := by
  cases role <;> rfl

theorem OutPort.mapSink_sink_ne (o : OutPort) {role role' : Role} (f : Sink → Sink) (h : role' ≠ role) :
    (o.mapSink role f).sink role' = o.sink role' := by
  cases role <;> cases role' <;> simp_all [OutPort.mapSink, OutPort.sink]

theorem OutPort.mapSink_const (o : OutPort) (role : Role) (k : Sink) (f : Sink → Sink) (hk : o.sink role = some k) :
    o.mapSink role f = o.mapSink role (fun _ => f k) := by
  cases role with
  | main => cases hk; rfl
  | overlay =>
    have ho : o.overlay = some k := hk
    simp only [OutPort.mapSink, ho, Option.map_some]

theorem OutPort.mapSink_mapSink (o : OutPort) (role : Role) (f g : Sink → Sink) :
    (o.mapSink role f).mapSink role g = o.mapSink role (fun k => g (f k)) := by
  cases role with
  | main => rfl
  | overlay => simp [OutPort.mapSink, Function.comp_def]

@[simp] theorem OutPort.mapSink_lock (o : OutPort) (role : Role) (f : Sink → Sink) : (o.mapSink role f).lock = o.lock := by
  cases role <;> rfl
@[simp] theorem OutPort.mapSink_cam (o : OutPort) (role : Role) (f : Sink → Sink) : (o.mapSink role f).cam = o.cam := by
  cases role <;> rfl
@[simp] theorem OutPort.mapSink_cfg (o : OutPort) (role : Role) (f : Sink → Sink) : (o.mapSink role f).cfg = o.cfg := by
  cases role <;> rfl
@[simp] theorem OutPort.mapSink_pres (o : OutPort) (role : Role) (f : Sink → Sink) : (o.mapSink role f).pres = o.pres := by
  cases role <;> rfl

/-- The camera picture of a port in SHOWING is that of the record of this role (R156). -/
def OutPort.showsBy (role : Role) (o : OutPort) : Bool :=
  o.cam.state == .showing &&
    match role with
    | .main => o.lock.state == .track && o.cfg.camMode == .full
    | .overlay => o.cfg.camMode == .inset

/-- An output port after a report on the record k of this role, with the causes raised (R107, R109, R119, R156). -/
def OutPort.reported (n : Half) (shown : Bool) (role : Role) (k : Sink) (o : OutPort) : OutPort × Half :=
  if k.losesBy shown then
    ({ o.mapSink role (fun _ => k.reported n shown) with
        lock := if role = .main then o.lock.onLoss else o.lock
        cam := if o.showsBy role = true then { o.cam with state := .late } else o.cam },
      Cause.cameraLate.when (o.showsBy role) ||| Cause.sourceLost.bit)
  else (o.mapSink role (fun _ => k.reported n shown), noCause)

/-- The loss of a record's source (R109, R119, R156). -/
theorem OutPort.loseSource_eq (role : Role) (o : OutPort) : o.loseSource role =
    ({ o.mapSink role Sink.lose with
        lock := if role = .main then o.lock.onLoss else o.lock
        cam := if o.showsBy role = true then { o.cam with state := .late } else o.cam },
      Cause.cameraLate.when (o.showsBy role) ||| Cause.sourceLost.bit) := by
  cases role with
  | main =>
    have hb : (o.lock.state == .track && o.cfg.camMode == .full && o.cam.state == .showing) = o.showsBy .main :=
      Bool.and_comm _ _
    unfold OutPort.loseSource OutPort.cameraGone
    dsimp only
    rw [hb]
    cases o.showsBy .main <;> rfl
  | overlay =>
    have hb : (o.cfg.camMode == .inset && o.cam.state == .showing) = o.showsBy .overlay := Bool.and_comm _ _
    unfold OutPort.loseSource OutPort.cameraGone
    dsimp only
    rw [hb]
    cases o.showsBy .overlay <;> rfl

theorem Sink.judgeNonce_frame (t : List TableEntry) (x : StreamId) (k : Sink) :
    (k.judgeNonce t x).active = k.active ∧ (k.judgeNonce t x).source = k.source := by
  unfold Sink.judgeNonce
  dsimp only
  split <;> split_ifs <;> exact ⟨rfl, rfl⟩

/-- What a report on one record leaves of the port. -/
theorem OutPort.reported_frame (n : Half) (shown : Bool) (role : Role) (k : Sink) (o : OutPort) :
    let r := (o.reported n shown role k).1
    r.cfg = o.cfg ∧ r.pres = o.pres ∧ (∀ role', role' ≠ role → r.sink role' = o.sink role') ∧
      (role = .overlay → r.lock = o.lock) ∧ (o.showsBy role = false → r.cam = o.cam) := by
  intro r
  have hother : ∀ role', role' ≠ role → r.sink role' = o.sink role' := fun role' h => by
    have hsame : r.sink role' = (o.mapSink role (fun _ => k.reported n shown)).sink role' := by
      simp only [r, OutPort.reported]
      split_ifs <;> cases role' <;> rfl
    rw [hsame, OutPort.mapSink_sink_ne o _ h]
  refine ⟨?_, ?_, hother, fun h => ?_, fun h => ?_⟩ <;> simp only [r, OutPort.reported] <;> split_ifs <;> simp_all

/-- What a report does through the record it reaches (R107, R109, R119, R156). -/
theorem OutPort.reported_own (n : Half) (shown : Bool) {role : Role} {k : Sink} {o : OutPort} (hk : o.sink role = some k) :
    let r := o.reported n shown role k
    r.1.sink role = some (k.reported n shown) ∧
      (role = .main → r.1.lock = if k.losesBy shown then o.lock.onLoss else o.lock) ∧
      (k.losesBy shown = true → r.2 = Cause.cameraLate.when (o.showsBy role) ||| Cause.sourceLost.bit ∧
        (o.showsBy role = true → r.1.cam = { o.cam with state := .late })) := by
  intro r
  have hsink : r.1.sink role = some (k.reported n shown) := by
    have hsame : r.1.sink role = (o.mapSink role (fun _ => k.reported n shown)).sink role := by
      simp only [r, OutPort.reported]
      split_ifs <;> cases role <;> rfl
    rw [hsame, OutPort.mapSink_sink, hk]; rfl
  refine ⟨hsink, fun h => ?_, fun h => ⟨?_, fun hshows => ?_⟩⟩ <;> simp only [r, OutPort.reported]
  · split_ifs <;> simp
  · rw [if_pos h]
  · rw [if_pos h, if_pos hshows]

section Report

variable {t : List TableEntry} {st : StationNo} {role : Role} {o : OutPort}

/-- A port whose record of a role names no stream of the station is not touched through it. -/
theorem OutPort.tableReport1_unwatched (h : o.watches role st = none) : o.tableReport1 t st role = (o, noCause) := by
  rw [OutPort.tableReport1, h]

/-- A report on a record that names a stream of the station (R107). -/
theorem OutPort.tableReport1_watched {k : Sink} {x : StreamId} {n : Half} (hk : o.sink role = some k)
    (ha : k.active = some x) (hs : sourceOf x = st) (hn : tableNonce t x = some n) :
    o.tableReport1 t st role = o.reported n (showsPresent t x) role k := by
  have hwatch : o.watches role st = some x := by rw [OutPort.watches, hk]; simp [ha, hs]
  obtain ⟨hactive, hsource⟩ := k.judgeNonce_frame t x
  have hsink : (o.mapSink role (Sink.judgeNonce t x)).sink role = some (k.judgeNonce t x) := by
    rw [OutPort.mapSink_sink, hk]; rfl
  have hshown : (k.judgeNonce t x).shown t = showsPresent t x := by rw [Sink.shown, hactive, ha]
  rw [OutPort.tableReport1, hwatch]; dsimp only
  rw [OutPort.judgeSource, hsink]; dsimp only
  rw [hsource, hshown]
  unfold OutPort.reported Sink.reported Sink.losesBy
  rw [← Sink.judgeNonce_eq hn k]
  cases hsrc : k.source with
  | absent =>
    dsimp only
    rw [OutPort.mapSink_mapSink, OutPort.mapSink_const o role k _ hk, hshown]
    rfl
  | present =>
    dsimp only
    cases showsPresent t x with
    | true => exact congrArg (·, noCause) (OutPort.mapSink_const o role k _ hk)
    | false =>
      rw [if_neg (by decide), OutPort.loseSource_eq, OutPort.mapSink_mapSink, OutPort.mapSink_const o role k _ hk]
      simp [OutPort.showsBy]
  | lost => exact congrArg (·, noCause) (OutPort.mapSink_const o role k _ hk)

/-- A report on a station with an entry leaves of the port, through the record of one role, what `OutPort.reported` leaves. -/
theorem OutPort.tableReport1_frame {e : TableEntry} (he : entryFor t st = some e) :
    let r := (o.tableReport1 t st role).1
    r.cfg = o.cfg ∧ r.pres = o.pres ∧ (∀ role', role' ≠ role → r.sink role' = o.sink role') ∧
      (role = .overlay → r.lock = o.lock) ∧ (o.showsBy role = false → r.cam = o.cam) := by
  cases hw : o.watches role st with
  | none =>
    rw [OutPort.tableReport1_unwatched hw]
    exact ⟨rfl, rfl, fun _ _ => rfl, fun _ => rfl, fun _ => rfl⟩
  | some x =>
    obtain ⟨k, hk, ha, hs⟩ : ∃ k, o.sink role = some k ∧ k.active = some x ∧ sourceOf x = st := by
      unfold OutPort.watches at hw
      split at hw
      · cases hw
      · rename_i k hk
        split at hw
        · cases hw
        · rename_i y hy
          split_ifs at hw with hst
          cases hw
          exact ⟨k, hk, hy, hst⟩
    rw [OutPort.tableReport1_watched hk ha hs (n := e.nonce) (by rw [tableNonce, hs, he]; rfl)]
    exact OutPort.reported_frame _ _ _ _ _

end Report

/-- A set of causes holds this one. -/
def Cause.isIn (c : Cause) (m : Half) : Prop := m &&& c.bit ≠ 0#16

theorem Cause.isIn_or_left {c : Cause} {m n : Half} (h : c.isIn m) : c.isIn (m ||| n) := by
  unfold Cause.isIn at *
  rw [BitVec.and_or_distrib_right]
  exact fun hz => h (BitVec.or_eq_zero_iff.mp hz).1

theorem Cause.isIn_or_right {c : Cause} {m n : Half} (h : c.isIn n) : c.isIn (m ||| n) := by
  rw [BitVec.or_comm]; exact Cause.isIn_or_left h

theorem Cause.isIn_bit (c : Cause) : c.isIn c.bit := by
  unfold Cause.isIn; cases c <;> decide

/-- Whatever holds a cause makes it pending when raised (R172). -/
theorem State.isPending_raise_isIn {s : State} {c : Cause} {m : Half} (h : c.isIn m) : (s.raise m).isPending c = true := by
  have hin : (s.att.pending ||| m) &&& c.bit ≠ 0#16 := Cause.isIn_or_right h
  simpa [State.isPending] using hin

/-- The camera picture of a port is that of one record at most (R153, R156). -/
theorem OutPort.showsBy_other {o : OutPort} {role role' : Role} (h : o.showsBy role = true) (hne : role' ≠ role) :
    o.showsBy role' = false := by
  unfold OutPort.showsBy at *
  cases role <;> cases role' <;> simp_all

theorem OutPort.showsBy_overlay_congr {a b : OutPort} (hcam : a.cam = b.cam) (hcfg : a.cfg = b.cfg) :
    a.showsBy .overlay = b.showsBy .overlay := by
  rw [OutPort.showsBy, OutPort.showsBy, hcam, hcfg]

/-- A table report at an output port, seen from a record that names a stream of the station (R107, R109, R119, R156). -/
theorem OutPort.tableReport_spec {t : List TableEntry} {st : StationNo} {e : TableEntry} (he : entryFor t st = some e)
    {role : Role} {o : OutPort} {k : Sink} {x : StreamId} (hk : o.sink role = some k) (ha : k.active = some x)
    (hs : sourceOf x = st) :
    let shown := showsPresent t x
    let r := o.tableReport t st
    r.1.sink role = some (k.reported e.nonce shown) ∧ r.1.pres = o.pres ∧
      (role = .main → r.1.lock = if k.losesBy shown then o.lock.onLoss else o.lock) ∧
      (k.losesBy shown = true → Cause.sourceLost.isIn r.2) ∧
      (k.losesBy shown = true → o.showsBy role = true →
        r.1.cam = { o.cam with state := .late } ∧ Cause.cameraLate.isIn r.2) ∧
      ((∀ role', o.showsBy role' = false) → r.1.cam = o.cam) := by
  intro shown r
  have hn : tableNonce t x = some e.nonce := by rw [tableNonce, hs, he]; rfl
  obtain ⟨hcfg, hpres, hother, -, hcam⟩ := OutPort.tableReport1_frame (role := .main) (o := o) he
  obtain ⟨-, hpres', hother', hlock', hcam'⟩ :=
    OutPort.tableReport1_frame (role := .overlay) (o := (o.tableReport1 t st .main).1) he
  have hnone : (∀ role', o.showsBy role' = false) → r.1.cam = o.cam := fun h => by
    have hsame := hcam (h .main)
    exact (hcam' ((OutPort.showsBy_overlay_congr hsame hcfg).trans (h .overlay))).trans hsame
  cases role with
  | main =>
    have hown := OutPort.reported_own e.nonce shown hk
    rw [← OutPort.tableReport1_watched hk ha hs hn] at hown
    obtain ⟨hsink, hlock, hloss⟩ := hown
    refine ⟨(hother' .main (by decide)).trans hsink, hpres'.trans hpres, fun _ => (hlock' rfl).trans (hlock rfl), fun h => ?_,
      fun h hshows => ?_, hnone⟩
    · exact Cause.isIn_or_left ((hloss h).1 ▸ Cause.isIn_or_right (Cause.isIn_bit _))
    · obtain ⟨hcauses, hlate⟩ := hloss h
      have hgone : (o.tableReport1 t st .main).1.showsBy .overlay = false := by rw [OutPort.showsBy, hlate hshows]; rfl
      refine ⟨(hcam' hgone).trans (hlate hshows), Cause.isIn_or_left ?_⟩
      rw [hcauses, hshows]
      exact Cause.isIn_or_left (Cause.isIn_bit _)
  | overlay =>
    have hk' := (hother .overlay (by decide)).trans hk
    have hown := OutPort.reported_own e.nonce shown hk'
    rw [← OutPort.tableReport1_watched hk' ha hs hn] at hown
    obtain ⟨hsink, -, hloss⟩ := hown
    refine ⟨hsink, hpres'.trans hpres, nofun, fun h => ?_, fun h hshows => ?_, hnone⟩
    · exact Cause.isIn_or_right ((hloss h).1 ▸ Cause.isIn_or_right (Cause.isIn_bit _))
    · obtain ⟨hcauses, hlate⟩ := hloss h
      have hkept := hcam (OutPort.showsBy_other hshows (by decide))
      have hshows' := (OutPort.showsBy_overlay_congr hkept hcfg).trans hshows
      refine ⟨(hlate hshows').trans (by rw [hkept]), Cause.isIn_or_right ?_⟩
      rw [hcauses, hshows']
      exact Cause.isIn_or_left (Cause.isIn_bit _)

/-- A port out of SHOWING, or without a camera mode, shows no camera picture (R156). -/
theorem OutPort.showsBy_none {o : OutPort} (h : o.cam.state ≠ .showing ∨ o.cfg.camMode = .none) (role : Role) :
    o.showsBy role = false := by
  unfold OutPort.showsBy
  rcases h with h | h <;> cases role <;> simp [h]

theorem OutPort.showsBy_iff (o : OutPort) (role : Role) : o.showsBy role = true ↔ o.cam.state = .showing ∧
    ((role = .main ∧ o.cfg.camMode = .full ∧ o.lock.state = .track) ∨ (role = .overlay ∧ o.cfg.camMode = .inset)) := by
  unfold OutPort.showsBy
  cases role <;> simp [and_comm]

/-! ### The demand and the settling of the streams -/

/-- The published demand alone of the Station View follows (R71). -/
theorem State.recomputeDemand_view (s : State) : s.recomputeDemand.view = { s.view with demand := s.demandOf } := by
  unfold State.recomputeDemand
  split_ifs with h
  · rw [h]
  · simp

/-- An unchanged demand settles nothing (R82). -/
theorem State.recomputeDemand_same {s : State} (h : s.demandOf = s.view.demand) : s.recomputeDemand = s := if_pos h

/-- A changed demand settles every stream (R82). -/
theorem State.recomputeDemand_changed {s : State} (h : s.demandOf ≠ s.view.demand) :
    s.recomputeDemand = ({ s with view.demand := s.demandOf } : State).settleStreams := if_neg h

/-- A test on an output port reads the same after a new published demand. -/
theorem State.recomputeDemand_outAnd (s : State) (p : PortId) (f : OutPort → Bool) :
    (s.recomputeDemand.port p).outAnd f = (s.port p).outAnd f := by
  unfold State.recomputeDemand
  split_ifs
  · rfl
  · have hport : ({ s with view.demand := s.demandOf } : State).port p = s.port p := by cases p <;> rfl
    cases hp : s.port p with
    | output o => rw [State.settleStreams_port_out _ _ (by simp [hport, hp]), hport, hp]
    | unused k => rw [State.settleStreams_port_out _ _ (by simp [hport, hp]), hport, hp]
    | input q => rw [State.settleStreams_port _ _ q (hport.trans hp)]; rfl

/-- A purged stream has no entry left in a picture queue (R45). -/
theorem purgeStreams_gone (l : List (BitVec 3)) (s : State) (e : PicEntry)
    (he : e ∈ (l.foldl (fun s i => s.purgeStream i) s).sched.safeQ ∨
      e ∈ (l.foldl (fun s i => s.purgeStream i) s).sched.normalQ) : ∀ i ∈ l, e.index ≠ i := by
  induction l generalizing s with
  | nil => exact fun i hi => absurd hi List.not_mem_nil
  | cons a l ih =>
    rw [List.foldl_cons] at he
    intro i hi
    rcases List.mem_cons.mp hi with rfl | hi
    · obtain ⟨⟨keep, hsafe, hnormal⟩, -⟩ := purgeStreams_sched l (s.purgeStream i)
      rw [hsafe, hnormal, State.purgeStream, State.purge_sched] at he
      simp only [List.mem_filter, Bool.not_eq_true', beq_eq_false_iff_ne] at he
      exact he.elim (fun h => h.1.2) (fun h => h.1.2)
    · exact ih _ he i hi

/-- A stream that the settling of its port suspends has no entry left in a picture queue (R45, R81). -/
theorem State.settlePort_gone {s : State} {p : PortId} {q : InPort} (hp : s.port p = .input q) {i : Nat} {k : Stream}
    (hk : q.streams[i]? = some k) (hwas : k.state ≠ .suspended)
    (his : settledState s.node.state q.geometry s.view.demand k.win = .suspended) (e : PicEntry)
    (he : e ∈ (s.settlePort p).sched.safeQ ∨ e ∈ (s.settlePort p).sched.normalQ) : e.index ≠ streamIndex p i := by
  unfold State.settlePort at he
  rw [hp] at he
  dsimp only at he
  rw [← List.foldl_map (f := streamIndex p) (g := State.purgeStream)] at he
  refine purgeStreams_gone _ _ e he _ (List.mem_map_of_mem ?_)
  obtain ⟨hlt, rfl⟩ := List.getElem?_eq_some_iff.mp hk
  simp [newlySuspended, hlt, hwas, his]

/-- A stream that a settling of both ports suspends has no entry left in a picture queue (R45, R81). -/
theorem State.settleStreams_gone {s : State} {p : PortId} {q : InPort} (hp : s.port p = .input q) {i : Nat} {k : Stream}
    (hk : q.streams[i]? = some k) (hwas : k.state ≠ .suspended)
    (his : settledState s.node.state q.geometry s.view.demand k.win = .suspended) (e : PicEntry)
    (he : e ∈ s.settleStreams.sched.safeQ ∨ e ∈ s.settleStreams.sched.normalQ) : e.index ≠ streamIndex p i := by
  unfold State.settleStreams at he
  cases p with
  | a =>
    obtain ⟨⟨keep, hsafe, hnormal⟩, -⟩ := (s.settlePort .a).settlePort_sched .b
    rw [hsafe, hnormal, List.mem_filter, List.mem_filter] at he
    exact State.settlePort_gone hp hk hwas his e (he.imp And.left And.left)
  | b =>
    refine State.settlePort_gone (s := s.settlePort .a) ?_ hk hwas ?_ e he
    · rw [State.settlePort_port_ne _ _ _ (.inl (by decide)), hp]
    · rw [State.settlePort_node, State.settlePort_view]; exact his

/-- The state to which a full station settles a stream (R81, R82). -/
theorem settledState_full {node : NodeState} (hfull : node.full = true) (geometry : Option Size) (demand : Bool) (w : Window) :
    settledState node geometry demand w =
      if w.enabled = false ∨ geometry = none then .idle
      else if node ≠ .run then .suspended
      else if w.shed = true ∧ demand = true then .suspended
      else .running := by
  unfold settledState
  cases node <;> cases w.enabled <;> cases geometry <;> simp_all [NodeState.full]

/-- The ports after a new published demand: an unchanged demand leaves an input port, a changed one settles it (R81, R82). -/
theorem State.recomputeDemand_port_in {s : State} {p : PortId} {q : InPort} (hp : s.port p = .input q) :
    (s.demandOf = s.view.demand → s.recomputeDemand.port p = .input q) ∧
      (s.demandOf ≠ s.view.demand →
        s.recomputeDemand.port p = .input (q.settled { s with view.demand := s.demandOf }) ∧
        ∀ (i : Nat) (k : Stream), q.streams[i]? = some k → k.state ≠ .suspended →
          settledState s.node.state q.geometry s.demandOf k.win = .suspended → ∀ e,
          (e ∈ s.recomputeDemand.sched.safeQ ∨ e ∈ s.recomputeDemand.sched.normalQ) → e.index ≠ streamIndex p i) := by
  have hp' : ({ s with view.demand := s.demandOf } : State).port p = .input q := by cases p <;> exact hp
  refine ⟨fun h => by rw [State.recomputeDemand_same h, hp], fun h => ?_⟩
  rw [State.recomputeDemand_changed h]
  exact ⟨State.settleStreams_port _ p q hp', fun i k hk hwas his e he => State.settleStreams_gone hp' hk hwas his e he⟩

/-! ### The census copy -/

/-- The state in which a table with this station's new entry is reported (R68, R69). -/
def State.entered (s : State) (st : StationNo) (hop : BitVec 4) (c : CensusContent) : State :=
  { s with view := { s.view with table := insertEntry (copyEntry st hop s.tick c) s.view.table } }

theorem State.censusCopy_some {s : State} {ws : List Word} {c : CensusContent} (st : StationNo) (hop : BitVec 4)
    (h : censusOf ws = some c) : s.censusCopy st hop ws = (s.entered st hop c).tableReport st := by
  rw [State.censusCopy, h]; rfl

theorem State.censusCopy_none {s : State} {ws : List Word} (st : StationNo) (hop : BitVec 4) (h : censusOf ws = none) :
    s.censusCopy st hop ws = s := by
  rw [State.censusCopy, h]

/-- Whether a table with this entry shows a stream of its station present (R107). -/
theorem showsPresent_of_entry {t : List TableEntry} {x : StreamId} {st : StationNo} {e : TableEntry} (hs : sourceOf x = st)
    (h : entryFor t st = some e) :
    showsPresent t x = (e.state == .run && e.offers.any (fun y => y.index == indexOf x && !y.suspended)) := by
  rw [showsPresent, hs, h]

/-- The Frame Lock after a loss of source (R119). -/
theorem FrameLock.onLoss_state (l : FrameLock) : l.onLoss.state = if l.state = .track then .holdover else l.state := by
  unfold FrameLock.onLoss
  cases h : l.state <;> simp [h, FrameLock.enterHoldover]

/-- The Frame Lock's state after a report on the MAIN record (R107, R119). -/
theorem Sink.losesBy_lockState (k : Sink) (shown : Bool) (l : FrameLock) :
    (if k.losesBy shown then l.onLoss else l).state =
      if k.source = .present ∧ shown = false ∧ l.state = .track then .holdover else l.state := by
  by_cases hl : k.losesBy shown = true
  · obtain ⟨hpresent, hhidden⟩ := Sink.losesBy_iff.mp hl
    rw [if_pos hl, FrameLock.onLoss_state]
    simp only [hpresent, hhidden, true_and]
  · rw [if_neg hl, if_neg (fun h => hl (Sink.losesBy_iff.mpr ⟨h.1, h.2.1⟩))]

/-- A cause that an operation on both ports raises at one of them is pending after it (R172). -/
theorem State.isPending_onOuts_isIn {s : State} {p : PortId} {o : OutPort} {f : OutPort → OutPort × Half} {c : Cause}
    (hp : s.port p = .output o) (hc : c.isIn (f o).2) : (s.onOuts f).isPending c = true := by
  unfold State.onOuts
  cases p with
  | a =>
    refine State.isPending_onOut_of _ _ _ c ?_
    rw [s.onOut_output .a o f hp]
    exact State.isPending_raise_isIn hc
  | b =>
    rw [State.onOut_output _ .b o f ((State.onOut_port_ne _ _ _ _ (by decide)).trans hp)]
    exact State.isPending_raise_isIn hc

/-! ### A report of the table to the station -/

section TableReport

variable {s : State} {st : StationNo}

/-- A report changes the published demand alone of the Station View (R71). -/
theorem State.tableReport_view :
    (s.tableReport st).view = { s.view with demand := (s.tableReport st).view.demand } := by
  rw [State.tableReport, State.recomputeDemand_view, State.onOuts_view]

/-- The published demand after a report is that of the ports and the table (R71). -/
theorem State.tableReport_demand : (s.tableReport st).view.demand =
    ((s.tableReport st).portA.outAnd OutPort.engaged || (s.tableReport st).portB.outAnd OutPort.engaged ||
      (s.tableReport st).view.table.any TableEntry.demand) := by
  rw [State.tableReport, State.recomputeDemand_demand, ← State.port_a, ← State.port_b, State.recomputeDemand_outAnd,
    State.recomputeDemand_outAnd, State.recomputeDemand_view]
  rfl

/-- A report at an output port with nothing due, and the causes it raises there (R107, log 2). -/
theorem State.tableReport_output {p : PortId} {o : OutPort} (hp : s.port p = .output o) (hq : o.quiet s.tick = true) :
    (s.tableReport st).port p = .output (o.tableReport s.view.table st).1 ∧
      ∀ c : Cause, c.isIn (o.tableReport s.view.table st).2 → (s.tableReport st).isPending c = true := by
  have hdue : OutPort.dueFirst (OutPort.tableReport s.view.table st) o = o.tableReport s.view.table st :=
    OutPort.dueFirst_quiet s.tick _ o hq
  refine ⟨?_, fun c hc => ?_⟩
  · rw [State.tableReport, State.recomputeDemand_port_out _ p _ (State.onOuts_port s p o _ hp), hdue]
  · rw [State.isPending, State.tableReport, State.recomputeDemand_att]
    exact State.isPending_onOuts_isIn hp (hdue ▸ hc)

/-- A report at an input port: a change of the demand settles its streams (R81, R82, R45). -/
theorem State.tableReport_input {p : PortId} {q : InPort} (hp : s.port p = .input q) :
    ((s.tableReport st).view.demand = s.view.demand → (s.tableReport st).port p = .input q) ∧
      ((s.tableReport st).view.demand ≠ s.view.demand →
        (s.tableReport st).port p = .input { q with streams := q.streams.map (fun k =>
          k.moveTo (settledState s.node.state q.geometry (s.tableReport st).view.demand k.win)) } ∧
        ∀ (i : Nat) (k : Stream), q.streams[i]? = some k → k.state ≠ .suspended →
          settledState s.node.state q.geometry (s.tableReport st).view.demand k.win = .suspended → ∀ e,
          (e ∈ (s.tableReport st).sched.safeQ ∨ e ∈ (s.tableReport st).sched.normalQ) → e.index ≠ streamIndex p i) := by
  unfold State.tableReport
  generalize hs : s.onOuts (OutPort.dueFirst (OutPort.tableReport s.view.table st)) = s1
  have hview : s1.view = s.view := by rw [← hs, State.onOuts_view]
  have hnode : s1.node = s.node := by rw [← hs, State.onOuts_node]
  have hport : s1.port p = .input q := by rw [← hs, State.onOuts_port_in _ _ _ (by simp [hp]), hp]
  rw [State.recomputeDemand_demand, ← hview, ← hnode]
  exact State.recomputeDemand_port_in hport

end TableReport

/-- Settles O25: what a census copy does. -/
theorem censusCopyRefreshes : Obligations.CensusCopyRefreshes := by
  constructor
  · intro s r hrun hup hstage hcourse hrep hkind hgood hcensus
    rw [exec_endEvent .eop hrun hup hstage, Reception.goodAt_eop hgood, State.filterEnd, hcourse, hrep, hkind]
    dsimp only
    rw [if_pos rfl, State.censusCopy_none _ _ hcensus, State.atEnd_good_forward hgood hcourse]
  · intro s r c hrun hup hstage hcourse hrep hkind hgood hcensus
    have hexec := exec_endEvent .eop hrun hup hstage
    have hfilter : (s.atEnd r .eop).filterEnd r (r.goodAt .eop) =
        ((s.atEnd r .eop).entered r.hdr.source r.hdr.hop c).tableReport r.hdr.source := by
      rw [Reception.goodAt_eop hgood, State.filterEnd, hcourse, hrep, hkind]
      dsimp only
      rw [if_pos rfl, State.censusCopy_some _ _ hcensus]
    rw [hfilter] at hexec
    have hports : ∀ p, ((s.atEnd r .eop).entered r.hdr.source r.hdr.hop c).port p = s.port p := fun p => by cases p <;> rfl
    have htable := entryFor_insertEntry_same (copyEntry r.hdr.source r.hdr.hop s.tick c) s.view.table
    have hview := State.tableReport_view (s := (s.atEnd r .eop).entered r.hdr.source r.hdr.hop c) (st := r.hdr.source)
    refine ⟨_, hexec, ?_, fun n hn => ?_, ?_, ?_, State.tableReport_svc _ _, State.tableReport_node _ _,
      fun p role o k x hp hquiet hk ha hx => ?_, State.tableReport_demand, fun p q hp => ?_⟩
    · rw [hview]; exact htable
    · rw [hview]; exact entryFor_insertEntry_other hn _
    · rw [hview]; rfl
    · rw [hview]; rfl
    · intro shown
      obtain ⟨hport, hpending⟩ := State.tableReport_output (st := r.hdr.source) ((hports p).trans hp) hquiet
      obtain ⟨hsink, hpres, hlock, hloss, hlate, hcam⟩ := OutPort.tableReport_spec htable hk ha hx
      rw [showsPresent_of_entry hx htable] at hsink hlock hloss hlate
      obtain ⟨hactive, hnonce, hpresented, habsent, hpresent, hlost, hkept, hgone⟩ := k.reported_spec c.nonce shown
      refine ⟨_, k.reported c.nonce shown, hport, hsink, hactive.trans ha, hnonce, hpresented, hpres, habsent, hpresent, hlost,
        fun h1 h2 => hpending _ (hloss (Sink.losesBy_iff.mpr ⟨h1, h2⟩)),
        fun hmain => (congrArg FrameLock.state (hlock hmain)).trans (k.losesBy_lockState shown o.lock),
        fun h1 h2 hshowing hmode => ?_, fun h => hcam (OutPort.showsBy_none h), hkept, hgone⟩
      obtain ⟨hcamera, hcause⟩ := hlate (Sink.losesBy_iff.mpr ⟨h1, h2⟩) ((o.showsBy_iff role).mpr ⟨hshowing, hmode⟩)
      exact ⟨hcamera, hpending _ hcause, hpending _ hcause⟩
    · obtain ⟨hsame, hchanged⟩ := State.tableReport_input (st := r.hdr.source) ((hports p).trans hp)
      refine ⟨hsame, fun hne hstate => ?_⟩
      obtain ⟨hsettled, hgone⟩ := hchanged hne
      simp only [State.entered, State.atEnd_node, settledState_full ((NodeState.full_iff _).mpr hstate)] at hsettled hgone
      exact ⟨hsettled, hgone⟩

end Sys2Proof.Machine
end

section
/-! PROOFS. A marker fixed at its header event for the sink records that name its stream, and given to them at its good end (R29,
R103, R109, R110, R118, R182). -/

namespace Sys2Proof.Machine

/-! ### The records a marker is fixed for -/

theorem State.markTakers_nodup (s : State) (h : Header) : (s.markTakers h).Nodup := List.Nodup.filter _ (by decide)

/-- The records that name the marker's stream (R29). -/
theorem State.mem_markTakers (s : State) (h : Header) (p : PortId) (role : Role) : ⟨p, role⟩ ∈ s.markTakers h ↔
    ∃ o k, s.port p = .output o ∧ o.sink role = some k ∧ k.active = some h.stream := by
  have hall : (⟨p, role⟩ : SinkId) ∈ allSinks := by cases p <;> cases role <;> decide
  rw [State.markTakers, List.mem_filter, State.subscribed]
  cases s.port p with
  | output o => simp [hall, Port.outAnd, Option.any_eq_true]
  | input q => simp [Port.outAnd]
  | unused k => simp [Port.outAnd]

theorem State.reception_markTo {s : State} {h : Header} (hc : courseOf s.node.station h = .forward)
    (ho : s.node.state.offers = true) : (s.reception h .mark).markTo = s.markTakers h := by
  refine if_pos ?_
  simp [hc, ho]

/-! ### What was due on the port (log 2) -/

/-- The Frame Lock of a port after a run-out holdover, if it has one, has been taken (R130). -/
def OutPort.dueLock (o : OutPort) : FrameLock := if o.lock.runOut o.cfg then o.lock.enterFree o.cfg else o.lock

/-- Nothing is due on the port but the end of a holdover. -/
structure OutPort.Calm (o : OutPort) : Prop where
  main : o.main.silenceDue = false
  overlay : ∀ v, o.overlay = some v → v.silenceDue = false
  stretch : ∀ x, o.lock.stretch = some x → x.limit = false

theorem OutPort.Calm.dueLock_stretch {o : OutPort} (h : o.Calm) : ∀ x, o.dueLock.stretch = some x → x.limit = false := by
  unfold OutPort.dueLock
  split_ifs
  · intro x hx
    obtain ⟨y, hy, rfl⟩ := Option.map_eq_some_iff.mp hx
    exact h.stretch y hy
  · exact h.stretch

theorem OutPort.limitReached_false {o : OutPort} (h : ∀ x, o.lock.stretch = some x → x.limit = false) (st : LockState) :
    o.limitReached st = false := by
  unfold OutPort.limitReached
  split
  · rfl
  · rename_i x hx; simp [h x hx]

/-- Of a calm port the end of its holdover alone is taken first (R130, log 2). -/
theorem OutPort.Calm.settle {o : OutPort} (h : o.Calm) : o.settle = ({ o with lock := o.dueLock }, noCause) := by
  have hmain : o.silentLoss .main = (o, noCause) := by simp [OutPort.silentLoss, OutPort.sink, h.main]
  have hoverlay : o.silentLoss .overlay = (o, noCause) := by
    unfold OutPort.silentLoss OutPort.sink; dsimp only
    cases hk : o.overlay with
    | none => rfl
    | some k => simp [h.overlay k hk]
  have hend : o.holdoverEnd = ({ o with lock := o.dueLock }, noCause) := by
    unfold OutPort.holdoverEnd OutPort.dueLock; split_ifs <;> rfl
  have hlimit := OutPort.limitReached_false (o := { o with lock := o.dueLock }) h.dueLock_stretch
  simp [OutPort.settle, hmain, hoverlay, hend, OutPort.holdGiveUp, OutPort.stretchEnd, hlimit]

theorem OutPort.Calm.dueFirst {o : OutPort} (h : o.Calm) (f : OutPort → OutPort × Half) :
    o.dueFirst f = f { o with lock := o.dueLock } := by
  unfold OutPort.dueFirst
  rw [h.settle]
  simp

/-- Once the end of a holdover has been taken none is due. -/
theorem OutPort.dueLock_runOut (o : OutPort) : o.dueLock.runOut o.cfg = false := by
  unfold OutPort.dueLock
  split_ifs with h
  · rfl
  · simpa using h

theorem OutPort.dueLock_of_same {o o' : OutPort} (hcfg : o'.cfg = o.cfg) (h : o'.lock = o.lock ∨ o'.lock = o.dueLock) :
    o'.dueLock = o.dueLock := by
  rcases h with h | h
  · rw [OutPort.dueLock, OutPort.dueLock, h, hcfg]
  · have hnone : o'.lock.runOut o'.cfg = false := by rw [h, hcfg, o.dueLock_runOut]
    rw [OutPort.dueLock, hnone, h]; rfl

/-! ### A marker at one record -/

/-- The record takes a marker of this stream and frame (R103). -/
def Sink.takesMark (stream : StreamId) (n : Half) (k : Sink) : Bool := k.active == some stream && k.acceptsMarker n

/-- The height limit of a record of this role (6.1). -/
def Sink.heightLimit (c : OutCfg) (role : Role) (k : Sink) : Nat :=
  match role with
  | .main => c.va
  | .overlay => c.va - k.y

/-- What a record makes of a marker given to it (R103, R109, R110). -/
def Sink.marked (c : OutCfg) (t : List TableEntry) (stream : StreamId) (f : FrameInfo) (role : Role) (k : Sink) : Sink :=
  if k.takesMark stream f.no then
    { k.openFrame (k.heightLimit c role) f with
      source := k.sourceAfterMarker t, mismatch := k.mismatch || sizeMismatch c role k f }
  else k

/-- The record raises GEOMETRY_MISMATCH at a marker given to it (R110). -/
def Sink.mismatches (c : OutCfg) (stream : StreamId) (f : FrameInfo) (role : Role) (k : Sink) : Bool :=
  k.takesMark stream f.no && (!k.mismatch && sizeMismatch c role k f)

section Marker

variable {t : List TableEntry} {stream : StreamId} {f : FrameInfo} {role : Role} {o : OutPort} {k : Sink}

/-- A marker given to a record, with the Frame Lock's move for a MAIN one and the cause it raises (R103, R110, R118). -/
theorem OutPort.marker_some (hk : o.sink role = some k) : o.marker t stream f role =
    ({ o.mapSink role (fun _ => k.marked o.cfg t stream f role) with
        lock := if role = .main ∧ k.takesMark stream f.no = true then o.lock.onMarker o.cfg (some stream) else o.lock },
      Cause.geometryMismatch.when (k.mismatches o.cfg stream f role)) := by
  have htakes : k.takesMark stream f.no = true ↔ k.active = some stream ∧ k.acceptsMarker f.no = true := by
    simp [Sink.takesMark]
  have hlimit : o.limit role k = k.heightLimit o.cfg role := by cases role <;> rfl
  unfold OutPort.marker Sink.marked Sink.mismatches
  rw [hk]; dsimp only
  by_cases h : k.active = some stream ∧ k.acceptsMarker f.no = true
  · have hbad : (k.mismatch || !k.mismatch && sizeMismatch o.cfg role k f) = (k.mismatch || sizeMismatch o.cfg role k f) := by
      cases k.mismatch <;> rfl
    rw [if_pos h, htakes.mpr h, if_pos rfl, hlimit, hbad, h.1]
    cases role <;> rfl
  · have hno : k.takesMark stream f.no = false := Bool.eq_false_iff.mpr (mt htakes.mp h)
    rw [if_neg h, hno]
    simp only [Bool.false_eq_true, if_false, and_false, Bool.false_and]
    rw [OutPort.mapSink_self o role k hk]
    rfl

theorem OutPort.marker_none (hk : o.sink role = none) : o.marker t stream f role = (o, noCause) := by
  rw [OutPort.marker, hk]

end Marker

section Marker

variable {t : List TableEntry} {stream : StreamId} {f : FrameInfo} {role : Role} {o : OutPort} {k : Sink}

theorem Sink.marked_of_takes {c : OutCfg} (h : k.takesMark stream f.no = true) : k.marked c t stream f role =
    { k.openFrame (k.heightLimit c role) f with
      source := k.sourceAfterMarker t, mismatch := k.mismatch || sizeMismatch c role k f } := if_pos h

theorem Sink.marked_of_refused {c : OutCfg} (h : k.takesMark stream f.no = false) : k.marked c t stream f role = k := by
  rw [Sink.marked, h]; rfl

theorem Sink.mismatches_of_refused {c : OutCfg} (h : k.takesMark stream f.no = false) :
    k.mismatches c stream f role = false := by
  rw [Sink.mismatches, h]; rfl

/-- A marker does not end a silence that is due, nor begin one: the record's silent count stays. -/
theorem Sink.marked_silent {c : OutCfg} : (k.marked c t stream f role).silent = k.silent := by
  unfold Sink.marked
  split_ifs
  · rfl
  · rfl

/-- The Frame Lock of a port whose MAIN record has been given a marker (R118, R130). -/
def OutPort.markedLock (o : OutPort) (stream : StreamId) (n : Half) (k : Sink) : FrameLock :=
  if k.takesMark stream n = true then o.dueLock.onMarker o.cfg (some stream) else o.dueLock

/-- The Frame Lock of a port one of whose records has been given a marker: only a MAIN record moves it. -/
def OutPort.lockGiven (o : OutPort) (stream : StreamId) (n : Half) (role : Role) (k : Sink) : FrameLock :=
  if role = .main then o.markedLock stream n k else o.dueLock

/-- A port after a marker at the record of a role. -/
def OutPort.given (t : List TableEntry) (stream : StreamId) (f : FrameInfo) (role : Role) (o : OutPort) (k : Sink) : OutPort :=
  { o.mapSink role (fun _ => k.marked o.cfg t stream f role) with lock := o.lockGiven stream f.no role k }

/-- A marker given to a record of a calm port, after what was due there (log 2). -/
theorem OutPort.Calm.dueFirst_marker (h : o.Calm) (hk : o.sink role = some k) :
    o.dueFirst (OutPort.marker t stream f role) =
      (o.given t stream f role k, Cause.geometryMismatch.when (k.mismatches o.cfg stream f role)) := by
  have hk' : ({ o with lock := o.dueLock } : OutPort).sink role = some k := by rw [← hk]; cases role <;> rfl
  rw [h.dueFirst, OutPort.marker_some hk', OutPort.given, OutPort.lockGiven, OutPort.markedLock]
  cases role <;> simp [OutPort.mapSink]

theorem FrameLock.onMarker_runOut {l : FrameLock} {c : OutCfg} (h : l.runOut c = false) :
    (l.onMarker c (some stream)).runOut c = false := by
  unfold FrameLock.onMarker
  cases l.state with
  | free => rfl
  | holdover => rfl
  | acquire => exact h
  | track => exact h

theorem FrameLock.onMarker_stretch {l : FrameLock} {c : OutCfg} (h : ∀ x, l.stretch = some x → x.limit = false) :
    ∀ x, (l.onMarker c (some stream)).stretch = some x → x.limit = false := by
  have hacquire : ∀ i, ∀ x, (l.enterAcquire c i).stretch = some x → x.limit = false := by
    intro i x hx
    obtain ⟨y, -, rfl⟩ := Option.map_eq_some_iff.mp hx
    rfl
  unfold FrameLock.onMarker
  cases l.state with
  | free => exact hacquire 0
  | holdover => exact hacquire l.integ
  | acquire => exact h
  | track => exact h

/-- After a marker at its MAIN record nothing is due at the Frame Lock. -/
theorem OutPort.markedLock_runOut {n : Half} : (o.markedLock stream n k).runOut o.cfg = false := by
  unfold OutPort.markedLock
  split_ifs
  · exact FrameLock.onMarker_runOut o.dueLock_runOut
  · exact o.dueLock_runOut

theorem OutPort.Calm.markedLock_stretch {n : Half} (h : o.Calm) :
    ∀ x, (o.markedLock stream n k).stretch = some x → x.limit = false := by
  unfold OutPort.markedLock
  split_ifs
  · exact FrameLock.onMarker_stretch h.dueLock_stretch
  · exact h.dueLock_stretch

theorem OutPort.Calm.given (h : o.Calm) (hk : o.sink role = some k) : (o.given t stream f role k).Calm := by
  cases role with
  | main =>
    obtain rfl : o.main = k := Option.some.inj hk
    exact ⟨by simpa [OutPort.given, OutPort.mapSink, Sink.silenceDue, Sink.marked_silent] using h.main, h.overlay,
      h.markedLock_stretch⟩
  | overlay =>
    refine ⟨h.main, fun v hv => ?_, h.dueLock_stretch⟩
    obtain rfl : k.marked o.cfg t stream f .overlay = v := by
      simpa [OutPort.given, OutPort.mapSink, show o.overlay = some k from hk] using hv
    simpa [Sink.silenceDue, Sink.marked_silent] using h.overlay k hk

theorem OutPort.given_cfg : (o.given t stream f role k).cfg = o.cfg := by cases role <;> rfl
theorem OutPort.given_cam : (o.given t stream f role k).cam = o.cam := by cases role <;> rfl
theorem OutPort.given_pres : (o.given t stream f role k).pres = o.pres := by cases role <;> rfl

theorem OutPort.given_sink (hk : o.sink role = some k) :
    (o.given t stream f role k).sink role = some (k.marked o.cfg t stream f role) := by
  cases role with
  | main => rfl
  | overlay => simp [OutPort.given, OutPort.mapSink, OutPort.sink, show o.overlay = some k from hk]

theorem OutPort.given_sink_ne {role' : Role} (h : role' ≠ role) :
    (o.given t stream f role' k).sink role = o.sink role := by
  cases role with
  | main =>
    cases role' with
    | main => exact absurd rfl h
    | overlay => rfl
  | overlay =>
    cases role' with
    | main => rfl
    | overlay => exact absurd rfl h

end Marker

/-! ### The records in turn -/

/-- A marker given to one of the records it is fixed for, after what was due on its port. -/
def State.giveMark (t : List TableEntry) (stream : StreamId) (f : FrameInfo) (s : State) (k : SinkId) : State :=
  s.onOut k.port (OutPort.dueFirst (OutPort.marker t stream f k.role))

/-- The frame a marker's header and payload word announce (R103). -/
def Reception.marks (r : Reception) : FrameInfo :=
  { no := r.hdr.frame, width := r.hdr.width.toNat, height := markHeight (r.payload.headD 0) }

section Give

variable {t : List TableEntry} {stream : StreamId} {f : FrameInfo} {role : Role} {o : OutPort} {s : State} {p : PortId}

theorem State.giveMark_view (k : SinkId) : (s.giveMark t stream f k).view = s.view := s.onOut_view _ _

/-- The marker is given to its records with the table as it stood at the good end. -/
theorem State.foldl_giveMark_view {g : State → SinkId → State}
    (hg : ∀ s k, g s k = State.giveMark s.view.table stream f s k) (l : List SinkId) :
    l.foldl g s = l.foldl (State.giveMark s.view.table stream f) s := by
  induction l generalizing s with
  | nil => rfl
  | cons k l ih => rw [List.foldl_cons, List.foldl_cons, ih, hg, State.giveMark_view]

theorem State.deliverMark_valid {r : Reception} (h1 : 1 ≤ markHeight (r.payload.headD 0))
    (h2 : markHeight (r.payload.headD 0) ≤ 2048) (hc : markClass (r.payload.headD 0) = r.hdr.clsCode.toNat) :
    s.deliverMark r = r.markTo.foldl (State.giveMark s.view.table r.hdr.stream r.marks) s :=
  (if_pos ⟨h1, h2, hc⟩).trans (State.foldl_giveMark_view (fun _ _ => rfl) _)

/-- A marker whose payload word is not valid reaches no record (R182). -/
theorem State.deliverMark_invalid {r : Reception} (h : markHeight (r.payload.headD 0) = 0 ∨
    2048 < markHeight (r.payload.headD 0) ∨ markClass (r.payload.headD 0) ≠ r.hdr.clsCode.toNat) : s.deliverMark r = s := by
  refine if_neg ?_
  rintro ⟨h1, h2, h3⟩
  rcases h with h | h | h
  · omega
  · omega
  · exact h h3

/-- What a marker at the other record of its port leaves to a record: nothing is changed but that the end of a holdover may
have been taken. -/
structure OutPort.Aside (role : Role) (o o' : OutPort) : Prop where
  calm : o'.Calm
  sink : o'.sink role = o.sink role
  cfg : o'.cfg = o.cfg
  cam : o'.cam = o.cam
  pres : o'.pres = o.pres
  lock : role = .main → o'.lock = o.lock ∨ o'.lock = o.dueLock

theorem OutPort.Calm.aside_self (h : o.Calm) : o.Aside role o := ⟨h, rfl, rfl, rfl, rfl, fun _ => .inl rfl⟩

theorem OutPort.Aside.trans {o1 o2 : OutPort} (h : o.Aside role o1) (h' : o1.Aside role o2) : o.Aside role o2 where
  calm := h'.calm
  sink := h'.sink.trans h.sink
  cfg := h'.cfg.trans h.cfg
  cam := h'.cam.trans h.cam
  pres := h'.pres.trans h.pres
  lock hr := by
    rcases h'.lock hr with h2 | h2
    · rw [h2]; exact h.lock hr
    · exact .inr (h2.trans (OutPort.dueLock_of_same h.cfg (h.lock hr)))

theorem OutPort.Calm.aside_due (h : o.Calm) : o.Aside role { o with lock := o.dueLock } :=
  ⟨⟨h.main, h.overlay, h.dueLock_stretch⟩, by cases role <;> rfl, rfl, rfl, rfl, fun _ => .inr rfl⟩

theorem OutPort.Calm.aside_marker (h : o.Calm) {role' : Role} (hne : role' ≠ role) :
    o.Aside role (o.dueFirst (OutPort.marker t stream f role')).1 := by
  cases hk : o.sink role' with
  | none =>
    have hk' : ({ o with lock := o.dueLock } : OutPort).sink role' = none := by rw [← hk]; cases role' <;> rfl
    rw [h.dueFirst, OutPort.marker_none hk']
    exact h.aside_due
  | some k =>
    rw [h.dueFirst_marker hk]
    refine ⟨h.given hk, OutPort.given_sink_ne hne, OutPort.given_cfg, OutPort.given_cam, OutPort.given_pres, ?_⟩
    rintro rfl
    exact .inr (if_neg hne)

/-- A marker given to other records leaves a record as it is. -/
theorem State.foldl_giveMark_aside {l : List SinkId} (hl : ⟨p, role⟩ ∉ l) (hp : s.port p = .output o) (h : o.Calm) :
    ∃ o', (l.foldl (State.giveMark t stream f) s).port p = .output o' ∧ o.Aside role o' := by
  induction l generalizing s o with
  | nil => exact ⟨o, hp, h.aside_self⟩
  | cons k l ih =>
    obtain ⟨q, role'⟩ := k
    obtain ⟨hk, hl⟩ := not_or.mp (mt List.mem_cons.mpr hl)
    by_cases hq : q = p
    · subst hq
      have hne : role' ≠ role := fun e => hk (by rw [e])
      have hstep := h.aside_marker (t := t) (stream := stream) (f := f) hne
      obtain ⟨o', hp', h'⟩ := ih hl (s.onOut_port q o _ hp) hstep.calm
      exact ⟨o', hp', hstep.trans h'⟩
    · exact ih hl ((s.onOut_port_ne q p _ hq).trans hp) h

/-- A marker given to records of the other port leaves a port as it is. -/
theorem State.foldl_giveMark_elsewhere {l : List SinkId} (hl : ∀ k ∈ l, k.port ≠ p) :
    (l.foldl (State.giveMark t stream f) s).port p = s.port p := by
  induction l generalizing s with
  | nil => rfl
  | cons k l ih =>
    rw [List.foldl_cons, ih (fun x hx => hl x (List.mem_cons_of_mem _ hx))]
    exact s.onOut_port_ne k.port p _ (hl k List.mem_cons_self)

theorem State.foldl_giveMark_pending {l : List SinkId} {c : Cause} (h : s.isPending c = true) :
    (l.foldl (State.giveMark t stream f) s).isPending c = true := by
  induction l generalizing s with
  | nil => exact h
  | cons k l ih => exact ih (s.isPending_onOut_of k.port _ c h)

theorem OutPort.given_dueLock {k : Sink} : (o.given t stream f .main k).dueLock = (o.given t stream f .main k).lock := by
  have h : (o.given t stream f .main k).lock.runOut (o.given t stream f .main k).cfg = false := o.markedLock_runOut
  rw [OutPort.dueLock, h]; rfl

theorem OutPort.markedLock_of_same {o' : OutPort} {n : Half} {k : Sink} (hcfg : o'.cfg = o.cfg)
    (h : o'.lock = o.lock ∨ o'.lock = o.dueLock) : o'.markedLock stream n k = o.markedLock stream n k := by
  rw [OutPort.markedLock, OutPort.markedLock, OutPort.dueLock_of_same hcfg h, hcfg]

theorem Role.eq_of_ne : ∀ {a b role : Role}, a ≠ role → b ≠ role → a = b
  | .main, .main, _, _, _ => rfl
  | .overlay, .overlay, _, _, _ => rfl
  | .main, .overlay, .main, ha, _ => absurd rfl ha
  | .main, .overlay, .overlay, _, hb => absurd rfl hb
  | .overlay, .main, .main, _, hb => absurd rfl hb
  | .overlay, .main, .overlay, ha, _ => absurd rfl ha

/-- A marker given to each of a list of records, seen from one of them: it is given the marker once. Where no other record of
its port is among them, that is all that happens to the port. -/
theorem State.foldl_giveMark_mem {l : List SinkId} {k : Sink} (hmem : ⟨p, role⟩ ∈ l) (hnd : l.Nodup)
    (hp : s.port p = .output o) (h : o.Calm) (hk : o.sink role = some k) :
    ∃ o', (l.foldl (State.giveMark t stream f) s).port p = .output o' ∧
      o'.sink role = some (k.marked o.cfg t stream f role) ∧ o'.cfg = o.cfg ∧ o'.cam = o.cam ∧ o'.pres = o.pres ∧
      (role = .main → o'.lock = o.markedLock stream f.no k) ∧
      (∀ role', role' ≠ role → ⟨p, role'⟩ ∉ l → o' = o.given t stream f role k) ∧
      (k.mismatches o.cfg stream f role = true →
        (l.foldl (State.giveMark t stream f) s).isPending .geometryMismatch = true) := by
  obtain ⟨l1, l2, rfl⟩ := List.append_of_mem hmem
  obtain ⟨-, hnd2, hdisj⟩ := List.nodup_append.mp hnd
  have hl1 : ⟨p, role⟩ ∉ l1 := fun hx => hdisj _ hx _ List.mem_cons_self rfl
  have hl2 : ⟨p, role⟩ ∉ l2 := (List.nodup_cons.mp hnd2).1
  obtain ⟨o1, hp1, h1⟩ := State.foldl_giveMark_aside (t := t) (stream := stream) (f := f) hl1 hp h
  have hk1 : o1.sink role = some k := h1.sink.trans hk
  have hstep := h1.calm.dueFirst_marker (t := t) (stream := stream) (f := f) hk1
  have hp2 := State.onOut_port _ p o1 (OutPort.dueFirst (OutPort.marker t stream f role)) hp1
  rw [hstep] at hp2
  have hcalm2 := h1.calm.given (t := t) (stream := stream) (f := f) hk1
  obtain ⟨o3, hp3, h3⟩ := State.foldl_giveMark_aside (t := t) (stream := stream) (f := f) hl2 hp2 hcalm2
  rw [List.foldl_append, List.foldl_cons]
  refine ⟨o3, hp3, ?_, h3.cfg.trans (OutPort.given_cfg.trans h1.cfg), h3.cam.trans (OutPort.given_cam.trans h1.cam),
    h3.pres.trans (OutPort.given_pres.trans h1.pres), ?_, ?_, ?_⟩
  · rw [h3.sink, OutPort.given_sink hk1, h1.cfg]
  · rintro rfl
    have hlock : o3.lock = (o1.given t stream f .main k).lock := by
      rcases h3.lock rfl with e | e
      · exact e
      · exact e.trans OutPort.given_dueLock
    exact hlock.trans (OutPort.markedLock_of_same h1.cfg (h1.lock rfl))
  · intro role' hne hother
    have hall : ∀ x ∈ l1 ++ l2, x.port ≠ p := by
      rintro ⟨q, r⟩ hx rfl
      by_cases hr : r = role
      · subst hr
        rcases List.mem_append.mp hx with hx | hx
        · exact hl1 hx
        · exact hl2 hx
      · obtain rfl := Role.eq_of_ne hr hne
        refine hother ?_
        rcases List.mem_append.mp hx with hx | hx
        · exact List.mem_append_left _ hx
        · exact List.mem_append_right _ (List.mem_cons_of_mem _ hx)
    have e1 := State.foldl_giveMark_elsewhere (t := t) (stream := stream) (f := f) (s := s)
      (fun x hx => hall x (List.mem_append_left _ hx))
    obtain rfl : o1 = o := Port.output.inj (hp1.symm.trans (e1.trans hp))
    have e2 := State.foldl_giveMark_elsewhere (t := t) (stream := stream) (f := f)
      (s := (l1.foldl (State.giveMark t stream f) s).giveMark t stream f ⟨p, role⟩)
      (fun x hx => hall x (List.mem_append_right _ hx))
    exact Port.output.inj (hp3.symm.trans (e2.trans hp2))
  · intro hmis
    refine State.foldl_giveMark_pending ?_
    rw [State.giveMark, State.onOut_output _ p o1 _ hp1, hstep, h1.cfg, hmis, State.isPending_raise_when]
    simp

/-- A marker given to one record alone raises no cause but its GEOMETRY_MISMATCH. -/
theorem State.giveMark_alone {k : Sink} (hp : s.port p = .output o) (h : o.Calm) (hk : o.sink role = some k) :
    s.giveMark t stream f ⟨p, role⟩ = (s.setPort p (.output (o.given t stream f role k))).raise
      (Cause.geometryMismatch.when (k.mismatches o.cfg stream f role)) := by
  rw [State.giveMark, s.onOut_output p o _ hp, h.dueFirst_marker hk]

end Give

/-! ### What a record taken by a marker becomes -/

/-- A marker's frame is later than another (Conventions, R103). -/
theorem laterFrame_iff (n m : Half) : laterFrame n m = true ↔ 1 ≤ (n - m).toNat ∧ (n - m).toNat < 32768 := by
  simp only [laterFrame, Bool.and_eq_true, decide_eq_true_eq]
  omega

section Taken

variable {t : List TableEntry} {stream : StreamId} {f : FrameInfo} {role : Role} {o : OutPort} {k : Sink} {n : Half}

/-- A record that still names the stream and holds no frame or an earlier one takes the marker (R103). -/
theorem Sink.takesMark_iff : k.takesMark stream n = true ↔
    k.active = some stream ∧ ∀ g, k.cur = some g → 1 ≤ (n - g.no).toNat ∧ (n - g.no).toNat < 32768 := by
  rw [Sink.takesMark, Bool.and_eq_true, beq_iff_eq]
  refine and_congr_right fun _ => ?_
  unfold Sink.acceptsMarker
  cases k.cur with
  | none => simp
  | some g => simp [laterFrame_iff]

theorem Sink.marked_frame {c : OutCfg} (h : k.takesMark stream f.no = true) :
    (k.marked c t stream f role).cur = some f ∧ (k.marked c t stream f role).last = none ∧
      (k.marked c t stream f role).torn = false ∧ (k.marked c t stream f role).overrun = false ∧
      (k.marked c t stream f role).markerSeen = true ∧ (k.marked c t stream f role).queue = k.queue ∧
      (k.marked c t stream f role).presented = k.presented ∧ (k.marked c t stream f role).active = k.active := by
  rw [Sink.marked_of_takes h]
  exact ⟨rfl, rfl, rfl, rfl, rfl, rfl, rfl, rfl⟩

/-- The closed frame counts as torn when it was, or when lines at its end are missing (R103). -/
theorem Sink.marked_tornCount {c : OutCfg} (h : k.takesMark stream f.no = true) : (k.marked c t stream f role).tornCount =
    if k.torn = true ∨ k.tailMissing (k.heightLimit c role) = true then holdInc k.tornCount else k.tornCount := by
  rw [Sink.marked_of_takes h]
  simp only [Sink.openFrame, Sink.closeTorn, Bool.or_eq_true]

theorem Sink.marked_source {c : OutCfg} (h : k.takesMark stream f.no = true) (hs : k.source ≠ .lost) :
    (k.marked c t stream f role).source = k.source := by
  rw [Sink.marked_of_takes h]
  exact if_neg fun hl => hs hl.1

theorem showsPresent_eq_any (t : List TableEntry) (x : StreamId) : showsPresent t x =
    (entryFor t (sourceOf x)).any (fun e => e.state == .run && e.offers.any (fun y => y.index == indexOf x && !y.suspended)) := by
  unfold showsPresent
  cases entryFor t (sourceOf x) <;> rfl

/-- A LOST source is PRESENT again when the table shows the stream (R109). -/
theorem Sink.marked_source_lost {c : OutCfg} (h : k.takesMark stream f.no = true) (hs : k.source = .lost) :
    (k.marked c t stream f role).source = if showsPresent t stream = true then .present else .lost := by
  have hshown : k.shown t = showsPresent t stream := by rw [Sink.shown, (Sink.takesMark_iff.mp h).1]
  rw [Sink.marked_of_takes h, ← hshown, ← hs]
  exact if_congr (and_iff_right hs) (by rfl) (by rfl)

theorem Sink.marked_mismatch {c : OutCfg} (h : k.takesMark stream f.no = true) :
    (k.marked c t stream f role).mismatch = (k.mismatch || sizeMismatch c role k f) := by
  rw [Sink.marked_of_takes h]

theorem Sink.mismatches_of_takes {c : OutCfg} (h : k.takesMark stream f.no = true) :
    k.mismatches c stream f role = (!k.mismatch && sizeMismatch c role k f) := by
  rw [Sink.mismatches, h]; rfl

/-- A MAIN record's marker fits when it has the panel's size (R110). -/
theorem sizeMismatch_main (c : OutCfg) (k : Sink) (f : FrameInfo) :
    sizeMismatch c .main k f = !(f.width == c.ha && f.height == c.va) := (Bool.not_and _ _).symm

/-- An OVERLAY record's marker fits when its rectangle lies in the panel (R110). -/
theorem sizeMismatch_overlay (c : OutCfg) (k : Sink) (f : FrameInfo) :
    sizeMismatch c .overlay k f = !(decide (k.x + f.width ≤ c.ha) && decide (k.y + f.height ≤ c.va)) := by
  simp only [sizeMismatch, Bool.not_and, ← decide_not, Nat.not_le]

/-! ### The Frame Lock of a MAIN record given a marker -/

theorem OutPort.dueLock_of_not_runOut (h : o.lock.runOut o.cfg = false) : o.dueLock = o.lock := by
  rw [OutPort.dueLock, h]; rfl

theorem OutPort.markedLock_of_refused (h : k.takesMark stream n = false) : o.markedLock stream n k = o.dueLock := by
  rw [OutPort.markedLock, h]; rfl

/-- A FREE or HOLDOVER lock enters ACQUIRE; another keeps its state (R118). -/
theorem OutPort.markedLock_state (h : k.takesMark stream n = true) : (o.markedLock stream n k).state =
    if o.lock.state = .free ∨ o.lock.state = .holdover then .acquire else o.lock.state := by
  rw [OutPort.markedLock, if_pos h, OutPort.dueLock]
  split_ifs with hout hstate hstate
  · rfl
  · rw [FrameLock.runOut, Bool.and_eq_true, beq_iff_eq] at hout
    exact absurd (.inr hout.1) hstate
  · rcases hstate with hs | hs <;> rw [FrameLock.onMarker, hs] <;> rfl
  · unfold FrameLock.onMarker
    cases hs : o.lock.state with
    | free => exact absurd (.inl hs) hstate
    | holdover => exact absurd (.inr hs) hstate
    | acquire => exact hs
    | track => exact hs

/-- From HOLDOVER the lock keeps its integrator, unless the holdover had run out (R118, R130, log 2). -/
theorem OutPort.markedLock_integ (h : k.takesMark stream n = true) (hs : o.lock.state = .holdover) :
    (o.markedLock stream n k).integ = if o.lock.runOut o.cfg = true then 0 else o.lock.integ := by
  rw [OutPort.markedLock, if_pos h, OutPort.dueLock]
  split_ifs with hout
  · rfl
  · rw [FrameLock.onMarker, hs]; rfl

/-- A lock that acquires or tracks stays as it is (R118). -/
theorem OutPort.markedLock_locked (h : k.takesMark stream n = true) (hs : o.lock.state = .acquire ∨ o.lock.state = .track) :
    o.markedLock stream n k = o.lock := by
  have hout : o.lock.runOut o.cfg = false := by rcases hs with hs | hs <;> rw [FrameLock.runOut, hs] <;> rfl
  rw [OutPort.markedLock, if_pos h, OutPort.dueLock_of_not_runOut hout, FrameLock.onMarker]
  rcases hs with hs | hs <;> rw [hs]

end Taken

/-! ### The statement -/

/-- At its header event a marker is fixed for the records that name its stream (R29). -/
theorem exec_headerEvent_mark {s : State} {w0 w1 w2 w3 : Word} (hrun : s.running) (hup : s.link.state = .up)
    (hstage : s.link.stage = .header [w0, w1, w2]) (hgood : headerGood w0 w1 w2 w3 = true)
    (hstate : s.node.state = .run ∨ s.node.state = .mute) (hsource : (Header.ofWords w0 w1 w2 w3).source ≠ s.node.station)
    (hhop : (Header.ofWords w0 w1 w2 w3).hop ≠ 15) (hfill : fillOf s.link.transit + 4 ≤ 4096)
    (hcode : (Header.ofWords w0 w1 w2 w3).kindCode = 1) : ∃ t r, exec (.headerEvent w3) s = .next t ∧
      t.link.stage = .body r ∧ r.markTo = s.counted.markTakers (Header.ofWords w0 w1 w2 w3) := by
  obtain ⟨k, hkind, hexec⟩ := exec_headerEvent_good hrun hup hstage hgood
  obtain ⟨-, hmark, -, -⟩ := Header.kind_eq_some_iff hkind
  obtain rfl := hmark.mpr hcode
  have hcourse : courseOf s.counted.node.station (Header.ofWords w0 w1 w2 w3) = .forward := courseOf_forward hsource hhop
  have hoffers : s.counted.node.state.offers = true := by
    rw [State.counted_node]
    rcases hstate with h | h <;> rw [h] <;> rfl
  obtain ⟨l, hl⟩ := State.decideHeader_forward (k := .mark) hcourse hfill
  rw [hl] at hexec
  exact ⟨_, _, hexec, rfl, State.reception_markTo hcourse hoffers⟩

/-- At a good end a marker in reception is delivered to the records fixed for it (R29). -/
theorem exec_endEvent_mark {s : State} {r : Reception} (hrun : s.running) (hup : s.link.state = .up)
    (hstage : s.link.stage = .body r) (hcourse : r.course = .forward) (hrep : r.repeater = false) (hkind : r.kind = .mark)
    (hgood : r.endsGood = true) : exec (.endEvent .eop) s = .next ((s.atEnd r .eop).deliverMark r) := by
  rw [exec_endEvent .eop hrun hup hstage, Reception.goodAt_eop hgood, State.filterEnd, hcourse, hrep, hkind]
  rfl

/-- Settles O24: a marker at the sink records. -/
theorem markerAccepted : Obligations.MarkerAccepted := by
  refine ⟨?_, ?_, ?_⟩
  · intro s w0 w1 w2 w3 hrun hup hstage hgood hstate hsource hhop hfill hcode
    obtain ⟨t, r, hexec, hbody, hto⟩ := exec_headerEvent_mark hrun hup hstage hgood hstate hsource hhop hfill hcode
    refine ⟨t, r, hexec, hbody, hto ▸ State.markTakers_nodup _ _, fun p role => ?_⟩
    rw [hto, State.mem_markTakers, State.counted_port]
  · intro s r p role o k hrun hup hstage hcourse hrep hkind hgood hmem hnd hp hk hlow hhigh hcls hmain hoverlay hstretch
      later f limit tail fits out
    have hcalm : o.Calm := ⟨decide_eq_false (Nat.not_le.mpr hmain), fun v hv => decide_eq_false (Nat.not_le.mpr (hoverlay v hv)),
      hstretch⟩
    have hexec := exec_endEvent_mark hrun hup hstage hcourse hrep hkind hgood
    rw [State.deliverMark_valid hlow hhigh hcls] at hexec
    have hp0 : (s.atEnd r .eop).port p = .output o := by rw [State.atEnd_port, hp]
    obtain ⟨o', hport, hsink, hcfg, hcam, hpres, hlock, halone, hpending⟩ := State.foldl_giveMark_mem
      (t := s.view.table) (stream := r.hdr.stream) (f := r.marks) hmem hnd hp0 hcalm hk
    have hsize : sizeMismatch o.cfg role k r.marks = !fits := by
      cases role with
      | main => exact sizeMismatch_main _ _ _
      | overlay => exact sizeMismatch_overlay _ _ _
    have hkept : out = false → o.dueLock = o.lock := OutPort.dueLock_of_not_runOut
    refine ⟨_, o', _, hexec, hport, hsink, hpres, hcam, hcfg, ?_, ?_, ?_, ?_⟩
    · rintro rfl hother
      rw [halone .overlay (by decide) hother]; rfl
    · rintro rfl hother
      rw [halone .main (by decide) hother]
      exact ⟨rfl, hkept⟩
    · intro hrefused
      have hno : k.takesMark r.hdr.stream r.marks.no = false := by
        rw [Bool.eq_false_iff, Ne, Sink.takesMark_iff]
        rintro ⟨hactive, hlater⟩
        rcases hrefused with h | ⟨g, hcur, hg⟩
        · exact h hactive
        · exact hg (hlater g hcur)
      refine ⟨Sink.marked_of_refused hno, fun hrole hout => ?_, fun hone => ?_⟩
      · rw [hlock hrole, OutPort.markedLock_of_refused hno, hkept hout]
      · rw [hone, List.foldl_cons, List.foldl_nil, State.giveMark_alone hp0 hcalm hk, Sink.mismatches_of_refused hno]
        exact (congrArg State.att (State.raise_noCause _)).trans (State.setPort_att _ _ _)
    · intro hactive hlater
      have htakes : k.takesMark r.hdr.stream r.marks.no = true := Sink.takesMark_iff.mpr ⟨hactive, hlater⟩
      obtain ⟨hcur, hlast, htorn, hoverrun, hseen, hqueue, hpresented, hact⟩ := Sink.marked_frame
        (c := o.cfg) (t := s.view.table) (role := role) htakes
      have hmis := Sink.mismatches_of_takes (c := o.cfg) (role := role) htakes
      rw [hsize] at hmis
      refine ⟨hcur, hlast, htorn, hoverrun, hseen, hqueue, hpresented, hact, Sink.marked_tornCount htakes,
        Sink.marked_source htakes, fun hs => ?_, fun hrole => ⟨?_, fun hs => ?_, fun hs => ?_⟩, ?_, fun h1 h2 => ?_,
        fun hone => ?_⟩
      · rw [Sink.marked_source_lost htakes hs, showsPresent_eq_any]
      · rw [hlock hrole, OutPort.markedLock_state htakes]
      · rw [hlock hrole]; exact OutPort.markedLock_integ htakes hs
      · rw [hlock hrole, OutPort.markedLock_locked htakes hs]
      · rw [Sink.marked_mismatch htakes, hsize]
      · exact hpending (by rw [hmis, h1, h2]; rfl)
      · rw [hone, List.foldl_cons, List.foldl_nil, State.giveMark_alone hp0 hcalm hk, hmis, State.isPending_raise_when]
        exact congrArg (· || _) (by simp [State.isPending])
  · intro s r hrun hup hstage hcourse hrep hkind hgood hbad
    rw [exec_endEvent_mark hrun hup hstage hcourse hrep hkind hgood, State.deliverMark_invalid hbad,
      State.atEnd_good_forward hgood hcourse]

end Sys2Proof.Machine
end

section
/-! PROOFS. The normal credit at a tick, and the three timers that set STARVED, clear YIELD and build the census (R44, R46, R49,
R51, R52, R61, R62, R80, R159). -/

namespace Sys2Proof.Machine

/-! ### The credit at a tick -/

/-- Settles O36: a tick with nothing due only counts, and the credit is that of a full station's refill or as it was. -/
theorem tickRefillsCredit : Obligations.TickRefillsCredit := by
  intro s reverse wake hrun hquiet
  refine ⟨_, exec_microsecondTick_quiet s reverse wake hrun hquiet, ?_⟩
  simp only [State.countTick_credit, creditAfterTick, NodeState.full_iff, refillOf]

/-! ### The own demand and the offered streams -/

theorem OutPort.engaged_iff (o : OutPort) : o.engaged = true ↔ o.cfg.camMode ≠ .none ∧ o.cam.state ≠ .idle := by
  simp [OutPort.engaged, OutPort.hasCamera]

theorem Port.outAnd_iff (q : Port) (f : OutPort → Bool) : q.outAnd f = true ↔ ∃ o, q = .output o ∧ f o = true := by
  cases q <;> simp [Port.outAnd]

/-- A test holds on one of the two ports, said for a port by its name. -/
theorem State.outAnd_or_iff (s : State) (f : OutPort → Bool) :
    (s.portA.outAnd f || s.portB.outAnd f) = true ↔ ∃ p o, s.port p = .output o ∧ f o = true := by
  rw [Bool.or_eq_true, Port.outAnd_iff, Port.outAnd_iff]
  constructor
  · rintro (⟨o, hp, ho⟩ | ⟨o, hp, ho⟩)
    · exact ⟨.a, o, hp, ho⟩
    · exact ⟨.b, o, hp, ho⟩
  · rintro ⟨p, o, hp, ho⟩
    cases p
    · exact .inl ⟨o, hp, ho⟩
    · exact .inr ⟨o, hp, ho⟩

/-- The own demand is that some camera-mode port is not IDLE (R159). -/
theorem State.ownDemand_iff (s : State) :
    s.ownDemand = true ↔ ∃ p o, s.port p = .output o ∧ o.cfg.camMode ≠ .none ∧ o.cam.state ≠ .idle := by
  rw [State.ownDemand, State.outAnd_or_iff]
  simp only [OutPort.engaged_iff]

/-- The number of a stream is its window's, counted from that of its port (R80). -/
theorem streamIndex_eq (p : PortId) (i : Nat) : streamIndex p i = BitVec.ofNat 3 ((if p = .a then 0 else 4) + i) := by
  cases p <;> simp [streamIndex]

/-- The offered streams are those of the enabled windows, in order (R80). -/
theorem offersFrom_eq (p : PortId) (i : Nat) (ks : List Stream) :
    offersFrom p i ks = ((ks.zipIdx i).filter (fun k => k.1.win.enabled)).map (fun k => k.1.offer p k.2) := by
  induction ks generalizing i with
  | nil => rfl
  | cons k ks ih =>
    rw [offersFrom, List.zipIdx_cons, ih]
    cases hk : k.win.enabled <;> simp [hk]

/-- The low six bits of a value drawn are its remainder by 64 (R61). -/
theorem nextPeriod_eq (v : Half) : nextPeriod v = 1000 + v.toNat % 64 := by
  have hmask : (v &&& 63#16).toNat = v.toNat % 64 := by
    rw [BitVec.toNat_and]; exact Nat.and_two_pow_sub_one_eq_mod v.toNat 6
  rw [nextPeriod, hmask]

/-! ### The timers -/

theorem exec_starvedSet {s : State} (hrun : s.running) : exec .starvedSet s = .next s.setStarved :=
  live_running State.setStarved s hrun

theorem exec_yieldExpiry {s : State} (hrun : s.running) : exec .yieldExpiry s = .next s.clearYield :=
  live_running State.clearYield s hrun

theorem exec_censusTimerExpiry {s : State} (hrun : s.running) : exec .censusTimerExpiry s = .next s.censusExpiry :=
  live_running State.censusExpiry s hrun

/-- Settles O38: STARVED set, YIELD cleared, and the census built at the expiry of its timer. -/
theorem timersExpire : Obligations.TimersExpire := by
  refine ⟨⟨fun s e rest hrun hq hclear hwait => ?_, fun s hrun hy ht => ?_⟩, fun s n own hrun hload htimer hnonce hown => ?_⟩
  · have hdue : s.starvedDue = true := by simp [State.starvedDue, hq, hclear, PicEntry.wait, hwait]
    rw [exec_starvedSet hrun, State.setStarved, if_pos hdue]
    rfl
  · have hdue : s.yieldDue = true := by simp [State.yieldDue, hy, ht]
    rw [exec_yieldExpiry hrun, State.clearYield, if_pos hdue]
  · have hdue : s.censusDue = true := by simp [State.censusDue, htimer, hload]
    have hdemand : s.ownDemand = own := Bool.eq_iff_iff.mpr (s.ownDemand_iff.trans hown.symm)
    rw [exec_censusTimerExpiry hrun, State.censusExpiry, if_pos hdue, nextPeriod_eq, State.censusPayload, hnonce, hdemand,
      State.offers, offersFrom_eq, offersFrom_eq]
    simp only [Stream.offer, streamIndex_eq]
    rfl

end Sys2Proof.Machine
end

section
/-! PROOFS. The header of a local parcel and the scheduler's choice at a free link: what starts, and the words it sends (R14, R17,
R37 to R41, R47, R50, R60, R63, R169, 12.1, 12.4). -/

namespace Sys2Proof.Machine

/-! ### Headers and their words -/

/-- A header is read back from its four words (12.1): each field follows those below it in its word. -/
theorem Header.ofWords_words (h : Header) : Header.ofWords h.word0 h.word1 h.word2 h.word3 = h := by
  cases h
  rw [Header.ofWords, Header.mk.injEq, Header.word0, Header.word1, Header.word2, Header.word3]
  refine ⟨?_, ?_, ?_, ?_, ?_, ?_, ?_, ?_, ?_, ?_, ?_, ?_, ?_⟩
  all_goals repeat rw [BitVec.extractLsb'_append_eq_of_le (by decide)]
  exacts [BitVec.extractLsb'_eq_self, BitVec.extractLsb'_append_eq_right, BitVec.extractLsb'_append_eq_right,
    BitVec.extractLsb'_append_eq_right, BitVec.extractLsb'_append_eq_right, BitVec.extractLsb'_append_eq_right,
    BitVec.extractLsb'_append_eq_right, BitVec.extractLsb'_eq_self, BitVec.extractLsb'_append_eq_right,
    BitVec.extractLsb'_eq_self, BitVec.extractLsb'_append_eq_right, BitVec.extractLsb'_eq_self,
    BitVec.extractLsb'_append_eq_right]

/-- The CRC of a sealed header is that of its words as they arrive (12.4). -/
theorem Header.sealed_crc (h : Header) :
    h.sealed.crc = arrivingCrc h.sealed.word0 h.sealed.word1 h.sealed.word2 h.sealed.word3 := by
  have hword : h.sealed.word3.extractLsb' 16 16 ++ 0#16 = Header.word3 { h.sealed with crc := 0 } := by
    rw [Header.word3, BitVec.extractLsb'_append_eq_left]
    rfl
  rw [arrivingCrc, hword]
  rfl

/-- A sealed header whose fields keep to R181 arrives good (R7). -/
theorem Header.sealed_good {h : Header} (hok : h.fieldsOk = true) :
    headerGood h.sealed.word0 h.sealed.word1 h.sealed.word2 h.sealed.word3 = true := by
  rw [headerGood, Header.ofWords_words, ← Header.sealed_crc, beq_self_eq_true, Bool.true_and]
  exact hok

/-! ### The headers of local parcels -/

theorem ParcelKind.ofCode_code (k : ParcelKind) : ParcelKind.ofCode k.code.toNat = some k := by cases k <;> rfl
theorem ParcelClass.ofCode_code (c : ParcelClass) : ParcelClass.ofCode c.code.toNat = some c := by cases c <;> rfl
theorem RingFormat.ofCode_code (f : RingFormat) : RingFormat.ofCode f.code.toNat = some f := by cases f <;> rfl

/-- No line of a permitted width has more payload words than pixels (12.3). -/
theorem lineWords_le (f : RingFormat) (w : Nat) : lineWords f w ≤ w := by
  cases f <;> simp only [lineWords] <;> omega

/-- The classes of a picture fit LINE and MARK (R181). -/
theorem classFits_picture {c : ParcelClass} (h : c ≠ .control) (mark : Bool) :
    classFits (if mark then .mark else .line) (some c) = true := by
  cases c with
  | safe => cases mark <;> rfl
  | normal => cases mark <;> rfl
  | control => exact absurd rfl h

/-- A picture entry within the ranges of R181 has a header within them. -/
theorem PicEntry.header_fieldsOk (station : StationNo) {e : PicEntry} (hcls : e.cls ≠ .control) (hlow : 1 ≤ e.width)
    (hhigh : e.width ≤ 2048) (hlen : e.len = if e.isMark then 1 else lineWords e.fmt e.width) :
    (e.header station).fieldsOk = true := by
  have hkind : (e.header station).kind = some e.kind := ParcelKind.ofCode_code _
  have hclass : ParcelClass.ofCode (e.header station).clsCode.toNat = some e.cls := ParcelClass.ofCode_code _
  have hfmt : RingFormat.ofCode (e.header station).fmtCode.toNat = some e.fmt := RingFormat.ofCode_code _
  have hshort : e.len ≤ 2048 := by
    rw [hlen]
    split_ifs
    · omega
    · exact (lineWords_le _ _).trans hhigh
  have hl : (e.header station).len.toNat = e.len := Nat.mod_eq_of_lt (by omega)
  have hw : (e.header station).width.toNat = e.width := Nat.mod_eq_of_lt (by omega)
  have hp : (e.header station).pressure.toNat = 0 := rfl
  have hfits : classFits e.kind (some e.cls) = true := classFits_picture hcls e.isMark
  have hpicture : pictureFieldsOk (e.header station) = true := by simp [pictureFieldsOk, hfmt, hw, hlow, hhigh]
  rw [Header.fieldsOk, hkind]
  simp only [hclass, hfits, hp, hl]
  cases hm : e.isMark with
  | true =>
    rw [hm, if_pos rfl] at hlen
    simp [PicEntry.kind, hm, hpicture, lengthOk, hl, hlen]
  | false =>
    rw [hm, if_neg Bool.false_ne_true] at hlen
    simp [PicEntry.kind, hm, hpicture, lengthOk, hl, hw, hfmt, hshort, ← hlen]

/-- The header of a picture entry (R14, R41, 12.1). -/
theorem PicEntry.header_isPicture (station : StationNo) (e : PicEntry) : (e.header station).IsPicture station e where
  isLocal := ⟨rfl, rfl, rfl, rfl, Header.sealed_crc _⟩
  kind := by cases hm : e.isMark <;> simp [PicEntry.header, Header.sealed, ParcelKind.code, hm]
  cls := rfl
  index := rfl
  fmt := rfl
  frame := rfl
  len := rfl
  line := rfl
  width := rfl
  good hcls hlow hhigh hlen := Header.sealed_good (PicEntry.header_fieldsOk station hcls hlow hhigh hlen)

/-- A control parcel within the lengths of R181 has a header within the ranges there. -/
theorem controlHeader_fieldsOk (station : StationNo) {k : ParcelKind} {n : Nat}
    (h : (k = .census ∧ n ≤ 2048) ∨ (k = .message ∧ 2 ≤ n ∧ n ≤ 18)) : (controlHeader station k n).fieldsOk = true := by
  have hkind : (controlHeader station k n).kind = some k := ParcelKind.ofCode_code _
  have hclass : ParcelClass.ofCode (controlHeader station k n).clsCode.toNat = some .control := ParcelClass.ofCode_code _
  have hl : (controlHeader station k n).len.toNat = n := Nat.mod_eq_of_lt (by omega)
  have hp : (controlHeader station k n).pressure.toNat = 0 := rfl
  rw [Header.fieldsOk, hkind]
  simp only [hclass, hp, hl]
  rcases h with ⟨rfl, hn⟩ | ⟨rfl, hlow, hhigh⟩
  · simp [classFits, lengthOk, hn]
  · simp [classFits, lengthOk, hl, hlow, hhigh]; omega

/-- The header of a control parcel (R14, R41, 12.1). -/
theorem controlHeader_isControl (station : StationNo) (k : ParcelKind) (n : Nat) :
    (controlHeader station k n).IsControl station k.code.toNat n where
  isLocal := ⟨rfl, rfl, rfl, rfl, Header.sealed_crc _⟩
  kind := rfl
  cls := rfl
  blank := ⟨rfl, rfl, rfl, rfl, rfl⟩
  len := rfl
  good h := Header.sealed_good (controlHeader_fieldsOk station (by cases k <;> simp_all [ParcelKind.code]))

/-! ### The words of local parcels -/

theorem slotWords_eq (store : List SendSlot) (n : Nat) :
    slotWords store n = ((store.find? (fun x => x.slot == n)).map SendSlot.words).getD [] := by
  have hfind : store.find? (fun x => decide (x.slot = n)) = store.find? (fun x => x.slot == n) := rfl
  rw [slotWords, hfind]
  cases store.find? (fun x => x.slot == n) <;> rfl

/-- The payload of a picture entry (R14, 12.1): the word of a MARK, the slot's words of a LINE. -/
theorem PicEntry.payload_eq (store : List SendSlot) (e : PicEntry) : e.payload store =
    if e.isMark then [BitVec.ofNat 12 e.height ++ e.cls.code ++ 0#18]
    else ((store.find? (fun x => x.slot == e.slot)).map SendSlot.words).getD [] := by
  rw [PicEntry.payload, slotWords_eq]
  rfl

/-! ### The choice at a free link -/

theorem exec_parcelStart {s : State} {g : Nat} (hrun : s.running) (htx : s.link.tx = .between g) (hgap : 8 ≤ g)
    (hcut : ∀ e es, s.link.transit = e :: es → e.cut = false) : exec .parcelStart s = .next (s.start s.choice) := by
  have hcommitted : s.link.cutCommitted = false := by
    rw [RingPort.cutCommitted, htx]
    cases ht : s.link.transit with
    | nil => rfl
    | cons e es => exact hcut e es ht
  have hfree : s.link.free = true := by simp [RingPort.free, RingPort.gapDone, htx, hgap, hcommitted]
  change live State.parcelStart s = _
  rw [live_running _ _ hrun, State.parcelStart, if_pos hfree]

theorem State.pictureAllowed_iff (s : State) : s.pictureAllowed = true ↔ s.node.state = .run ∧ s.node.waiting = none := by
  simp [State.pictureAllowed]

/-- The SAFE head is chosen where pictures may start and the free space covers its length and the margin (R37). -/
theorem State.safeChoice_starts {s : State} {e : PicEntry} {rest : List PicEntry} (hq : s.sched.safeQ = e :: rest)
    (hstate : s.node.state = .run) (hwait : s.node.waiting = none) (hspace : e.len + 5 + 16 + fillOf s.link.transit ≤ 4096) :
    s.safeChoice = .safe e rest := by
  have hroom : e.length + Config.safeMargin ≤ s.link.space := by
    simp only [PicEntry.length, RingPort.space, Config.transitWords, Config.safeMargin, frameWords]; omega
  rw [State.safeChoice, hq]
  simp [(State.pictureAllowed_iff s).mpr ⟨hstate, hwait⟩, hroom]

/-- No SAFE head is chosen otherwise (R37). -/
theorem State.safeChoice_none {s : State} (h : s.node.state ≠ .run ∨ s.node.waiting ≠ none ∨ s.sched.safeQ = [] ∨
    ∃ e rest, s.sched.safeQ = e :: rest ∧ 4096 < e.len + 5 + 16 + fillOf s.link.transit) : s.safeChoice = .none := by
  unfold State.safeChoice
  split
  next e rest hq =>
    refine if_neg fun hstart => ?_
    rw [Bool.and_eq_true, State.pictureAllowed_iff, decide_eq_true_eq] at hstart
    obtain ⟨⟨hstate, hwait⟩, hroom⟩ := hstart
    rcases h with h | h | h | ⟨e', rest', h, hspace⟩
    · exact h hstate
    · exact h hwait
    · exact nomatch hq.symm.trans h
    · obtain ⟨rfl, rfl⟩ := List.cons.inj (hq.symm.trans h)
      simp only [PicEntry.length, RingPort.space, Config.transitWords, Config.safeMargin, frameWords] at hroom
      omega
  next => rfl

/-- Settles O30: at a free link the SAFE head starts where it fits, else the head transit entry. -/
theorem safeOrTransitStarts : Obligations.SafeOrTransitStarts := by
  intro s g hrun htx hgap hcut
  rw [exec_parcelStart hrun htx hgap hcut]
  refine ⟨fun e rest hq hstate hwait hspace => ?_, fun hnone htransit => ?_⟩
  · refine ⟨e.header s.node.station, e.header_isPicture _, ?_⟩
    rw [State.choice, State.safeChoice_starts hq hstate hwait hspace, ← PicEntry.payload_eq]
    rfl
  · rw [State.choice, State.safeChoice_none hnone]
    dsimp only
    rw [if_neg (by simpa using htransit)]
    rfl

/-! ### The census, the messages and the NORMAL head -/

/-- With no SAFE start and no transit entry the choice is the station's own (R37). -/
theorem State.choice_local {s : State} (hsafe : s.safeChoice = .none) (htransit : s.link.transit = []) :
    s.choice = s.localChoice := by
  rw [State.choice, hsafe]
  dsimp only
  rw [if_pos (by simp [htransit])]

/-- The NORMAL head is chosen where pictures may start and the credit covers its length (R37). -/
theorem State.normalChoice_starts {s : State} {e : PicEntry} {rest : List PicEntry} (hq : s.sched.normalQ = e :: rest)
    (hstate : s.node.state = .run) (hwait : s.node.waiting = none) (hcredit : e.len + 5 ≤ s.sched.credit) :
    s.normalChoice = .normal e rest := by
  have hcover : e.length ≤ s.sched.credit := hcredit
  rw [State.normalChoice, hq]
  simp [(State.pictureAllowed_iff s).mpr ⟨hstate, hwait⟩, hcover]

/-- No NORMAL head is chosen otherwise (R37). -/
theorem State.normalChoice_none {s : State} (h : s.node.state ≠ .run ∨ s.node.waiting ≠ none ∨ s.sched.normalQ = [] ∨
    ∃ e rest, s.sched.normalQ = e :: rest ∧ s.sched.credit < e.len + 5) : s.normalChoice = .none := by
  unfold State.normalChoice
  split
  next e rest hq =>
    refine if_neg fun hstart => ?_
    rw [Bool.and_eq_true, State.pictureAllowed_iff, decide_eq_true_eq] at hstart
    obtain ⟨⟨hstate, hwait⟩, hcover⟩ := hstart
    rcases h with h | h | h | ⟨e', rest', h, hcredit⟩
    · exact h hstate
    · exact h hwait
    · exact nomatch hq.symm.trans h
    · obtain ⟨rfl, rfl⟩ := List.cons.inj (hq.symm.trans h)
      exact absurd hcover (Nat.not_le.mpr hcredit)
  next => rfl

/-- The ring breaks at the census send that finds the third census missed (R63). -/
theorem breaksAtSend_eq {v : StationView} (h : v.missed ≤ 3) :
    breaksAtSend v = (v.outstanding && v.missed == 2 && v.ring != .broken) := by
  unfold breaksAtSend missedAfterSend
  cases v.outstanding with
  | false => rfl
  | true =>
    have hthird : (min 3 (v.missed + 1) == 3 && v.missed != 3) = (v.missed == 2) := by
      rw [Bool.eq_iff_iff]; simp; omega
    rw [Bool.true_and, if_pos rfl, hthird, Bool.true_and]

/-- The ring state after a census send (R63). -/
theorem StationView.afterSend_ring {v : StationView} (h : v.missed ≤ 3) :
    v.afterSend.ring = if v.outstanding = true ∧ v.missed = 2 then .broken else v.ring := by
  change (if breaksAtSend v then RingState.broken else v.ring) = _
  rw [breaksAtSend_eq h]
  by_cases hthird : v.outstanding = true ∧ v.missed = 2
  · cases hring : v.ring <;> simp [hthird]
  · rw [if_neg hthird, if_neg (by simp_all)]

/-- The retired nonce is forgotten at the second census send after a warm restart (R60). -/
theorem StationView.afterSend_retired (v : StationView) :
    v.afterSend.retired = if 1 ≤ v.retiredSends then none else v.retired := by
  change (if v.retired.isSome && decide (1 ≤ v.retiredSends) then none else v.retired) = _
  cases v.retired <;> simp

theorem State.raise_or (s : State) (m n : Half) : s.raise (m ||| n) = (s.raise m).raise n := by
  simp only [State.raise, BitVec.or_assoc]

/-- A cause leaves every other as it was (R172). -/
theorem State.isPending_raise_when_ne {s : State} {c c' : Cause} (h : c' ≠ c) (b : Bool) :
    (s.raise (c'.when b)).isPending c = s.isPending c := by
  cases b with
  | true => exact State.isPending_raise_ne h
  | false => exact congrArg (State.isPending · c) s.raise_noCause

/-- An own census send raises RING_BROKEN where the ring breaks at it (R63). -/
theorem State.ownCensusSend_ringBroken (s : State) :
    s.ownCensusSend.isPending .ringBroken = (s.isPending .ringBroken || breaksAtSend s.view) := by
  rw [State.ownCensusSend, State.raise_or, State.isPending_raise_when, State.isPending_raise_when_ne (by decide)]
  rfl

/-- An own census send raises LINK_DEGRADED where eight errors or more were counted (R17). -/
theorem State.ownCensusSend_linkDegraded (s : State) :
    s.ownCensusSend.isPending .linkDegraded = (s.isPending .linkDegraded || decide (8 ≤ s.link.errors)) := by
  rw [State.ownCensusSend, State.raise_or, State.isPending_raise_when_ne (by decide), State.isPending_raise_when]
  rfl

/-- STARVED after the NORMAL head has left (R50). -/
theorem starvedAfter_eq (q : List PicEntry) (now : Word) (patience : Nat) (starved : Bool) :
    starvedAfter q now patience starved =
      (starved && q.head?.any (fun x => decide (patience ≤ 2 * elapsed now x.entryTime))) := by
  cases q with
  | nil => simp [starvedAfter]
  | cons e es =>
    change (if 2 * elapsed now e.entryTime < patience then false else starved) = _
    by_cases h : 2 * elapsed now e.entryTime < patience
    · simp [h]
    · simp [h, Nat.not_lt.mp h]

/-- The census stands at the head of the CONTROL queue (R37, R44). -/
theorem State.localChoice_census {s : State} {ws : List Word} (h : s.sched.census = some ws) : s.localChoice = .census ws := by
  rw [State.localChoice, h]

/-- Without a census the first message is the head of the CONTROL queue (R37, R44). -/
theorem State.localChoice_message {s : State} {m : MessageEntry} {rest : List MessageEntry} (hc : s.sched.census = none)
    (hm : s.sched.msgs = m :: rest) : s.localChoice = .message m rest := by
  rw [State.localChoice, hc, hm]

/-- With an empty CONTROL queue the NORMAL head is looked at (R37). -/
theorem State.localChoice_normal {s : State} (hc : s.sched.census = none) (hm : s.sched.msgs = []) :
    s.localChoice = s.normalChoice := by
  rw [State.localChoice, hc, hm]

/-- Settles O31: the census, a message or the NORMAL head, with the words of each, or nothing. -/
theorem localStarts : Obligations.LocalStarts := by
  intro s g hrun htx hgap htransit hsafe
  have hnone : s.safeChoice = .none := State.safeChoice_none (by simpa [htransit, fillOf] using hsafe)
  rw [exec_parcelStart hrun htx hgap (by simp [htransit]), State.choice_local hnone htransit]
  refine ⟨fun ws hcensus hmissed => ?_, fun m rest hcensus hmsgs => ?_,
    fun hcensus hmsgs => ⟨fun e rest hq hstate hwait hcredit => ?_, fun hno => ?_⟩⟩
  · rw [State.localChoice_census hcensus]
    refine ⟨_, controlHeader s.node.station .census ws.length, rfl, rfl, controlHeader_isControl _ _ _, rfl, rfl, rfl,
      StationView.afterSend_ring hmissed, (State.ownCensusSend_ringBroken _).trans ?_, State.ownCensusSend_linkDegraded _,
      s.view.afterSend_retired, fun hretired => ?_, rfl, rfl, rfl, rfl, rfl, rfl, rfl, rfl, rfl⟩
    · rw [← breaksAtSend_eq hmissed]
      rfl
    · exact if_pos (Option.isSome_iff_ne_none.mpr hretired)
  · rw [State.localChoice_message hcensus hmsgs]
    exact ⟨controlHeader s.node.station .message m.words.length, controlHeader_isControl _ _ _, rfl⟩
  · rw [State.localChoice_normal hcensus hmsgs, State.normalChoice_starts hq hstate hwait hcredit, ← PicEntry.payload_eq,
      ← starvedAfter_eq]
    exact ⟨_, e.header s.node.station, rfl, e.header_isPicture _, rfl, rfl, rfl, rfl, rfl, rfl, rfl⟩
  · rw [State.localChoice_normal hcensus hmsgs, State.normalChoice_none hno]
    rfl

end Sys2Proof.Machine
end

section
/-! PROOFS. The engage and release events of Camera Priority at an output port and at the station, with the wake they may bring
(R96, R137, R138, R152, R154 to R159, R178, R179). -/

namespace Sys2Proof.Machine

/-! ### What was due on a port -/

/-- o' is o with its configuration, and with its Presenter as it was or past the added lines of a stretch that has ended. -/
structure OutPort.Settles (o o' : OutPort) : Prop where
  cfg : o'.cfg = o.cfg
  pres : o'.pres = o.pres ∨ ∃ fill, o'.pres = { o.pres.toActive with fillFrame := fill }

theorem OutPort.Settles.refl (o : OutPort) : o.Settles o := ⟨rfl, .inl rfl⟩

theorem OutPort.Settles.trans {a b c : OutPort} (h : a.Settles b) (h' : b.Settles c) : a.Settles c := by
  refine ⟨h'.cfg.trans h.cfg, ?_⟩
  rcases h'.pres with hbc | ⟨fill, hbc⟩
  · rw [hbc]; exact h.pres
  · rcases h.pres with hab | ⟨_, hab⟩
    · exact .inr ⟨fill, hab ▸ hbc⟩
    · rw [hab] at hbc; exact .inr ⟨fill, hbc⟩

theorem OutPort.silentLoss_settles (role : Role) (o : OutPort) : o.Settles (o.silentLoss role).1 := by
  unfold OutPort.silentLoss
  split
  · exact .refl o
  · split_ifs
    · rw [OutPort.loseSource_eq]
      exact ⟨o.mapSink_cfg role _, .inl (o.mapSink_pres role _)⟩
    · exact .refl o

theorem OutPort.holdoverEnd_settles (o : OutPort) : o.Settles o.holdoverEnd.1 := by
  unfold OutPort.holdoverEnd
  split_ifs
  · exact ⟨rfl, .inl rfl⟩
  · exact .refl o

theorem OutPort.holdGiveUp_settles (o : OutPort) : o.Settles o.holdGiveUp.1 := by
  unfold OutPort.holdGiveUp
  split_ifs
  · exact ⟨rfl, .inr ⟨true, rfl⟩⟩
  · exact .refl o

theorem OutPort.stretchEnd_settles (o : OutPort) : o.Settles o.stretchEnd.1 := by
  unfold OutPort.stretchEnd
  split_ifs
  · exact ⟨rfl, .inr ⟨o.pres.fillFrame, rfl⟩⟩
  · exact .refl o

/-- What was due on a port, once taken, leaves its configuration, and of the Presenter what no end of a stretch touches. -/
theorem OutPort.settle_settles (o : OutPort) : o.Settles o.settle.1 :=
  (o.silentLoss_settles .main).trans <| (OutPort.silentLoss_settles .overlay _).trans <|
    (OutPort.holdoverEnd_settles _).trans <| (OutPort.holdGiveUp_settles _).trans (OutPort.stretchEnd_settles _)

section Settled

variable {o o' : OutPort} (h : o.Settles o')
include h

theorem OutPort.Settles.stopPending : o'.pres.stopPending = o.pres.stopPending := by
  rcases h.pres with hp | ⟨fill, hp⟩
  · rw [hp]
  · rw [hp]; rfl

theorem OutPort.Settles.nextLine (h0 : o.pres.nextLine = 0) : o'.pres.nextLine = 0 := by
  rcases h.pres with hp | ⟨fill, hp⟩
  · rw [hp, h0]
  · rw [hp]; rfl

theorem OutPort.Settles.drawn (hpos : o.pres.pos = .added ∨ o.pres.pos = .active) :
    o'.pres.pos = .added ∨ o'.pres.pos = .active := by
  rcases h.pres with hp | ⟨fill, hp⟩
  · rw [hp]; exact hpos
  · rw [hp]; exact .inr rfl

end Settled

/-- A port keeps its OVERLAY record when what was due on it is taken. -/
theorem OutPort.settle_overlay {o : OutPort} {k : Sink} (h : o.overlay = some k) : ∃ k', o.settle.1.overlay = some k' := by
  have hrel := o.keeps_settle.overlay
  rw [h] at hrel
  cases hk : o.settle.1.overlay with
  | none => rw [hk] at hrel; cases hrel
  | some k' => exact ⟨k', rfl⟩

/-! ### The engage of a port -/

section Engage

variable {t : List TableEntry} {now : Word} {o : OutPort}

theorem OutPort.engage_full (hm : o.cfg.camMode = .full) : (o.engage t now).1 = o.settle.1.engageFull t now := by
  have hmode : o.settle.1.cfg.camMode = .full := by rw [o.settle_settles.cfg, hm]
  rw [OutPort.engage, if_pos (by simp [OutPort.hasCamera, hm]), OutPort.dueFirst_fst, OutPort.engageMode, hmode]

theorem OutPort.engage_inset (hm : o.cfg.camMode = .inset) : (o.engage t now).1 = o.settle.1.engageInset t now := by
  have hmode : o.settle.1.cfg.camMode = .inset := by rw [o.settle_settles.cfg, hm]
  rw [OutPort.engage, if_pos (by simp [OutPort.hasCamera, hm]), OutPort.dueFirst_fst, OutPort.engageMode, hmode]

theorem OutPort.engage_none (hm : o.cfg.camMode = .none) : o.engage t now = (o, noCause) :=
  if_neg (by simp [OutPort.hasCamera, hm])

/-- A port in SWITCHING with a camera mode makes the own demand (R159). -/
theorem OutPort.engaged_of_switching (hm : o.cfg.camMode ≠ .none) (hs : o.cam.state = .switching) : o.engaged = true := by
  simp [OutPort.engaged, OutPort.hasCamera, hm, hs]

theorem OutPort.engage_full_engaged (hm : o.cfg.camMode = .full) : (o.engage t now).1.engaged = true := by
  obtain ⟨hcfg, -, -, -, -, -, -, hcam, -⟩ := OutPort.engageFull_spec t now o.settle.1
  rw [OutPort.engage_full hm]
  refine OutPort.engaged_of_switching ?_ (by rw [hcam])
  rw [hcfg, o.settle_settles.cfg, hm]
  exact nofun

/-- What an engage does to an INSET port (R155). -/
theorem OutPort.engageInset_spec {k : Sink} (hk : o.overlay = some k) : ∃ k', (o.engageInset t now).overlay = some k' ∧
    k'.active = some o.cfg.camStream ∧ k'.shadow = none ∧ k'.x = o.cfg.camX ∧ k'.y = o.cfg.camY ∧
    (o.engageInset t now).main = o.main ∧ (o.engageInset t now).lock = o.lock ∧ (o.engageInset t now).pres = o.pres ∧
    (o.engageInset t now).cfg = o.cfg ∧ (o.engageInset t now).cam =
      { state := .switching, deadline := some (o.cfg.deadline now), resume := some k.held, insetHold := true } := by
  unfold OutPort.engageInset
  rw [hk]
  by_cases ha : k.active = some o.cfg.camStream
  · simp [OutPort.mapSink, hk, OutPort.subscribe, ha, OutPort.switching]
  · simp [OutPort.mapSink, hk, OutPort.subscribe, ha, OutPort.switching, Sink.change, Sink.closeTorn]

theorem OutPort.engage_inset_engaged {k : Sink} (hm : o.cfg.camMode = .inset) (hk : o.overlay = some k) :
    (o.engage t now).1.engaged = true := by
  obtain ⟨k1, hk1⟩ := OutPort.settle_overlay hk
  obtain ⟨-, -, -, -, -, -, -, -, -, hcfg, hcam⟩ := OutPort.engageInset_spec (t := t) (now := now) hk1
  rw [OutPort.engage_inset hm]
  refine OutPort.engaged_of_switching ?_ (by rw [hcam])
  rw [hcfg, o.settle_settles.cfg, hm]
  exact nofun

/-- A cut reads the configuration and the Presenter alone. -/
theorem OutPort.cut_pres_congr {a b : OutPort} (hcfg : a.cfg = b.cfg) (hpres : a.pres = b.pres) :
    a.cut.pres = b.cut.pres := by
  unfold OutPort.cut
  rw [hcfg, hpres]
  split_ifs
  · exact hpres
  · rfl
  · rfl

/-- The port with its switch-blank ended (R137). -/
def OutPort.unblanked (o : OutPort) : OutPort := { o with pres := { o.pres with blank := 0 } }

/-- The Presenter of a FULL port whose record changes to the camera stream: no switch-blank, and the frame cut (R137, R138). -/
theorem OutPort.engageFull_pres (h : o.main.active ≠ some o.cfg.camStream) :
    (o.engageFull t now).pres = o.unblanked.cut.pres := by
  simp only [OutPort.engageFull, OutPort.subscribe, if_neg h, OutPort.switching, if_true]
  exact OutPort.cut_pres_congr rfl rfl

/-- A FULL port whose record shows the camera stream already goes on with its frame (R138, R154). -/
theorem OutPort.engageFull_pres_same (h : o.main.active = some o.cfg.camStream) :
    (o.engageFull t now).pres = o.unblanked.pres := by
  simp [OutPort.unblanked, OutPort.engageFull, OutPort.subscribe, h, OutPort.switching]

/-- A cut before the first active line moves nothing (R138). -/
theorem OutPort.cut_pos (h : o.pres.nextLine = 0) : o.cut.pres.pos = o.pres.pos := by
  unfold OutPort.cut
  split_ifs with hdone hline
  · rfl
  · omega
  · rfl

theorem OutPort.engageFull_pos (h : o.pres.nextLine = 0) : (o.engageFull t now).pres.pos = o.pres.pos := by
  by_cases ha : o.main.active = some o.cfg.camStream
  · rw [OutPort.engageFull_pres_same ha]; rfl
  · rw [OutPort.engageFull_pres ha]; exact OutPort.cut_pos (o := o.unblanked) h

/-- The cut of an active line by an engage: it is the last, and the blanking begins where it is over (R134, R138). -/
theorem OutPort.engageFull_cut (h : o.main.active ≠ some o.cfg.camStream) (hcut : o.pres.cutDone = false)
    (hpos : o.pres.pos = .active) (hline : 0 < o.pres.nextLine) :
    (o.engageFull t now).pres.nextLine = o.cfg.va ∧
      (o.pres.pixel < o.cfg.ht → (o.engageFull t now).pres.pos = .active) ∧
      (o.cfg.ht ≤ o.pres.pixel → (o.engageFull t now).pres.pos = .blanking ∧
        (o.engageFull t now).pres.pixel = o.pres.pixel - o.cfg.ht ∧ (o.engageFull t now).pres.driven = [] ∧
        (o.engageFull t now).pres.ahead = []) := by
  have hrunning : o.unblanked.pres.pos ≠ .stopped := by simp [OutPort.unblanked, hpos]
  rw [OutPort.engageFull_pres h, OutPort.cut_pres o.unblanked hrunning hcut, if_pos ⟨hpos, hline⟩]
  split_ifs with hover
  · exact ⟨rfl, fun hlt => absurd hover (Nat.not_le.mpr hlt), fun _ => ⟨rfl, rfl, rfl, rfl⟩⟩
  · exact ⟨rfl, fun _ => hpos, fun hge => absurd hge hover⟩

end Engage

/-! ### The release of a port -/

section Release

variable {o : OutPort}

theorem Sink.writeShadow_active (role : Role) (v : Placed) (k : Sink) : (k.writeShadow role v).active = k.active := by
  unfold Sink.writeShadow; dsimp only; split_ifs <;> rfl

theorem Sink.writeShadow_main (v : Placed) (k : Sink) : k.writeShadow .main v =
    if k.shadow = none ∧ k.active = v.sub then k else { k with shadow := some v } := by
  refine if_congr ?_ rfl rfl
  simp [eq_comm (a := v.sub)]

theorem Sink.writeShadow_overlay (v : Placed) (k : Sink) : k.writeShadow .overlay v =
    if k.shadow = none ∧ k.active = v.sub ∧ k.x = v.x ∧ k.y = v.y then k else { k with shadow := some v } := by
  refine if_congr ?_ rfl rfl
  simp [eq_comm (a := v.sub), eq_comm (a := v.x), eq_comm (a := v.y)]

/-- What a release leaves of a camera-mode port: IDLE, its Frame Lock and Presenter as they were (R157). -/
theorem OutPort.releaseMode_frame (hm : o.cfg.camMode ≠ .none) :
    o.releaseMode.1.cam.state = .idle ∧ o.releaseMode.1.main.active = o.main.active ∧
      o.releaseMode.1.cam.insetHold = o.cam.insetHold ∧ o.releaseMode.1.lock = o.lock ∧ o.releaseMode.1.pres = o.pres := by
  unfold OutPort.releaseMode
  split
  next v hmode hres =>
    split_ifs with hidle
    · exact ⟨hidle, rfl, rfl, rfl, rfl⟩
    · exact ⟨rfl, Sink.writeShadow_active _ _ _, rfl, rfl, rfl⟩
  next v hmode hres =>
    split_ifs with hidle
    · exact ⟨hidle, rfl, rfl, rfl, rfl⟩
    · exact ⟨rfl, rfl, rfl, rfl, rfl⟩
  next => exact ⟨rfl, rfl, rfl, rfl, rfl⟩
  next => exact ⟨rfl, rfl, rfl, rfl, rfl⟩
  next hmode => exact absurd hmode hm

/-- A release returns a port that is not IDLE to its resume value, as a request would (R96, R157). -/
theorem OutPort.releaseMode_resume {v : Placed} (hidle : o.cam.state ≠ .idle) (hv : o.cam.resume = some v) :
    (o.cfg.camMode = .full → o.releaseMode.1 = (o.mapSink .main (Sink.writeShadow .main v)).toIdle) ∧
    (o.cfg.camMode = .inset → o.releaseMode.1 = (o.mapSink .overlay (Sink.writeShadow .overlay v)).toIdle) := by
  refine ⟨fun hm => ?_, fun hm => ?_⟩
  · rw [OutPort.releaseMode, hm, hv]; exact congrArg Prod.fst (if_neg hidle)
  · rw [OutPort.releaseMode, hm, hv]; exact congrArg Prod.fst (if_neg hidle)

theorem OutPort.release_fst (hm : o.cfg.camMode ≠ .none) : o.release.1 = o.settle.1.releaseMode.1 := by
  rw [OutPort.release, if_pos (by simpa [OutPort.hasCamera] using hm), OutPort.dueFirst_fst]

/-- A released port makes no demand (R157, R159). -/
theorem OutPort.release_engaged (o : OutPort) : o.release.1.engaged = false := by
  by_cases hm : o.cfg.camMode = .none
  · rw [OutPort.release, if_neg (by simp [OutPort.hasCamera, hm])]
    simp [OutPort.engaged, OutPort.hasCamera, hm]
  · rw [OutPort.release_fst hm, OutPort.engaged,
      (OutPort.releaseMode_frame (by rw [o.settle_settles.cfg]; exact hm)).1]
    simp

end Release

/-! ### The wake of a port -/

theorem OutPort.consult_stopPending (o : OutPort) : o.consult.1.pres.stopPending = o.pres.stopPending := by
  unfold OutPort.consult
  cases o.lock.state with
  | free => rfl
  | holdover => rfl
  | acquire => dsimp only; split_ifs <;> rfl
  | track => dsimp only; split_ifs <;> rfl

/-- An output frame start brings a port to its first added line or to its active lines (R135). -/
theorem OutPort.frameStart_frame (t : List TableEntry) (o : OutPort) :
    (o.frameStart t).1.cfg = o.cfg ∧ (o.frameStart t).1.pres.stopPending = o.pres.stopPending ∧
      (o.frameStart t).1.pres.nextLine = 0 ∧
      ((o.frameStart t).1.pres.pos = .added ∨ (o.frameStart t).1.pres.pos = .active) := by
  obtain ⟨hcfgM, hpresM, -⟩ := o.takeOver_frame t .main
  obtain ⟨hcfgV, hpresV, -⟩ := (o.takeOver t .main).1.takeOver_frame t .overlay
  have hstop := congrArg Presenter.stopPending (hpresV.trans hpresM)
  unfold OutPort.frameStart
  dsimp only
  generalize hb : OutPort.beginFrame _ = b
  have hcfg : b.cfg = o.cfg := by rw [← hb]; exact hcfgV.trans hcfgM
  have hpending : b.pres.stopPending = o.pres.stopPending := by rw [← hb]; exact hstop
  have hline : b.pres.nextLine = 0 := by rw [← hb]; rfl
  obtain ⟨-, -, hcfg', -, -, -, -, hline', -, -, -, -, -, hpos⟩ := b.consult_frame
  exact ⟨hcfg'.trans hcfg, b.consult_stopPending.trans hpending, hline' hline, hpos⟩

/-- A wake forgets a pending stop, and a stopped port starts an output frame (R148, R179). -/
theorem OutPort.wake_frame (t : List TableEntry) (o : OutPort) :
    (o.wake t).1.cfg = o.cfg ∧ (o.wake t).1.pres.stopPending = false ∧
      (o.pres.pos = .stopped → (o.wake t).1.pres.nextLine = 0 ∧
        ((o.wake t).1.pres.pos = .added ∨ (o.wake t).1.pres.pos = .active)) := by
  unfold OutPort.wake
  dsimp only
  split_ifs with hstop
  · obtain ⟨hcfg, hpending, hline, hpos⟩ := OutPort.frameStart_frame t
      { o with
        lock := o.lock.dropStretch.freeOrAcquire o.cfg o.main.active
        pres := { o.pres with line := o.addedNumber, fillFrame := false, cutDone := false, stopPending := false
                              pos := .blanking } }
    exact ⟨hcfg, hpending, fun _ => ⟨hline, hpos⟩⟩
  · exact ⟨rfl, rfl, fun h => absurd h hstop⟩

/-- A FULL port engaged after a wake (R154, R179). -/
theorem OutPort.engage_wake (t t' : List TableEntry) (now : Word) {o : OutPort} (hm : o.cfg.camMode = .full) :
    let o' := ((o.wake t).1.engage t' now).1
    o'.pres.stopPending = false ∧ o'.main.active = some o.cfg.camStream ∧ o'.main.shadow = none ∧ o'.pres.blank = 0 ∧
      o'.cam.state = .switching ∧ o'.cam.deadline = some (o.cfg.deadline now) ∧
      (o.pres.pos = .stopped → o'.pres.pos = .added ∨ o'.pres.pos = .active) := by
  obtain ⟨hcfg, hstop, hstart⟩ := o.wake_frame t
  generalize (o.wake t).1 = w at hcfg hstop hstart
  have hsettled := w.settle_settles
  have hcfg' : w.settle.1.cfg = o.cfg := hsettled.cfg.trans hcfg
  obtain ⟨-, hactive, hshadow, hblank, -, -, hpending, hcam, -⟩ := OutPort.engageFull_spec t' now w.settle.1
  rw [hcfg'] at hactive hcam
  simp only [OutPort.engage_full (hcfg.symm ▸ hm : w.cfg.camMode = .full)]
  refine ⟨by rw [hpending, hsettled.stopPending, hstop], hactive, hshadow, hblank, by rw [hcam], by rw [hcam], fun hs => ?_⟩
  obtain ⟨hline, hpos⟩ := hstart hs
  rw [OutPort.engageFull_pos (hsettled.nextLine hline)]
  exact hsettled.drawn hpos

/-! ### A port with nothing due -/

section Quiet

variable {t : List TableEntry} {now : Word} {o : OutPort} (hq : o.quiet now = true)
include hq

/-- What an engage does to a FULL port with nothing due (R137, R138, R154). -/
theorem OutPort.engage_full_quiet (hm : o.cfg.camMode = .full) :
    let o' := (o.engage t now).1
    o'.main.active = some o.cfg.camStream ∧ o'.main.shadow = none ∧ o'.pres.blank = 0 ∧
      o'.cam = { o.cam with
        state := .switching, deadline := some (o.cfg.deadline now)
        resume := some { sub := o.main.held.sub, x := o.main.x, y := o.main.y } } ∧
      (o.main.active = some o.cfg.camStream →
        o'.lock = o.lock ∧ o'.main.cur = o.main.cur ∧ o'.pres.cutDone = o.pres.cutDone) ∧
      (o.main.active ≠ some o.cfg.camStream → o'.lock.state = .acquire ∧ o'.lock.integ = 0 ∧
        o'.main.cur = none ∧ o'.main.queue = [] ∧ (o.pres.pos ≠ .stopped → o'.pres.cutDone = true) ∧
        (o.pres.cutDone = false → o.pres.pos = .active → 0 < o.pres.nextLine →
          o'.pres.nextLine = o.cfg.va ∧ (o.pres.pixel < o.cfg.ht → o'.pres.pos = .active) ∧
          (o.cfg.ht ≤ o.pres.pixel → o'.pres.pos = .blanking ∧ o'.pres.pixel = o.pres.pixel - o.cfg.ht ∧
            o'.pres.driven = [] ∧ o'.pres.ahead = []))) := by
  obtain ⟨-, hactive, hshadow, hblank, -, -, -, hcam, hsame, hchange⟩ := OutPort.engageFull_spec t now o
  simp only [OutPort.engage_full hm, o.settle_quiet now hq]
  refine ⟨hactive, hshadow, hblank, hcam, hsame, fun ha => ?_⟩
  obtain ⟨hstate, hinteg, hcur, hqueue, hcut⟩ := hchange ha
  exact ⟨hstate, hinteg, hcur, hqueue, hcut, OutPort.engageFull_cut ha⟩

/-- What an engage does to an INSET port with nothing due (R155). -/
theorem OutPort.engage_inset_quiet {k : Sink} (hm : o.cfg.camMode = .inset) (hk : o.overlay = some k) :
    let o' := (o.engage t now).1
    ∃ k', o'.overlay = some k' ∧ k'.active = some o.cfg.camStream ∧ k'.shadow = none ∧ k'.x = o.cfg.camX ∧
      k'.y = o.cfg.camY ∧ o'.main = o.main ∧ o'.lock = o.lock ∧ o'.pres = o.pres ∧
      o'.cam =
        { state := .switching, deadline := some (o.cfg.deadline now)
          resume := some (k.shadow.getD { sub := k.active, x := k.x, y := k.y }), insetHold := true } := by
  obtain ⟨k', hk', hactive, hshadow, hx, hy, hmain, hlock, hpres, -, hcam⟩ :=
    OutPort.engageInset_spec (t := t) (now := now) hk
  have hheld : k.held = k.shadow.getD { sub := k.active, x := k.x, y := k.y } := by
    rw [Sink.held]; cases k.shadow <;> rfl
  simp only [OutPort.engage_inset hm, o.settle_quiet now hq]
  exact ⟨k', hk', hactive, hshadow, hx, hy, hmain, hlock, hpres, hheld ▸ hcam⟩

/-- What a release does to a camera-mode port with nothing due (R96, R157). -/
theorem OutPort.release_quiet (hm : o.cfg.camMode ≠ .none) :
    let o' := o.release.1
    o'.cam.state = .idle ∧ o'.main.active = o.main.active ∧ o'.cam.insetHold = o.cam.insetHold ∧ o'.lock = o.lock ∧
      o'.pres = o.pres ∧ ∀ v, o.cam.state ≠ .idle → o.cam.resume = some v → o'.cam.resume = none ∧
        (o.cfg.camMode = .full → o'.main =
          if o.main.shadow = none ∧ o.main.active = v.sub then o.main else { o.main with shadow := some v }) ∧
        ∀ k, o.cfg.camMode = .inset → o.overlay = some k → o'.overlay = some
          (if k.shadow = none ∧ k.active = v.sub ∧ k.x = v.x ∧ k.y = v.y then k else { k with shadow := some v }) := by
  obtain ⟨hidle, hactive, hhold, hlock, hpres⟩ := OutPort.releaseMode_frame hm
  simp only [OutPort.release_fst hm, o.settle_quiet now hq]
  refine ⟨hidle, hactive, hhold, hlock, hpres, fun v hstate hv => ?_⟩
  obtain ⟨hfull, hinset⟩ := OutPort.releaseMode_resume hstate hv
  refine ⟨?_, fun hmode => ?_, fun k hmode hk => ?_⟩
  · cases hmode : o.cfg.camMode with
    | none => exact absurd hmode hm
    | full => rw [hfull hmode]; rfl
    | inset => rw [hinset hmode]; rfl
  · rw [hfull hmode, ← Sink.writeShadow_main]; rfl
  · rw [hinset hmode, ← Sink.writeShadow_overlay]
    simp [OutPort.toIdle, OutPort.mapSink, hk]

end Quiet

/-! ### The engage event at the station -/

/-- The station once it has been woken for an engage, and a waiting STANDBY dropped (R159, R178, R179). -/
def State.roused (s : State) : State := s.wakeNode.dropStandby

theorem State.dropStandby_port (s : State) (p : PortId) : s.dropStandby.port p = s.port p := by
  unfold State.dropStandby; split_ifs <;> cases p <;> rfl

theorem State.dropStandby_node (s : State) : s.dropStandby.node.state = s.node.state ∧
    s.dropStandby.node.wakeFound = s.node.wakeFound ∧ s.dropStandby.node.waiting ≠ some .standby := by
  unfold State.dropStandby
  split_ifs with h
  · exact ⟨rfl, rfl, nofun⟩
  · exact ⟨rfl, rfl, h⟩

theorem State.roused_awake {s : State} (h : s.node.state ≠ .standby) : s.roused = s.dropStandby := by
  rw [State.roused, State.wakeNode_awake h]

/-- A wake at an output port (R179). -/
theorem State.roused_port_standby {s : State} (h : s.node.state = .standby) {p : PortId} {o : OutPort}
    (hp : s.port p = .output o) : s.roused.port p = .output (o.wake s.view.table).1 := by
  rw [State.roused, State.dropStandby_port, State.wakeNode, if_pos h]
  refine State.onOuts_port _ p o _ ?_
  rw [State.settleStreams_port_out]
  · cases p <;> exact hp
  · intro q hq
    cases p <;> exact nomatch hp.symm.trans hq

theorem State.wakeNode_wakeFound {s : State} (h : s.node.state = .standby) : s.wakeNode.node.wakeFound = false := by
  rw [State.wakeNode, if_pos h]
  simp

theorem State.recomputeDemand_credit (s : State) : s.recomputeDemand.sched.credit = s.sched.credit := by
  unfold State.recomputeDemand
  split_ifs
  · rfl
  · obtain ⟨-, -, -, hcredit, -⟩ := State.settleStreams_sched { s with view := { s.view with demand := s.demandOf } }
    exact hcredit

@[simp] theorem State.roused_tick (s : State) : s.roused.tick = s.tick := by simp [State.roused]

/-- The station after an engage event that finds no entry due: its ports engaged, the demand following, CAMERA_CHANGE raised. -/
def State.engagedFrom (u : State) : State :=
  (u.onOuts (OutPort.engage u.view.table u.tick)).recomputeDemand.raise Cause.cameraChange.bit

theorem State.setSources_engages {s : State} {c : CameraControl} (hdue : ∀ e, s.entryDue e = false)
    (hcam : s.hasCamera = true) (hoff : s.camera.engaged = false) (hon : c.engaged = true) :
    s.setSources c = ({ s with camera := c } : State).roused.engagedFrom := by
  have hcam' : ({ s with camera := c } : State).hasCamera = true := hcam
  have hnone : ({ s with camera := c } : State).takeEntry = { s with camera := c } := State.takeEntry_none _ hdue
  rw [State.setSources, hoff, hon]
  simp only [Bool.not_false, Bool.and_self, if_true]
  rw [State.engage, if_pos hcam', hnone]
  rfl

section EngagedFrom

variable (u : State)

theorem State.engagedFrom_node : u.engagedFrom.node = u.node := by simp [State.engagedFrom]

theorem State.engagedFrom_credit : u.engagedFrom.sched.credit = u.sched.credit := by
  rw [State.engagedFrom, State.raise_sched, State.recomputeDemand_credit, State.onOuts_sched]

theorem State.engagedFrom_mutePending : u.engagedFrom.view.mutePending = u.view.mutePending := by
  rw [State.engagedFrom, State.raise_view, State.recomputeDemand_view, State.onOuts_view]

variable {u} {p : PortId} {o : OutPort} (hp : u.port p = .output o)
include hp

theorem State.engagedFrom_port : u.engagedFrom.port p = .output (o.engage u.view.table u.tick).1 := by
  rw [State.engagedFrom, State.port_raise]
  exact State.recomputeDemand_port_out _ p _ (State.onOuts_port _ p o _ hp)

/-- An engaged camera-mode port makes the published demand (R71, R159). -/
theorem State.engagedFrom_demand (he : (o.engage u.view.table u.tick).1.engaged = true) :
    u.engagedFrom.view.demand = true := by
  rw [State.engagedFrom, State.raise_view, State.recomputeDemand_demand, State.demandOf,
    State.ownDemand_of_port _ p _ (State.onOuts_port _ p o _ hp) he, Bool.true_or]

end EngagedFrom

/-! ### The release event at the station -/

theorem State.setSources_releases {s : State} {c : CameraControl} (hcam : s.hasCamera = true)
    (hon : s.camera.engaged = true) (hoff : c.engaged = false) :
    s.setSources c = (({ s with camera := c } : State).onOuts OutPort.release).recomputeDemand.raise
      Cause.cameraChange.bit := by
  have hcam' : ({ s with camera := c } : State).hasCamera = true := hcam
  rw [State.setSources, hon, hoff]
  simp only [Bool.not_true, Bool.not_false, Bool.and_self, if_true, Bool.false_eq_true, if_false]
  rw [State.release, if_pos hcam']

/-- After a release no port makes a demand (R157, R159). -/
theorem State.onOuts_release_ownDemand (s : State) : (s.onOuts OutPort.release).ownDemand = false := by
  rw [Bool.eq_false_iff, Ne, State.ownDemand, State.outAnd_or_iff]
  rintro ⟨p, o', hp, he⟩
  cases hs : s.port p with
  | output o =>
    rw [State.onOuts_port s p o _ hs, Port.output.injEq] at hp
    rw [← hp, OutPort.release_engaged] at he
    exact Bool.false_ne_true he
  | input q => rw [State.onOuts_port_in s p _ (by simp [hs]), hs] at hp; exact nomatch hp
  | unused k => rw [State.onOuts_port_in s p _ (by simp [hs]), hs] at hp; exact nomatch hp

/-! ### New sources -/

theorem State.port_camera (s : State) (c : CameraControl) (p : PortId) :
    ({ s with camera := c } : State).port p = s.port p := by
  cases p <;> rfl

/-- Whatever values Camera Priority's sources take, the events of R152 follow. -/
theorem State.setSources_moves (s : State) (c : CameraControl) : s.CameraMoves c (s.setSources c) where
  rest := ⟨s.setSources_camera c, s.setSources_svc c, s.setSources_tick c, s.setSources_link_none c⟩
  same h := State.setSources_same h.symm
  engage hstate hdue hcam hoff hon := by
    have hawake : ({ s with camera := c } : State).node.state ≠ .standby := by
      rcases hstate with h | h <;> exact fun h' => nomatch h.symm.trans h'
    obtain ⟨hnode, -, hwaiting⟩ := ({ s with camera := c } : State).dropStandby_node
    have hpending := State.setSources_cameraChange (s := s) (c := c) (by rw [hoff, hon]; exact nofun) hcam
    rw [State.setSources_engages hdue hcam hoff hon, State.roused_awake hawake] at hpending ⊢
    refine ⟨hpending, by rw [State.engagedFrom_node, hnode], by rw [State.engagedFrom_node]; exact hwaiting,
      fun p o hp => ?_⟩
    have hport : ({ s with camera := c } : State).dropStandby.port p = .output o := by
      rw [State.dropStandby_port, State.port_camera, hp]
    have hafter := State.engagedFrom_port hport
    rw [State.dropStandby_tick] at hafter
    refine ⟨fun hm => ⟨State.engagedFrom_demand hport (OutPort.engage_full_engaged hm), fun hq => ?_⟩,
      fun k hm hk => ⟨State.engagedFrom_demand hport (OutPort.engage_inset_engaged hm hk), fun hq => ?_⟩, fun hm => ?_⟩
    · obtain ⟨hactive, hshadow, hblank, hport', hrest⟩ := OutPort.engage_full_quiet hq hm
      refine ⟨_, hafter, hactive, hshadow, hblank, ?_, hrest⟩
      rw [hport', Sink.held]
      cases o.main.shadow <;> rfl
    · obtain ⟨k', hspec⟩ := OutPort.engage_inset_quiet hq hm hk
      exact ⟨_, k', hafter, hspec⟩
    · rw [hafter, OutPort.engage_none hm]
  wakes := by
    intro hstate hcam hoff hon
    have hdue : ∀ e, s.entryDue e = false := State.entryDue_false (.inl (by rw [hstate]; exact nofun))
    obtain ⟨hwoken, hcredit, hmute⟩ := State.wakeNode_standby (s := { s with camera := c }) hstate
    obtain ⟨hnode, hfound, -⟩ := ({ s with camera := c } : State).wakeNode.dropStandby_node
    have hpending := State.setSources_cameraChange (s := s) (c := c) (by rw [hoff, hon]; exact nofun) hcam
    rw [State.setSources_engages hdue hcam hoff hon] at hpending ⊢
    refine ⟨hpending, ?_, ?_, ?_, ?_, fun p o hp hm => ?_⟩
    · rw [State.engagedFrom_node]; exact hnode.trans hwoken
    · rw [State.engagedFrom_node]; exact hfound.trans (State.wakeNode_wakeFound hstate)
    · rw [State.engagedFrom_credit, State.roused, State.dropStandby_sched]; exact hcredit
    · rw [State.engagedFrom_mutePending, State.roused, State.dropStandby_view]; exact hmute
    · have hport := State.roused_port_standby (s := { s with camera := c }) hstate ((State.port_camera s c p).trans hp)
      have hmode : (o.wake s.view.table).1.cfg.camMode = .full := by rw [(o.wake_frame _).1, hm]
      have hafter := State.engagedFrom_port hport
      rw [State.roused_tick] at hafter
      exact ⟨State.engagedFrom_demand hport (OutPort.engage_full_engaged hmode), _, hafter, OutPort.engage_wake _ _ _ hm⟩
  release hcam hon hoff := by
    have hpending := State.setSources_cameraChange (s := s) (c := c) (by rw [hoff, hon]; exact nofun) hcam
    rw [State.setSources_releases hcam hon hoff] at hpending ⊢
    refine ⟨hpending, by simp, ?_, fun p o hp hm hq => ⟨o.release.1, ?_, OutPort.release_quiet hq hm⟩⟩
    · rw [State.raise_view, State.recomputeDemand_demand, State.demandOf, State.onOuts_release_ownDemand, Bool.false_or,
        State.onOuts_view]
    · rw [State.port_raise]
      exact State.recomputeDemand_port_out _ p _ (State.onOuts_port _ p o _ ((State.port_camera s c p).trans hp))

end Sys2Proof.Machine
end

section
/-! PROOFS. The requests CAMERA, STANDBY and WAKE (R54, R158, R164, R165, R168, R178, R179). -/

namespace Sys2Proof.Machine

/-! ### The checks before a request -/

theorem State.serve_unready {s : State} (h : s.node.state.full = false) (ok : Bool) (f : State → State) :
    s.serve false ok f = s.respond .state [] := by
  simp [State.serve, h]

theorem State.serve_refused {s : State} (h : s.node.state.full = true) {ok : Bool} (hok : ok = false) (early : Bool)
    (f : State → State) : s.serve early ok f = s.respond .badArg [] := by
  simp [State.serve, h, hok]

theorem State.serve_taken {s : State} (h : s.node.state.full = true) {ok : Bool} (hok : ok = true) (early : Bool)
    (f : State → State) : s.serve early ok f = f s := by
  simp [State.serve, h, hok]

section Requests

variable {s : State} (hrun : s.running) {args : List Byte} (hlen : args.length ≤ 255)
include hrun hlen

theorem exec_camera : exec (.camera args) s = .next (s.cameraRequest args) := by
  change live (fun s => if argsFit args then s.cameraRequest args else s) s = _
  rw [live_running _ _ hrun, if_pos (by simpa [argsFit] using hlen)]

theorem exec_standby : exec (.standby args) s = .next (s.standbyRequest args) := by
  change live (fun s => if argsFit args then s.standbyRequest args else s) s = _
  rw [live_running _ _ hrun, if_pos (by simpa [argsFit] using hlen)]

theorem exec_wake : exec (.wake args) s = .next (s.wakeRequest args) := by
  change live (fun s => if argsFit args then s.wakeRequest args else s) s = _
  rw [live_running _ _ hrun, if_pos (by simpa [argsFit] using hlen)]

end Requests

/-! ### CAMERA -/

/-- Only off and on are arguments of CAMERA (12.5). -/
theorem onOffArg_none {args : List Byte} (h0 : args ≠ [0]) (h1 : args ≠ [1]) : onOffArg args = none := by
  match args with
  | [] => rfl
  | [b] => exact (if_neg (by simpa using h0)).trans (if_neg (by simpa using h1))
  | _ :: _ :: _ => rfl

theorem onOffArg_some {b : Byte} (h : b = 0 ∨ b = 1) : onOffArg [b] = some (b == 1) := by
  rcases h with rfl | rfl <;> rfl

theorem State.cameraRequest_taken {s : State} (hfull : s.node.state.full = true) {b : Byte} (hb : b = 0 ∨ b = 1) :
    s.cameraRequest [b] = (s.setLocalLatch (b == 1)).respond .done [] := by
  rw [State.cameraRequest, State.serve_taken hfull (by rw [onOffArg_some hb]; rfl), onOffArg_some hb]

/-! ### STANDBY -/

theorem State.standbyRequest_unready {s : State} (hfull : s.node.state.full = true)
    (h : s.node.state ≠ .run ∨ s.node.waiting = some .mute) : s.standbyRequest [] = s.respond .state [] := by
  rw [State.standbyRequest, State.serve_taken hfull (ok := ([] : List Byte).isEmpty) rfl]
  exact if_pos h

theorem State.standbyRequest_run {s : State} (hstate : s.node.state = .run) (hwait : s.node.waiting ≠ some .mute) :
    s.standbyRequest [] = if s.ownDemand then s.respond .held [] else (s.askEntry .standby).respond .accepted [] := by
  rw [State.standbyRequest, State.serve_taken (by rw [hstate]; rfl) (ok := ([] : List Byte).isEmpty) rfl]
  exact if_neg (by simp [hstate, hwait])

/-- The node once STANDBY has been asked for (R54). -/
def State.standbyAsked (s : State) : State := { s with node := { s.node with waiting := some .standby } }

/-- The entry to STANDBY comes at once, where no own LINE or MARK is being transmitted (R54). -/
theorem State.askEntry_standby (s : State) : s.askEntry .standby = s.standbyAsked.enterStandby := by
  have hmute : s.standbyAsked.enterMute = s.standbyAsked := if_neg (by simp [State.entryDue, State.standbyAsked])
  change s.standbyAsked.enterMute.enterStandby = _
  rw [hmute]

theorem State.askEntry_standby_waits {s : State} (h : s.link.sendingPicture = true) :
    s.askEntry .standby = s.standbyAsked :=
  State.takeEntry_none _ (State.entryDue_false (.inr (.inr h)))

theorem State.askEntry_standby_state {s : State} (hstate : s.node.state = .run) (h : s.link.sendingPicture = false) :
    (s.askEntry .standby).node.state = .standby := by
  have hnode := State.takeEntry_standby_node (s := s.standbyAsked) rfl hstate h
  exact congrArg Node.state hnode

/-! ### The tag of a message -/

/-- The next tag is the first past the counter that no message of the outbox has, among the tries allowed (R168). -/
theorem nextTag_first (box : List OutMessage) (fuel : Nat) (t : Byte) :
    ∃ n, n ≤ fuel ∧ nextTag box fuel t = t + BitVec.ofNat 8 (n + 1) ∧
      ∀ j, j < n → ∃ m ∈ box, m.tag = t + BitVec.ofNat 8 (j + 1) := by
  induction fuel generalizing t with
  | zero => exact ⟨0, le_rfl, rfl, fun j hj => absurd hj (Nat.not_lt_zero j)⟩
  | succ fuel ih =>
    unfold nextTag
    split_ifs with hused
    · obtain ⟨n, hn, htag, hbefore⟩ := ih (t + 1)
      have hshift : ∀ j, t + 1 + BitVec.ofNat 8 (j + 1) = t + BitVec.ofNat 8 (j + 1 + 1) := fun j => by
        rw [BitVec.add_assoc, Nat.add_comm (j + 1) 1, BitVec.ofNat_add 1 (j + 1)]; rfl
      refine ⟨n + 1, Nat.succ_le_succ hn, htag.trans (hshift n), fun j hj => ?_⟩
      cases j with
      | zero => simpa using hused
      | succ j =>
        obtain ⟨m, hm, hmt⟩ := hbefore j (Nat.lt_of_succ_lt_succ hj)
        exact ⟨m, hm, hmt.trans (hshift j)⟩
    · exact ⟨0, Nat.zero_le _, rfl, fun j hj => absurd hj (Nat.not_lt_zero j)⟩

/-! ### WAKE -/

theorem wakeArg_length {args : List Byte} (h : args.length ≠ 1) : wakeArg args = none := by
  unfold wakeArg
  split
  next b => exact absurd rfl h
  next => rfl

theorem wakeArg_large {b : Byte} (h : 16 ≤ b.toNat) : wakeArg [b] = none := if_neg (by omega)

theorem wakeArg_station {b : Byte} (h : b.toNat < 16) : wakeArg [b] = some (BitVec.ofNat 4 b.toNat) := if_pos (by omega)

theorem State.wakeRequest_refused {s : State} (hfull : s.node.state.full = true) {args : List Byte}
    (h : wakeArg args = none) : s.wakeRequest args = s.respond .badArg [] :=
  State.serve_refused hfull (by rw [h]; rfl) _ _

/-- WAKE of another station sends a WAKE message (R165, R168). -/
theorem State.wakeRequest_other {s : State} (hfull : s.node.state.full = true) {b : Byte} (hb : b.toNat < 16)
    (hne : b.toNat ≠ s.node.station.toNat) : s.wakeRequest [b] =
      s.sendMessage { target := some (BitVec.ofNat 4 b.toNat), kind := .wake, user := [] } := by
  have hother : BitVec.ofNat 4 b.toNat ≠ s.node.station := fun h => hne (by rw [← h, BitVec.toNat_ofNat]; omega)
  rw [State.wakeRequest, State.serve_taken hfull (by rw [wakeArg_station hb]; rfl), wakeArg_station hb]
  exact if_neg hother

/-- WAKE of this station is for STANDBY (R164, R165, R179). -/
theorem State.wakeRequest_own {s : State} (hfull : s.node.state.full = true) {b : Byte}
    (hb : b.toNat = s.node.station.toNat) : s.wakeRequest [b] =
      if s.node.state = .standby then s.wakeNode.respond .done [] else s.respond .state [] := by
  have hlt : b.toNat < 16 := hb ▸ s.node.station.isLt
  have hown : BitVec.ofNat 4 b.toNat = s.node.station := by rw [hb, BitVec.ofNat_toNat, BitVec.setWidth_eq]
  rw [State.wakeRequest, State.serve_taken hfull (by rw [wakeArg_station hlt]; rfl), wakeArg_station hlt]
  exact if_pos hown

/-- The node once a tick has found the WAKE pin high (R179). -/
def State.wakeSeen (s : State) : State := { s with node := { s.node with wakeFound := true } }

/-- The WAKE pin, found high, wakes the node as a request does (R179). -/
theorem exec_wakePin_wakeSeen {s : State} (hrun : s.running) (hstate : s.node.state = .standby) :
    exec .wakePin s.wakeSeen = .next s.wakeNode := by
  have hseen : s.wakeSeen.node.state = .standby := hstate
  have hdue : s.wakeSeen.wakeDue = true := by simp [State.wakeDue, State.wakeSeen, hstate]
  refine (live_running State.wakePin s.wakeSeen hrun).trans (congrArg _ ?_)
  rw [State.wakePin, if_pos hdue, State.wakeNode, State.wakeNode, if_pos hseen, if_pos hstate]
  rfl

/-- Settles O55: CAMERA, STANDBY and WAKE. -/
theorem controlRequests : Obligations.ControlRequests := by
  intro s hrun
  refine ⟨fun hstate args hlen => ?_, fun hfull => ⟨fun b hb => ?_, fun args hlen h0 h1 => ?_, fun args hlen hargs => ?_,
    fun h => ?_, fun hstate hwait => ⟨fun hown => ?_, fun hown => ⟨fun hsend => ?_, fun hsend => ?_⟩⟩,
    fun args hlen h1 => ?_, fun b hb => ?_, fun b hb hne => ⟨fun hbox => ?_, fun hbox => ?_⟩,
    fun b hb => ⟨fun h => ?_, fun h => ?_⟩⟩⟩
  · have hready : s.node.state.full = false := by rcases hstate with h | h <;> rw [h] <;> rfl
    rw [exec_camera hrun hlen, exec_standby hrun hlen, exec_wake hrun hlen]
    exact ⟨congrArg _ (State.serve_unready hready _ _), congrArg _ (State.serve_unready hready _ _),
      congrArg _ (State.serve_unready hready _ _)⟩
  · rw [exec_camera hrun (by simp), State.cameraRequest_taken hfull hb]
    exact ⟨_, rfl, s.setSources_moves _⟩
  · rw [exec_camera hrun hlen]
    exact congrArg _ (State.serve_refused hfull (by rw [onOffArg_none h0 h1]; rfl) _ _)
  · rw [exec_standby hrun hlen]
    exact congrArg _ (State.serve_refused hfull (by simpa using hargs) _ _)
  · rw [exec_standby hrun (by simp), State.standbyRequest_unready hfull h]
  · rw [exec_standby hrun (by simp), State.standbyRequest_run hstate hwait, if_pos hown]
  · rw [exec_standby hrun (by simp), State.standbyRequest_run hstate hwait, if_neg (by simp [hown]),
      State.askEntry_standby_waits ((RingPort.sendingPicture_iff _).mpr hsend)]
    rfl
  · have hquiet : s.link.sendingPicture = false := by
      rw [Bool.eq_false_iff, Ne, RingPort.sendingPicture_iff]
      rintro ⟨p, hp, hkind⟩
      obtain ⟨hline, hmark⟩ := hsend p hp
      exact hkind.elim hline hmark
    rw [exec_standby hrun (by simp), State.standbyRequest_run hstate hwait, if_neg (by simp [hown])]
    refine ⟨s.askEntry .standby, ?_, State.askEntry_standby_state hstate hquiet, rfl⟩
    rw [State.askEntry_standby]
    exact live_running State.enterStandby s.standbyAsked hrun
  · rw [exec_wake hrun hlen, State.wakeRequest_refused hfull (wakeArg_length h1)]
  · rw [exec_wake hrun (by simp), State.wakeRequest_refused hfull (wakeArg_large hb)]
  · rw [exec_wake hrun (by simp), State.wakeRequest_other hfull hb hne, State.sendMessage, if_pos hbox]
  · rw [exec_wake hrun (by simp), State.wakeRequest_other hfull hb hne, State.sendMessage, if_neg (Nat.not_le.mpr hbox)]
    refine ⟨nextTag s.svc.outbox Config.outboxCap s.svc.tag,
      nextTag_fresh _ _ _ (exists_free_tag _ _ hbox), nextTag_first _ _ _, ?_⟩
    have hstation : (BitVec.ofNat 4 b.toNat).toNat = b.toNat := Nat.mod_eq_of_lt hb
    simp only [State.queueMessage, messageWords, messageWord0, hstation]
    rfl
  · rw [exec_wake hrun (by simp), State.wakeRequest_own hfull hb, if_neg h]
  · rw [exec_wake hrun (by simp), State.wakeRequest_own hfull hb, if_pos h]
    obtain ⟨hstate, hcredit, -⟩ := State.wakeNode_standby h
    exact ⟨_, rfl, exec_wakePin_wakeSeen hrun h, hstate, hcredit⟩

end Sys2Proof.Machine
end

section
/-! PROOFS. The ring generator: its advance and its seeds, never zero (R59, R60). -/

namespace Sys2Proof.Machine

/-- The bit that an advance moves out. -/
theorem getLsbD_zero_iff (v : Half) : v.getLsbD 0 = true ↔ v.toNat % 2 = 1 := by
  simp [BitVec.getLsbD, Nat.testBit_zero]

theorem ushiftRight_one_eq (v : Half) : v >>> 1 = BitVec.ofNat 16 (v.toNat / 2) := by
  have hlt := v.isLt
  apply BitVec.eq_of_toNat_eq
  rw [BitVec.toNat_ushiftRight, Nat.shiftRight_eq_div_pow, BitVec.toNat_ofNat, Nat.mod_eq_of_lt (by omega), pow_one]

/-- An advance in numbers (R59). -/
theorem advance_eq (v : Half) : advance v =
    if v.toNat % 2 = 1 then BitVec.ofNat 16 (v.toNat / 2) ^^^ 0xB400#16 else BitVec.ofNat 16 (v.toNat / 2) := by
  simp only [advance, getLsbD_zero_iff, ushiftRight_one_eq]

/-- The bit moved out of a nonzero value shows as B400h, whose top bit no half of a value has; with none moved out, the half
is nonzero itself. -/
theorem advance_ne_zero {v : Half} (h : v ≠ 0) : advance v ≠ 0 := by
  have hlt := v.isLt
  have hpos : v.toNat ≠ 0 := fun hz => h (BitVec.eq_of_toNat_eq hz)
  have hhalf : (BitVec.ofNat 16 (v.toNat / 2)).toNat = v.toNat / 2 := Nat.mod_eq_of_lt (by omega)
  rw [advance_eq]
  split_ifs with hodd
  · intro hz
    have hb400 := congrArg BitVec.toNat (BitVec.xor_eq_zero_iff.mp hz)
    rw [hhalf, show (0xB400#16).toNat = 46080 from rfl] at hb400
    omega
  · intro hz
    have hzero := congrArg BitVec.toNat hz
    rw [hhalf, show (0 : Half).toNat = 0 from rfl] at hzero
    omega

/-- A seed is FFFFh exactly where the combination would be 0 (R59). -/
theorem seedFor_eq (base : Half) (n : StationNo) : seedFor base n =
    if base = BitVec.ofNat 16 (n.toNat * 4097) then 0xFFFF#16 else base ^^^ BitVec.ofNat 16 (n.toNat * 4097) := by
  unfold seedFor
  exact if_congr BitVec.xor_eq_zero_iff rfl rfl

theorem seedFor_ne_zero (base : Half) (n : StationNo) : seedFor base n ≠ 0 := by
  rw [seedFor_eq]
  split_ifs with heq
  · decide
  · exact fun hz => heq (BitVec.xor_eq_zero_iff.mp hz)

/-- Settles O7: the advance and the seeds of the ring generator. -/
theorem generatorNeverZero : Obligations.GeneratorNeverZero :=
  ⟨advance_eq, seedFor_eq, seedFor_ne_zero, fun _ => advance_ne_zero⟩

end Sys2Proof.Machine
end

section
/-! PROOFS. The order of the Station View through every operation that reaches it, and so through every command and step (4.5,
R59, R60, R68). -/

namespace Sys2Proof.Machine

/-! ### The Station View of a state -/

/-- The order of a Station View lies in its table, nonce and generator. -/
theorem State.Ordered.ofView {s t : State} (h : s.Ordered) (e : t.view = s.view) : t.Ordered :=
  ⟨e ▸ h.table, e ▸ h.nonce⟩

/-- A Station View just started: an empty table, and a nonce and generator drawn from a nonzero seed (R59, R60). -/
theorem State.ordered_of_start {s : State} {seed : Half} {retired : Option Half} {demand : Bool} (hseed : seed ≠ 0)
    (e : s.view = StationView.start seed retired demand) : s.Ordered := by
  refine ⟨e ▸ .nil, fun n hn => ?_⟩
  rw [e] at hn ⊢
  cases hn
  exact ⟨advance_ne_zero hseed, advance_ne_zero (advance_ne_zero hseed)⟩

/-- What one step of a fold keeps, the fold keeps. -/
theorem State.Ordered.foldl {α : Type} {s : State} (h : s.Ordered) (f : State → α → State)
    (hf : ∀ (s : State) (a : α), s.Ordered → (f s a).Ordered) (l : List α) : (l.foldl f s).Ordered := by
  induction l generalizing s with
  | nil => exact h
  | cons a l ih => exact ih (hf s a h)

section Kept

variable {s : State} (h : s.Ordered)
include h

/-! ### The operations on the Station View -/

theorem State.Ordered.recomputeDemand : s.recomputeDemand.Ordered := by
  have e := s.recomputeDemand_view
  exact ⟨by rw [e]; exact h.table, by rw [e]; exact h.nonce⟩

theorem State.Ordered.tableReport (st : StationNo) : (s.tableReport st).Ordered :=
  State.Ordered.recomputeDemand (h.ofView (by simp))

/-- A census copy takes its place by station number, in place of the station's former entry (R68). -/
theorem State.Ordered.censusCopy (st : StationNo) (hop : BitVec 4) (payload : List Word) :
    (s.censusCopy st hop payload).Ordered := by
  unfold State.censusCopy
  split
  · exact h
  · refine State.Ordered.tableReport ?_ st
    exact ⟨insertEntry_sorted _ _ h.table, h.nonce⟩

theorem State.Ordered.removeEntry (st : StationNo) : (s.removeEntry st).Ordered := by
  refine State.Ordered.tableReport ?_ st
  exact ⟨h.table.filter _, h.nonce⟩

theorem State.Ordered.entryExpiry (st : StationNo) : (s.entryExpiry st).Ordered := by
  unfold State.entryExpiry
  split
  · exact h
  · split_ifs
    · exact h.removeEntry st
    · exact h

/-- The generator advances with each census built, and stays nonzero (R59, R61). -/
theorem State.Ordered.censusExpiry : s.censusExpiry.Ordered := by
  unfold State.censusExpiry
  split_ifs
  · exact ⟨h.table, fun n hn => ⟨(h.nonce n hn).1, advance_ne_zero (h.nonce n hn).2⟩⟩
  · exact h

theorem State.Ordered.censusReturn : s.censusReturn.Ordered := { h with }

theorem State.Ordered.ownCensusSend : s.ownCensusSend.Ordered := { h with }

/-- A conflict report touches the mute-pending flag alone (R67). -/
theorem State.Ordered.conflict : s.conflict.Ordered := by
  have e := s.conflict_view
  exact ⟨by rw [e]; exact h.table, by rw [e]; exact h.nonce⟩

theorem State.Ordered.strippedCensus (payload : List Word) : (s.strippedCensus payload).Ordered := by
  unfold State.strippedCensus; dsimp only
  split_ifs
  · exact h
  · exact h.censusReturn
  · exact h
  · exact h.conflict

theorem State.Ordered.strippedCensusFallback (payload : List Word) : (s.strippedCensusFallback payload).Ordered := by
  unfold State.strippedCensusFallback
  split_ifs
  · exact h.censusReturn
  · exact h

/-! ### Wake, Camera Priority and messages -/

theorem State.Ordered.wakeNode : s.wakeNode.Ordered := by
  unfold State.wakeNode; dsimp only
  split_ifs
  · exact State.Ordered.ofView (s := { s with view.mutePending := false }) { h with } (by simp)
  · exact h

theorem State.Ordered.engage : s.engage.Ordered := by
  have hwoken : s.takeEntry.wakeNode.Ordered := State.Ordered.wakeNode (h.ofView (by simp))
  unfold State.engage; dsimp only
  split_ifs
  · refine State.Ordered.ofView (State.Ordered.recomputeDemand ?_) (State.raise_view _ _)
    exact hwoken.ofView (by simp)
  · exact h

theorem State.Ordered.release : s.release.Ordered := by
  unfold State.release
  split_ifs
  · refine State.Ordered.ofView (State.Ordered.recomputeDemand ?_) (State.raise_view _ _)
    exact h.ofView (by simp)
  · exact h

theorem State.Ordered.setSources (c : CameraControl) : (s.setSources c).Ordered := by
  have hc : ({ s with camera := c } : State).Ordered := { h with }
  unfold State.setSources; dsimp only
  split_ifs
  · exact hc.engage
  · exact hc.release
  · exact hc

theorem State.Ordered.reverseDebounced : s.reverseDebounced.Ordered := by
  unfold State.reverseDebounced
  split_ifs
  · exact h.setSources _
  · exact h

theorem State.Ordered.wakePin : s.wakePin.Ordered := by
  unfold State.wakePin
  split_ifs
  · exact h.wakeNode
  · exact h

theorem State.Ordered.messageAction (k : Option MessageKind) : (s.messageAction k).Ordered := by
  unfold State.messageAction
  split
  · exact h.setSources _
  · exact h.setSources _
  · exact h.wakeNode
  · exact h
  · exact h

theorem State.Ordered.messageEnd (payload : List Word) (addressed reserved good : Bool) :
    (s.messageEnd payload addressed reserved good).Ordered := by
  have hdone (user : List Word) : (s.completeEntry user).Ordered := h.ofView (by simp)
  unfold State.messageEnd; dsimp only
  split_ifs
  · exact (hdone _).messageAction _
  · exact hdone _
  · exact h.ofView (by simp)
  · exact h.messageAction _
  · exact h
  · exact h

/-! ### The receive link -/

/-- The end of a parcel reaches the Station View by a census or a message alone (R24 to R26, R35). -/
theorem State.Ordered.filterEnd (r : Reception) (good : Bool) : (s.filterEnd r good).Ordered := by
  unfold State.filterEnd
  split
  · exact h
  · exact h
  · split
    · exact h.ofView (by simp)
    · split_ifs
      · exact h.ofView (by simp)
      · exact h
    · split_ifs
      · exact h.censusCopy _ _ _
      · exact h
    · exact h.messageEnd _ _ _ good
  · split
    · exact h
    · exact h
    · split_ifs
      · exact h.strippedCensus _
      · exact h
    · exact h.ofView (by simp)
  · split
    · split_ifs
      · exact h.strippedCensusFallback _
      · exact h
    · exact h
    · exact h
    · exact h

theorem State.Ordered.endParcel (r : Reception) (good : Bool) : (s.endParcel r good).Ordered :=
  State.Ordered.filterEnd (h.ofView (by split_ifs <;> simp)) r good

theorem State.Ordered.leaveUp (st : LinkState) : (s.leaveUp st).Ordered := by
  have hleft : (({ s with link := { s.link with state := st, violations := [] } } : State).raise Cause.linkDown.bit).Ordered :=
    { h with }
  unfold State.leaveUp; dsimp only
  split
  · exact hleft
  · exact hleft.ofView (by simp)
  · exact hleft.endParcel _ false

theorem State.Ordered.breakParcel : s.breakParcel.Ordered := by
  unfold State.breakParcel
  split
  · exact h
  · exact h.ofView (by simp)
  · exact State.Ordered.endParcel (h.ofView (by simp)) _ false

theorem State.Ordered.unitUp (f : State → State) (hf : ∀ u : State, u.Ordered → (f u).Ordered) : (s.unitUp f).Ordered := by
  unfold State.unitUp
  split_ifs
  · exact hf _ { h with }
  · exact h

theorem State.Ordered.signalPresent : s.signalPresent.Ordered := by
  unfold State.signalPresent
  split_ifs
  · exact { h with }
  · exact h

theorem State.Ordered.lossOfSignal : s.lossOfSignal.Ordered := by
  unfold State.lossOfSignal
  split
  · exact h
  · exact { h with }
  · exact h.leaveUp .down

theorem State.Ordered.alignUnit (u : RxUnit) : (s.alignUnit u).Ordered := by
  unfold State.alignUnit
  split_ifs
  · exact { h with }
  · exact h

theorem State.Ordered.sopReceived : s.sopReceived.Ordered :=
  h.unitUp _ (fun _ hu => hu.breakParcel.ofView (by simp))

theorem State.Ordered.strayUnit (u : RxUnit) : (s.strayUnit u).Ordered := by
  unfold State.strayUnit
  split_ifs
  · exact h.unitUp _ (fun _ hu => hu)
  · exact h

theorem State.Ordered.codingViolation : s.codingViolation.Ordered := by
  refine h.unitUp _ (fun u hu => ?_)
  split_ifs
  · refine State.Ordered.leaveUp ?_ .align
    exact { hu with }
  · refine State.Ordered.breakParcel ?_
    exact { hu with }

theorem State.Ordered.headerWord (w : Word) : (s.headerWord w).Ordered := by
  unfold State.headerWord
  split
  · split_ifs
    · exact h.unitUp _ (fun _ hu => hu.ofView (by simp))
    · exact h
  · exact h
  · exact h

theorem State.Ordered.decideHeader (hd : Header) (k : ParcelKind) : (s.decideHeader hd k).Ordered := by
  have hoff : (s.offered hd k).Ordered := h.ofView (by unfold State.offered State.sighted; split_ifs <;> simp)
  rw [State.decideHeader_eq]
  split_ifs
  · refine State.Ordered.filterEnd ?_ _ false
    exact hoff.ofView (by simp)
  · exact hoff.ofView (by simp)
  · exact hoff.ofView (by simp)

theorem State.Ordered.headerEvent (w : Word) : (s.headerEvent w).Ordered := by
  unfold State.headerEvent
  split
  · refine h.unitUp _ (fun u hu => ?_)
    split_ifs
    · split
      · exact hu.decideHeader _ _
      · exact hu.ofView (by simp)
    · exact hu.ofView (by simp)
  · exact h
  · exact h
  · exact h

theorem State.Ordered.bodyWord (r : Reception) (w : Word) : (s.bodyWord r w).Ordered := by
  unfold State.bodyWord; dsimp only
  split_ifs
  · refine State.Ordered.endParcel ?_ r false
    exact h.ofView (by simp)
  · refine State.Ordered.endParcel ?_ _ false
    exact h.ofView (by simp)
  · exact h.ofView (by simp)

theorem State.Ordered.payloadWord (w : Word) : (s.payloadWord w).Ordered := by
  unfold State.payloadWord
  split
  · exact h.unitUp _ (fun _ hu => hu.bodyWord _ w)
  · exact h
  · exact h

theorem State.Ordered.bodyEnd (r : Reception) (e : EndSymbol) : (s.bodyEnd r e).Ordered := by
  have hbad : (s.payloadError.endParcel r false).Ordered := State.Ordered.endParcel (h.ofView (by simp)) r false
  unfold State.bodyEnd
  split
  · exact h.endParcel r false
  · split_ifs
    · exact h.endParcel r true
    · exact hbad

theorem State.Ordered.endEvent (e : EndSymbol) : (s.endEvent e).Ordered := by
  unfold State.endEvent
  split
  · exact h
  · exact h.unitUp _ (fun _ hu => hu.ofView (by simp))
  · exact h.unitUp _ (fun _ hu => hu.bodyEnd _ e)

/-! ### The transmit link and the tick -/

/-- Of the parcels that start, a census alone is the Station View's (R63). -/
theorem State.Ordered.parcelStart : s.parcelStart.Ordered := by
  unfold State.parcelStart
  split_ifs
  · unfold State.start
    split
    · exact h
    · exact { h with }
    · exact h.ofView (by simp)
    · exact State.Ordered.ownCensusSend { h with }
    · exact { h with }
    · exact { h with }
  · exact h

theorem State.Ordered.takeDue : s.takeDue.Ordered := by
  unfold State.takeDue; dsimp only
  have hflags : s.takeEntry.setStarved.clearYield.Ordered := h.ofView (by simp)
  have hexpired := hflags.censusExpiry.foldl State.entryExpiry (fun _ st hs => hs.entryExpiry st)
    s.takeEntry.setStarved.clearYield.censusExpiry.tableStations
  generalize List.foldl State.entryExpiry _ _ = s1 at hexpired ⊢
  have hports : ((s1.silenceTimeout .a).silenceTimeout .b).Ordered := hexpired.ofView (by simp)
  generalize (s1.silenceTimeout .a).silenceTimeout .b = s2 at hports ⊢
  have hmail := hports.foldl State.messageTimeout (fun _ tag hs => hs.ofView (by simp)) (s2.svc.outbox.map OutMessage.tag)
  generalize List.foldl State.messageTimeout _ _ = s3 at hmail ⊢
  refine State.Ordered.ofView (State.Ordered.wakePin (hmail.reverseDebounced.ofView ?_)) (State.onOuts_view _ _)
  exact State.onOuts_view _ _

theorem State.Ordered.microsecondTick (reverse wake : Bool) : (s.microsecondTick reverse wake).Ordered := { h.takeDue with }

/-! ### The service port -/

theorem State.Ordered.respond (c : ResponseCode) (data : List Byte) : (s.respond c data).Ordered := { h with }

theorem State.Ordered.serve (early argsOk : Bool) (f : State → State) (hf : (f s).Ordered) :
    (s.serve early argsOk f).Ordered := by
  unfold State.serve
  split_ifs
  · exact h.respond _ _
  · exact hf
  · exact h.respond _ _

theorem State.Ordered.sendMessage (a : SendArgs) : (s.sendMessage a).Ordered := by
  unfold State.sendMessage
  split_ifs
  · exact h.respond _ _
  · exact h.ofView (by simp)

theorem State.Ordered.placeRequest (p : PortId) (m : CameraMode) (role : Role) (v : Placed) :
    (s.placeRequest p m role v).Ordered := h.ofView (by simp [State.placeRequest])

theorem State.Ordered.showStream (args : List Byte) : (s.showStream args).Ordered := by
  refine h.serve _ _ _ ?_
  split
  · exact h.placeRequest _ _ _ _
  · exact h

theorem State.Ordered.inset (args : List Byte) : (s.inset args).Ordered := by
  refine h.serve _ _ _ ?_
  split
  · exact h.placeRequest _ _ _ _
  · exact h

theorem State.Ordered.probe (args : List Byte) : (s.probe args).Ordered := by
  refine h.serve _ _ _ ?_
  split
  · exact h.respond _ _
  · exact h

theorem State.Ordered.status (args : List Byte) : (s.status args).Ordered := by
  refine h.serve _ _ _ ?_
  split
  · exact h.respond _ _
  · exact h

theorem State.Ordered.send (args : List Byte) : (s.send args).Ordered := by
  refine h.serve _ _ _ ?_
  split
  · exact h.sendMessage _
  · exact h

theorem State.Ordered.take (args : List Byte) : (s.take args).Ordered := by
  refine h.serve _ _ _ ?_
  split
  · exact { h with }
  · exact h.respond _ _

theorem State.Ordered.result (args : List Byte) : (s.result args).Ordered := by
  refine h.serve _ _ _ ?_
  split
  · exact { h with }
  · exact h.respond _ _

theorem State.Ordered.attention (args : List Byte) : (s.attention args).Ordered := h.serve _ _ _ (h.respond _ _)

theorem State.Ordered.clear (args : List Byte) : (s.clear args).Ordered := by
  refine h.serve _ _ _ ?_
  split
  · exact { h with }
  · exact h

theorem State.Ordered.cameraRequest (args : List Byte) : (s.cameraRequest args).Ordered := by
  refine h.serve _ _ _ ?_
  split
  · exact (h.setSources _).respond _ _
  · exact h

theorem State.Ordered.standbyRequest (args : List Byte) : (s.standbyRequest args).Ordered := by
  refine h.serve _ _ _ ?_
  split_ifs
  · exact h.respond _ _
  · exact h.respond _ _
  · exact h.ofView (by simp)

theorem State.Ordered.wakeRequest (args : List Byte) : (s.wakeRequest args).Ordered := by
  refine h.serve _ _ _ ?_
  split
  · split_ifs
    · exact h.wakeNode.respond _ _
    · exact h.respond _ _
    · exact h.sendMessage _
  · exact h

/-! ### Image and restart -/

theorem State.Ordered.resetRelease (straps : StationNo) : (s.resetRelease straps).Ordered := by
  unfold State.resetRelease
  split_ifs
  · exact { h with }
  · exact h

omit h in
/-- An accepted image starts the Station View (R59, R60, R176). -/
theorem State.takeImage_ordered (i : Image) : (s.takeImage i).Ordered :=
  State.ordered_of_start (retired := none) (demand := false) (seedFor_ne_zero i.ring.seed s.node.station)
    (by simp [State.takeImage])

theorem State.Ordered.imageAccepted (flash : List Byte) : (s.imageAccepted flash).Ordered := by
  unfold State.imageAccepted
  split_ifs
  · split
    · exact State.takeImage_ordered _
    · exact h
    · exact h
  · exact h

theorem State.Ordered.imageRejected (flash : List Byte) : (s.imageRejected flash).Ordered := by
  unfold State.imageRejected
  split_ifs
  · exact State.ordered_of_start (seedFor_ne_zero _ _) rfl
  · exact h

omit h in
/-- A warm restart starts the Station View (R59, R60, R180). -/
theorem State.restartView_ordered : s.restartView.Ordered := by
  unfold State.restartView; dsimp only
  refine State.Ordered.recomputeDemand (State.Ordered.foldl ?_ _ (fun _ st hs => hs.tableReport st) _)
  exact State.ordered_of_start (seedFor_ne_zero _ _) rfl

theorem State.Ordered.restartCamera : s.restartCamera.Ordered := by
  unfold State.restartCamera; dsimp only
  split_ifs
  · refine State.Ordered.engage ?_
    exact h.ofView (by simp)
  · exact h.ofView (by simp)

omit h in
/-- What came before a warm restart does not matter to the order after it. -/
theorem State.warmRestart_ordered : s.warmRestart.Ordered := by
  unfold State.warmRestart
  refine State.Ordered.restartCamera ?_
  exact State.Ordered.ofView (State.restartView_ordered (s := s.restartRing.restartSources.restartOuts)) (by simp)

theorem State.Ordered.restartRequest (args : List Byte) : (s.restartRequest args).Ordered :=
  h.serve _ _ _ (State.Ordered.respond State.warmRestart_ordered _ _)

/-! ### The commands -/

/-- A command of a part in cold reset does nothing. -/
theorem State.Ordered.live {t u : State} (hu : u.Ordered)
    (ht : Host.Outcome.next (if s.node.held then s else u) = (.next t : Answer)) : t.Ordered := by
  rw [← Host.Outcome.next.inj ht]
  split_ifs
  · exact h
  · exact hu

/-- A command that leaves the Station View. -/
theorem State.Ordered.liveSame {t u : State} (hu : u.view = s.view)
    (ht : Host.Outcome.next (if s.node.held then s else u) = (.next t : Answer)) : t.Ordered :=
  h.live (h.ofView hu) ht

/-- An operation made only under a condition. -/
theorem State.Ordered.when {t : State} (c : Prop) [Decidable c] (ht : t.Ordered) : (if c then t else s).Ordered := by
  split_ifs
  · exact ht
  · exact h

/-- Every command keeps the order of the Station View. -/
theorem State.Ordered.exec {t : State} (c : Instr) (ht : exec c s = .next t) : t.Ordered := by
  cases c with
  | coldReset => cases ht; exact ⟨.nil, fun _ hn => nomatch hn⟩
  | resetRelease straps => cases ht; exact h.resetRelease straps
  | imageAccepted flash => exact h.live (h.imageAccepted flash) ht
  | imageRejected flash => exact h.live (h.imageRejected flash) ht
  | signalPresent => exact h.live h.signalPresent ht
  | lossOfSignal => exact h.live h.lossOfSignal ht
  | alignUnit u => exact h.live (h.alignUnit u) ht
  | sopReceived => exact h.live h.sopReceived ht
  | strayUnit u => exact h.live (h.strayUnit u) ht
  | codingViolation => exact h.live h.codingViolation ht
  | headerWord w => exact h.live (h.headerWord w) ht
  | headerEvent w => exact h.live (h.headerEvent w) ht
  | payloadWord w => exact h.live (h.payloadWord w) ht
  | endEvent e => exact h.live (h.endEvent e) ht
  | parcelStart => exact h.live h.parcelStart ht
  | cutThroughStart => exact h.liveSame (by simp) ht
  | wordSent => exact h.liveSame (by simp) ht
  | parcelEndSent => exact h.liveSame (by simp) ht
  | enterMute => exact h.liveSame (by simp) ht
  | enterStandby => exact h.liveSame (by simp) ht
  | wakePin => exact h.live h.wakePin ht
  | microsecondTick reverse wake => exact h.live (h.microsecondTick reverse wake) ht
  | starvedSet => exact h.liveSame (by simp) ht
  | yieldExpiry => exact h.liveSame (by simp) ht
  | censusTimerExpiry => exact h.live h.censusExpiry ht
  | tableEntryExpiry station => exact h.live (h.entryExpiry station) ht
  | silenceTimeout p => exact h.liveSame (by simp) ht
  | messageTimeout tag => exact h.liveSame (by simp) ht
  | reverseDebounced => exact h.live h.reverseDebounced ht
  | cameraDeadlineExpiry p => exact h.liveSame (by simp) ht
  | inputFrameStart p => exact h.liveSame (by simp) ht
  | activePixel p r g b => exact h.liveSame (by simp) ht
  | inputLineEnd p => exact h.liveSame (by simp) ht
  | outputFrameStart p => exact h.liveSame (by simp) ht
  | silentFramesLost p role => exact h.liveSame (by simp) ht
  | holdoverExpiry p => exact h.liveSame (by simp) ht
  | addedLineEnd p => exact h.liveSame (by simp) ht
  | holdGiveUp p => exact h.liveSame (by simp) ht
  | stretchLimit p => exact h.liveSame (by simp) ht
  | activeLineStart p => exact h.liveSame (by simp) ht
  | portStop p => exact h.liveSame (by simp) ht
  | requestFrameDiscarded frame => exact h.live (h.when _ (h.ofView s.discardFrame_view)) ht
  | readFrame clocked => exact h.live (h.when _ (h.ofView (s.readFrame_view clocked))) ht
  | unknownRequest kind args => exact h.live (h.when _ (h.respond _ _)) ht
  | showStream args => exact h.live (h.when _ (h.showStream args)) ht
  | inset args => exact h.live (h.when _ (h.inset args)) ht
  | probe args => exact h.live (h.when _ (h.probe args)) ht
  | send args => exact h.live (h.when _ (h.send args)) ht
  | take args => exact h.live (h.when _ (h.take args)) ht
  | result args => exact h.live (h.when _ (h.result args)) ht
  | status args => exact h.live (h.when _ (h.status args)) ht
  | attention args => exact h.live (h.when _ (h.attention args)) ht
  | clear args => exact h.live (h.when _ (h.clear args)) ht
  | camera args => exact h.live (h.when _ (h.cameraRequest args)) ht
  | standby args => exact h.live (h.when _ (h.standbyRequest args)) ht
  | wake args => exact h.live (h.when _ (h.wakeRequest args)) ht
  | restart args => exact h.live (h.when _ (h.restartRequest args)) ht

end Kept

/-- Settles O60: every step keeps the station table in order, and the nonce and generator nonzero. -/
theorem orderedKept : Obligations.OrderedKept := by
  intro s t hs ht
  unfold step at ht
  split at ht
  · cases ht; exact hs
  · rename_i c rest _
    have hrest : ({ s with pending := rest } : State).Ordered := { hs with }
    exact hrest.exec c ht

end Sys2Proof.Machine
end

section
/-! PROOFS. The census payload: which are well formed, and the encoding and decoding without loss (R62, R68, 12.2). -/

namespace Sys2Proof.Machine

/-! ### Codes -/

theorem RingFormat.ofCode_isSome (n : Nat) : (RingFormat.ofCode n).isSome = true ↔ n ≤ 2 := by
  match n with
  | 0 | 1 | 2 => simp [RingFormat.ofCode]
  | n + 3 => simp [RingFormat.ofCode]

theorem ParcelClass.ofCode_isSome (n : Nat) : (ParcelClass.ofCode n).isSome = true ↔ n ≤ 2 := by
  match n with
  | 0 | 1 | 2 => simp [ParcelClass.ofCode]
  | n + 3 => simp [ParcelClass.ofCode]

/-- Each of the four codes of a census's two state bits names a state (12.2). -/
theorem NodeState.ofCensusCode_total (x : BitVec 2) : ∃ st, NodeState.ofCensusCode x.toNat = some st := by
  have hlt : x.toNat < 4 := x.isLt
  generalize x.toNat = n at hlt
  match n, hlt with
  | 0, _ => exact ⟨.run, rfl⟩
  | 1, _ => exact ⟨.standby, rfl⟩
  | 2, _ => exact ⟨.mute, rfl⟩
  | 3, _ => exact ⟨.fallback, rfl⟩

theorem NodeState.ofCensusCode_code {st : NodeState} (h : st ≠ .loading) :
    NodeState.ofCensusCode (BitVec.ofNat 2 st.code).toNat = some st := by
  cases st with
  | loading => exact absurd rfl h
  | run | standby | mute | fallback => rfl

/-! ### The items of a payload -/

/-- Two words that make a census item: a defined format and class, and a size from 1 to 2048 each way (R68, 12.2). -/
def ItemFormed (a b : Word) : Prop :=
  (a.extractLsb' 27 2).toNat ≤ 2 ∧ (a.extractLsb' 25 2).toNat ≤ 2 ∧
    1 ≤ (b.extractLsb' 16 16).toNat ∧ (b.extractLsb' 16 16).toNat ≤ 2048 ∧
    1 ≤ (b.extractLsb' 0 16).toNat ∧ (b.extractLsb' 0 16).toNat ≤ 2048

theorem offersOf_cons_isSome (a b : Word) (rest : List Word) :
    (offersOf (a :: b :: rest)).isSome = true ↔ ItemFormed a b ∧ (offersOf rest).isSome = true := by
  unfold ItemFormed
  rw [← RingFormat.ofCode_isSome, ← ParcelClass.ofCode_isSome]
  change (offersOf (a :: b :: rest)).isSome = true ↔ ((RingFormat.ofCode (fieldOf a 27 2)).isSome = true ∧
    (ParcelClass.ofCode (fieldOf a 25 2)).isSome = true ∧ 1 ≤ fieldOf b 16 16 ∧ fieldOf b 16 16 ≤ 2048 ∧
    1 ≤ fieldOf b 0 16 ∧ fieldOf b 0 16 ≤ 2048) ∧ (offersOf rest).isSome = true
  rw [offersOf]
  cases RingFormat.ofCode (fieldOf a 27 2) with
  | none => simp
  | some f =>
    cases ParcelClass.ofCode (fieldOf a 25 2) with
    | none => simp
    | some c => cases offersOf rest <;> simp [and_assoc]

/-- The offer of the first item carries its index field. -/
theorem offersOf_cons_index {a b : Word} {rest : List Word} {os : List Offer} (h : offersOf (a :: b :: rest) = some os) :
    ∃ o os', os = o :: os' ∧ o.index = a.extractLsb' 29 3 ∧ offersOf rest = some os' := by
  rw [offersOf] at h
  split at h
  · split_ifs at h
    cases h
    exact ⟨_, _, rfl, rfl, ‹_›⟩
  · cases h

/-- Item words are well formed when they come in pairs and each pair is a census item (R68). -/
theorem offersOf_isSome_iff : ∀ items : List Word, (offersOf items).isSome = true ↔
    items.length % 2 = 0 ∧ ∀ j x y, items[2 * j]? = some x → items[2 * j + 1]? = some y → ItemFormed x y
  | [] => by simp [offersOf]
  | [_] => by simp [offersOf]
  | a :: b :: rest => by
    have hlen : (a :: b :: rest).length % 2 = rest.length % 2 := Nat.add_mod_right rest.length 2
    rw [offersOf_cons_isSome, offersOf_isSome_iff rest, hlen]
    constructor
    · rintro ⟨hab, hpairs, hrest⟩
      refine ⟨hpairs, fun j x y hx hy => ?_⟩
      cases j with
      | zero => cases hx; cases hy; exact hab
      | succ j => exact hrest j x y hx hy
    · rintro ⟨hpairs, hall⟩
      exact ⟨hall 0 a b rfl rfl, hpairs, fun j x y hx hy => hall (j + 1) x y hx hy⟩

/-- The offers stand one an item, in order, each with its item's index. -/
theorem offersOf_index : ∀ {items : List Word} {os : List Offer}, offersOf items = some os →
    items.length = 2 * os.length ∧ ∀ j, (os.map Offer.index)[j]? = (items[2 * j]?).map (fun x => x.extractLsb' 29 3)
  | [], os, h => by cases h; simp
  | [_], os, h => by cases h
  | a :: b :: rest, os, h => by
    obtain ⟨o, os', rfl, hindex, hrest⟩ := offersOf_cons_index h
    obtain ⟨hlen, hall⟩ := offersOf_index hrest
    refine ⟨by simp only [List.length_cons, hlen]; omega, fun j => ?_⟩
    cases j with
    | zero => exact congrArg some hindex
    | succ j => exact hall j

/-- No index appears twice among the offers exactly when none does among the item words (R68). -/
theorem offersOf_nodup_iff {items : List Word} {os : List Offer} (h : offersOf items = some os) :
    (os.map Offer.index).Nodup ↔ ∀ i j x y, i < j → j < os.length → items[2 * i]? = some x → items[2 * j]? = some y →
      x.extractLsb' 29 3 ≠ y.extractLsb' 29 3 := by
  obtain ⟨hlen, hindex⟩ := offersOf_index h
  rw [List.nodup_iff_getElem?_ne_getElem?, List.length_map]
  constructor
  · intro hne i j x y hij hj hx hy heq
    refine hne i j hij hj ?_
    rw [hindex, hindex, hx, hy, Option.map_some, Option.map_some, heq]
  · intro hne i j hij hj heq
    have hx : items[2 * i]? = some items[2 * i] := List.getElem?_eq_getElem (by omega)
    have hy : items[2 * j]? = some items[2 * j] := List.getElem?_eq_getElem (by omega)
    rw [hindex, hindex, hx, hy] at heq
    exact hne i j _ _ hij hj hx hy (Option.some.inj heq)

/-! ### The payload -/

/-- A payload of two words and items: only the count, the items and their indices can be wrong. -/
theorem censusOf_isSome_iff (a b : Word) (items : List Word) : (censusOf (a :: b :: items)).isSome = true ↔
    ∃ os, offersOf items = some os ∧ fieldOf b 0 4 ≤ 8 ∧ items.length = 2 * fieldOf b 0 4 ∧ (os.map Offer.index).Nodup := by
  obtain ⟨st, hst⟩ := NodeState.ofCensusCode_total (a.extractLsb' 14 2)
  have hcode : NodeState.ofCensusCode (fieldOf a 14 2) = some st := hst
  rw [censusOf, hcode]
  cases offersOf items <;> simp [and_assoc]

/-- R68 for the items of a payload whose count is n. -/
theorem offersOf_formed_iff (items : List Word) (n : Nat) :
    (∃ os, offersOf items = some os ∧ n ≤ 8 ∧ items.length = 2 * n ∧ (os.map Offer.index).Nodup) ↔
    n ≤ 8 ∧ items.length = 2 * n ∧
      (∀ i j x y, i < j → j < n → items[2 * i]? = some x → items[2 * j]? = some y →
        x.extractLsb' 29 3 ≠ y.extractLsb' 29 3) ∧
      ∀ j x y, j < n → items[2 * j]? = some x → items[2 * j + 1]? = some y → ItemFormed x y := by
  constructor
  · rintro ⟨os, hos, hn, hlen, hnodup⟩
    have hcount : os.length = n := by have := (offersOf_index hos).1; omega
    exact ⟨hn, hlen, hcount ▸ (offersOf_nodup_iff hos).mp hnodup,
      fun j x y _ => ((offersOf_isSome_iff items).mp (by rw [hos]; rfl)).2 j x y⟩
  · rintro ⟨hn, hlen, hne, hall⟩
    have hsome : (offersOf items).isSome = true := by
      refine (offersOf_isSome_iff items).mpr ⟨by omega, fun j x y hx hy => hall j x y ?_ hx hy⟩
      have hj := (List.getElem?_eq_some_iff.mp hx).1
      omega
    obtain ⟨os, hos⟩ := Option.isSome_iff_exists.mp hsome
    have hcount : os.length = n := by have := (offersOf_index hos).1; omega
    exact ⟨os, hos, hn, hlen, (offersOf_nodup_iff hos).mpr (hcount ▸ hne)⟩

/-! ### Encoding and decoding -/

/-- The fields of an item's first word. -/
theorem itemWord0_fields (i : BitVec 3) (f c : BitVec 2) (d : Bool) :
    (i ++ f ++ c ++ BitVec.ofBool d ++ 0#24 : Word).extractLsb' 29 3 = i ∧
      (i ++ f ++ c ++ BitVec.ofBool d ++ 0#24 : Word).extractLsb' 27 2 = f ∧
      (i ++ f ++ c ++ BitVec.ofBool d ++ 0#24 : Word).extractLsb' 25 2 = c ∧
      (i ++ f ++ c ++ BitVec.ofBool d ++ 0#24 : Word).getLsbD 24 = d := by
  refine ⟨?_, ?_, ?_, BitVec.getLsbD_append.trans (BitVec.getLsbD_append.trans (by simp))⟩
  all_goals repeat rw [BitVec.extractLsb'_append_eq_of_le (by decide)]
  exacts [BitVec.extractLsb'_eq_self, BitVec.extractLsb'_append_eq_right, BitVec.extractLsb'_append_eq_right]

/-- The two fields of a size word. -/
theorem sizeWord_fields (w h : Half) :
    (w ++ h : Word).extractLsb' 16 16 = w ∧ (w ++ h : Word).extractLsb' 0 16 = h :=
  ⟨BitVec.extractLsb'_append_eq_left, BitVec.extractLsb'_append_eq_right⟩

/-- The fields of a payload's first word. -/
theorem censusWord0_fields (n : Half) (st : BitVec 2) :
    (n ++ st ++ 0#14 : Word).extractLsb' 16 16 = n ∧ (n ++ st ++ 0#14 : Word).extractLsb' 14 2 = st := by
  constructor
  all_goals repeat rw [BitVec.extractLsb'_append_eq_of_le (by decide)]
  exacts [BitVec.extractLsb'_eq_self, BitVec.extractLsb'_append_eq_right]

/-- The fields of a payload's second word. -/
theorem censusWord1_fields (d : Bool) (n : BitVec 4) :
    (BitVec.ofBool d ++ 0#27 ++ n : Word).getLsbD 31 = d ∧ (BitVec.ofBool d ++ 0#27 ++ n : Word).extractLsb' 0 4 = n :=
  ⟨BitVec.getLsbD_append.trans (BitVec.getLsbD_append.trans (by simp)), BitVec.extractLsb'_append_eq_right⟩

/-- One offer encoded and decoded (12.2). -/
theorem offersOf_words (o : Offer) (hw : 1 ≤ o.width ∧ o.width ≤ 2048) (hh : 1 ≤ o.height ∧ o.height ≤ 2048)
    (rest : List Word) : offersOf (o.words ++ rest) = (offersOf rest).map (o :: ·) := by
  have hwidth : (BitVec.ofNat 16 o.width).toNat = o.width := Nat.mod_eq_of_lt (by omega)
  have hheight : (BitVec.ofNat 16 o.height).toNat = o.height := Nat.mod_eq_of_lt (by omega)
  obtain ⟨hindex, hfmt, hcls, hsusp⟩ := itemWord0_fields o.index o.fmt.code o.cls.code o.suspended
  obtain ⟨hhigh, hlow⟩ := sizeWord_fields (BitVec.ofNat 16 o.width) (BitVec.ofNat 16 o.height)
  simp only [Offer.words, List.cons_append, List.nil_append, offersOf, fieldOf, hindex, hfmt, hcls, hsusp, hhigh, hlow, hwidth,
    hheight, RingFormat.ofCode_code, ParcelClass.ofCode_code]
  cases offersOf rest <;> simp [hw, hh]

theorem offersOf_flatMap_words (os : List Offer)
    (h : ∀ o ∈ os, 1 ≤ o.width ∧ o.width ≤ 2048 ∧ 1 ≤ o.height ∧ o.height ≤ 2048) :
    offersOf (os.flatMap Offer.words) = some os := by
  induction os with
  | nil => rfl
  | cons o os ih =>
    obtain ⟨hw1, hw2, hh⟩ := h o List.mem_cons_self
    rw [List.flatMap_cons, offersOf_words o ⟨hw1, hw2⟩ hh, ih (fun o ho => h o (List.mem_cons_of_mem _ ho)), Option.map_some]

/-- The payload of a content that R68 calls well formed gives that content again (12.2). -/
theorem censusOf_censusWords (c : CensusContent) (hst : c.state ≠ .loading) (hcount : c.offers.length ≤ 8)
    (hindex : (c.offers.map Offer.index).Nodup)
    (hsize : ∀ o ∈ c.offers, 1 ≤ o.width ∧ o.width ≤ 2048 ∧ 1 ≤ o.height ∧ o.height ≤ 2048) :
    censusOf (censusWords c.nonce c.state c.demand c.offers) = some c := by
  have hoffers := offersOf_flatMap_words c.offers hsize
  have hlen := (offersOf_index hoffers).1
  have hfit : (BitVec.ofNat 4 c.offers.length).toNat = c.offers.length := Nat.mod_eq_of_lt (by omega)
  obtain ⟨hnonce, hstate⟩ := censusWord0_fields c.nonce (BitVec.ofNat 2 c.state.code)
  obtain ⟨hdemand, hn⟩ := censusWord1_fields c.demand (BitVec.ofNat 4 c.offers.length)
  simp only [censusWords, censusOf, fieldOf, hnonce, hstate, hdemand, hn, hfit, NodeState.ofCensusCode_code hst, hoffers, hlen]
  simp [hcount, hindex]

/-- Settles O26: the well-formed payloads, and the encoding and decoding of every content. -/
theorem censusRoundTrip : Obligations.CensusRoundTrip := by
  refine ⟨fun ws => ?_, censusOf_censusWords⟩
  match ws with
  | [] => simp [censusOf]
  | [_] => simp [censusOf]
  | a :: b :: items =>
    rw [censusOf_isSome_iff, offersOf_formed_iff]
    constructor
    · exact fun h => ⟨a, b, items, rfl, h⟩
    · rintro ⟨_, _, _, heq, h⟩
      cases heq
      exact h

end Sys2Proof.Machine
end

section
/-! PROOFS. The debounced REVERSE level, the entry that is taken before an engage, and the deadline of a camera switch (R54,
R151, R152, R156, R160). -/

namespace Sys2Proof.Machine

/-! ### The camera-mode ports -/

theorem OutPort.hasCamera_iff (o : OutPort) : o.hasCamera = true ↔ o.cfg.camMode ≠ .none := by
  simp [OutPort.hasCamera]

theorem State.hasCamera_iff (s : State) : s.hasCamera = true ↔ ∃ p o, s.port p = .output o ∧ o.cfg.camMode ≠ .none := by
  rw [State.hasCamera, State.outAnd_or_iff]
  simp only [OutPort.hasCamera_iff]

/-- A station whose output ports keep their configurations keeps its camera-mode ports. -/
theorem State.hasCamera_of_cfg {s t : State} (h : s.hasCamera = true)
    (hcfg : ∀ p o, s.port p = .output o → ∃ o', t.port p = .output o' ∧ o'.cfg = o.cfg) : t.hasCamera = true := by
  rw [State.hasCamera_iff] at h ⊢
  obtain ⟨p, o, hp, hmode⟩ := h
  obtain ⟨o', hp', hsame⟩ := hcfg p o hp
  exact ⟨p, o', hp', by rwa [hsame]⟩

/-- The node's part of an entry leaves the output ports. -/
theorem State.enterState_port_out {s : State} {p : PortId} {o : OutPort} (st : NodeState) (hp : s.port p = .output o) :
    (s.enterState st).port p = .output o := by
  have hpurged : ({ s with node := { s.node with state := st, waiting := none } } : State).purgePictures.port p = .output o := by
    cases p <;> simpa [State.port] using hp
  rw [State.enterState, State.settleStreams_port_out _ _ (by simp [hpurged]), hpurged]

theorem State.enterMute_port_out {s : State} {p : PortId} {o : OutPort} (hp : s.port p = .output o) :
    s.enterMute.port p = .output o := by
  unfold State.enterMute
  split_ifs
  · exact State.enterState_port_out .mute hp
  · exact hp

/-- An entry to STANDBY leaves the configuration of the output ports. -/
theorem State.enterStandby_port_cfg {s : State} {p : PortId} {o : OutPort} (hp : s.port p = .output o) :
    ∃ o', s.enterStandby.port p = .output o' ∧ o'.cfg = o.cfg := by
  have hentered := State.enterState_port_out .standby hp
  unfold State.enterStandby
  split_ifs
  · generalize s.enterState .standby = s1 at hentered
    have hport := (State.port_link s1 { s1.link with stage := s1.link.stage.dropCopies } p).trans hentered
    have hcfg := o.settle_settles.cfg
    refine ⟨_, State.onOuts_port _ p o _ hport, ?_⟩
    rw [OutPort.dueFirst_fst]
    generalize o.settle.1 = o1 at hcfg ⊢
    exact hcfg
  · exact ⟨o, hp, rfl⟩

/-- The entry that is taken leaves the configuration of the output ports. -/
theorem State.takeEntry_port_cfg {s : State} {p : PortId} {o : OutPort} (hp : s.port p = .output o) :
    ∃ o', s.takeEntry.port p = .output o' ∧ o'.cfg = o.cfg :=
  State.enterStandby_port_cfg (State.enterMute_port_out hp)

/-! ### The entry to a state does not read Camera Priority's sources -/

theorem State.setPort_withCamera (s : State) (c : CameraControl) (p : PortId) (q : Port) :
    ({ s with camera := c } : State).setPort p q = { s.setPort p q with camera := c } := by
  cases p <;> rfl

theorem State.purge_withCamera (s : State) (c : CameraControl) (kill : PicEntry → Bool) :
    ({ s with camera := c } : State).purge kill = { s.purge kill with camera := c } := by
  rw [State.purge_eq, State.purge_eq]; rfl

theorem purgeStreams_withCamera (c : CameraControl) (p : PortId) (is : List Nat) (s : State) :
    is.foldl (fun s i => s.purgeStream (streamIndex p i)) { s with camera := c } =
      { is.foldl (fun s i => s.purgeStream (streamIndex p i)) s with camera := c } := by
  induction is generalizing s with
  | nil => rfl
  | cons i is ih => rw [List.foldl_cons, List.foldl_cons, State.purgeStream, State.purge_withCamera, ih]; rfl

theorem State.settlePort_withCamera (s : State) (c : CameraControl) (p : PortId) :
    ({ s with camera := c } : State).settlePort p = { s.settlePort p with camera := c } := by
  unfold State.settlePort
  rw [State.port_camera]
  cases s.port p with
  | input q => dsimp only; rw [State.setPort_withCamera, purgeStreams_withCamera]
  | output o => rfl
  | unused k => rfl

theorem State.onOut_withCamera (s : State) (c : CameraControl) (p : PortId) (f : OutPort → OutPort × Half) :
    ({ s with camera := c } : State).onOut p f = { s.onOut p f with camera := c } := by
  unfold State.onOut
  rw [State.port_camera]
  cases s.port p with
  | input q => rfl
  | output o => dsimp only; rw [State.setPort_withCamera]; rfl
  | unused k => rfl

theorem State.enterState_withCamera (s : State) (c : CameraControl) (st : NodeState) :
    ({ s with camera := c } : State).enterState st = { s.enterState st with camera := c } := by
  have hpurge := State.purge_withCamera { s with node := { s.node with state := st, waiting := none } } c (fun _ => true)
  unfold State.enterState State.settleStreams State.purgePictures
  rw [← State.settlePort_withCamera, ← State.settlePort_withCamera, ← hpurge]

theorem State.enterMute_withCamera (s : State) (c : CameraControl) :
    ({ s with camera := c } : State).enterMute = { s.enterMute with camera := c } := by
  have hdue : ({ s with camera := c } : State).entryDue .mute = s.entryDue .mute := rfl
  unfold State.enterMute
  rw [hdue, State.enterState_withCamera]
  split_ifs <;> rfl

theorem State.enterStandby_withCamera (s : State) (c : CameraControl) :
    ({ s with camera := c } : State).enterStandby = { s.enterStandby with camera := c } := by
  have hdue : ({ s with camera := c } : State).entryDue .standby = s.entryDue .standby := rfl
  unfold State.enterStandby State.onOuts
  rw [hdue, State.enterState_withCamera]
  dsimp only
  split_ifs
  · rw [← State.onOut_withCamera, ← State.onOut_withCamera]
  · rfl

theorem State.takeEntry_withCamera (s : State) (c : CameraControl) :
    ({ s with camera := c } : State).takeEntry = { s.takeEntry with camera := c } := by
  rw [State.takeEntry, State.enterMute_withCamera, State.enterStandby_withCamera]; rfl

/-! ### The entry that is taken before an engage -/

/-- Once an entry has been taken none is due. -/
theorem State.takeEntry_takeEntry {s : State} (h : s.takeEntry.node.waiting = none) : s.takeEntry.takeEntry = s.takeEntry :=
  State.takeEntry_none _ (State.entryDue_false (.inr (.inl h)))

/-- An engage takes the entry first, so one that finds it taken does the same (R54, log 2). -/
theorem State.engage_takeEntry {s : State} (hcam : s.hasCamera = true) (h : s.takeEntry.node.waiting = none) :
    s.takeEntry.engage = s.engage := by
  have hcam' : s.takeEntry.hasCamera = true := State.hasCamera_of_cfg hcam (fun _ _ => State.takeEntry_port_cfg)
  rw [State.engage, State.engage, if_pos hcam, if_pos hcam', State.takeEntry_takeEntry h]

/-- Camera Priority's sources once the debounced level has changed (R151). -/
def CameraControl.changed (c : CameraControl) : CameraControl := { c with debounced := !c.debounced, stability := 0 }

/-- A change of the debounced level that is due (R151). -/
theorem State.reverseDebounced_due {s : State} (hfull : s.node.state.full = true) (hstable : 10000 ≤ s.camera.stability) :
    s.reverseDebounced = s.setSources s.camera.changed := by
  have hdue : s.reverseDue = true := by simp [State.reverseDue, hfull, Config.debounceTicks, hstable]
  exact if_pos hdue

/-- The debounced level rises at a station that was not engaged: an engage event (R151, R152). -/
theorem State.reverseDebounced_engage {s : State} (hfull : s.node.state.full = true) (hstable : 10000 ≤ s.camera.stability)
    (hoff : s.camera.engaged = false) : s.reverseDebounced = ({ s with camera := s.camera.changed } : State).engage := by
  have hon : s.camera.changed.engaged = true := by
    simp only [CameraControl.engaged, Bool.or_eq_false_iff] at hoff
    obtain ⟨⟨hlevel, -⟩, -⟩ := hoff
    simp [CameraControl.engaged, CameraControl.changed, hlevel]
  rw [State.reverseDebounced_due hfull hstable, State.setSources, hoff, hon]
  rfl

theorem RingPort.sendingPicture_eq_false {l : RingPort} (h : ∀ p, l.tx = .sending p → p.kind ≠ .line ∧ p.kind ≠ .mark) :
    l.sendingPicture = false := by
  rw [Bool.eq_false_iff, Ne, RingPort.sendingPicture_iff]
  rintro ⟨p, hp, hkind⟩
  obtain ⟨hline, hmark⟩ := h p hp
  exact hkind.elim hline hmark

/-- A waiting entry that no own picture parcel holds back is taken by its own command (R54). -/
theorem State.taken_of_exec {s v : State} (hrun : s.running) (hstate : s.node.state = .run)
    (hsend : s.link.sendingPicture = false)
    (h : (s.node.waiting = some .mute ∧ exec .enterMute s = .next v) ∨
      (s.node.waiting = some .standby ∧ exec .enterStandby s = .next v)) :
    v = s.takeEntry ∧ v.node.waiting = none ∧ v.node.state.full = true ∧ v.running := by
  rcases h with ⟨hw, hv⟩ | ⟨hw, hv⟩
  · have hmute : s.enterMute = v := Host.Outcome.next.inj ((live_running State.enterMute s hrun).symm.trans hv)
    have hentered : s.enterMute = s.enterState .mute := if_pos (State.entryDue_eq_true hw hstate hsend)
    rw [← hmute, hentered, State.takeEntry_mute hw hstate hsend, State.running, State.enterState_node]
    exact ⟨rfl, rfl, rfl, hrun⟩
  · have hstandby : s.enterStandby = v := Host.Outcome.next.inj ((live_running State.enterStandby s hrun).symm.trans hv)
    have hmute : s.enterMute = s := if_neg (by simp [State.entryDue, hw])
    have htaken : s.takeEntry = v := by rw [State.takeEntry, hmute, hstandby]
    have hnode := State.takeEntry_standby_node hw hstate hsend
    rw [htaken] at hnode
    rw [State.running, hnode]
    exact ⟨htaken.symm, rfl, rfl, hrun⟩

theorem exec_reverseDebounced {s : State} (hrun : s.running) : exec .reverseDebounced s = .next s.reverseDebounced :=
  live_running State.reverseDebounced s hrun

/-- An entry whose end symbol has come is taken before the engage, so it makes no difference whether its command came (log 2). -/
theorem exec_reverseDebounced_taken {s v : State} (hrun : s.running) (hstate : s.node.state = .run)
    (hstable : 10000 ≤ s.camera.stability) (hcam : s.hasCamera = true) (hoff : s.camera.engaged = false)
    (hsend : s.link.sendingPicture = false)
    (h : (s.node.waiting = some .mute ∧ exec .enterMute s = .next v) ∨
      (s.node.waiting = some .standby ∧ exec .enterStandby s = .next v)) :
    exec .reverseDebounced s = exec .reverseDebounced v := by
  obtain ⟨rfl, hwaiting, hfull, hrun'⟩ := State.taken_of_exec hrun hstate hsend h
  have hcamera : s.takeEntry.camera = s.camera := s.takeEntry_camera
  have hcam' : ({ s with camera := s.camera.changed } : State).hasCamera = true := hcam
  rw [exec_reverseDebounced hrun, exec_reverseDebounced hrun',
    State.reverseDebounced_engage (by rw [hstate]; rfl) hstable hoff,
    State.reverseDebounced_engage hfull (by rwa [hcamera]) (by rwa [hcamera]), hcamera, ← State.takeEntry_withCamera,
    State.engage_takeEntry hcam' (by rw [State.takeEntry_withCamera]; exact hwaiting)]

/-! ### The deadline -/

/-- CAMERA_LATE raised asserts FAULT, and ATN whatever the image enables (R160, R172). -/
theorem State.raise_cameraLate_pins (s : State) :
    (s.raise Cause.cameraLate.bit).fault = true ∧ (s.raise Cause.cameraLate.bit).atn = true := by
  have hatn : (s.att.pending ||| Cause.cameraLate.bit) &&& (s.att.enable ||| Cause.cameraLate.bit) ≠ 0 := fun hz => by
    have hbit := congrArg (fun x : Half => x.getLsbD 0) hz
    simp [Cause.bit, Cause.code] at hbit
  exact ⟨State.isPending_raise_isIn (Cause.isIn_bit _), by simpa [State.atn, AttentionSet.enabled] using hatn⟩

/-- The deadline of a port in SWITCHING passes (R156, R160). -/
theorem exec_cameraDeadlineExpiry {s : State} {p : PortId} {o : OutPort} {d : Word} (hrun : s.running)
    (hp : s.port p = .output o) (hmode : o.cfg.camMode ≠ .none) (hstate : o.cam.state = .switching)
    (hd : o.cam.deadline = some d) (hpassed : laterTime d s.tick = false) : exec (.cameraDeadlineExpiry p) s =
      .next ((s.setPort p (.output { o with cam := { o.cam with state := .late } })).raise Cause.cameraLate.bit) := by
  have hdue : o.deadlineDue s.tick = true := by
    simp [OutPort.deadlineDue, (OutPort.hasCamera_iff o).mpr hmode, hstate, CameraPort.passed, hd, hpassed]
  have hexpiry : o.deadlineExpiry s.tick = ({ o with cam := { o.cam with state := .late } }, Cause.cameraLate.bit) := if_pos hdue
  have hexec : exec (.cameraDeadlineExpiry p) s = .next (s.onOut p (OutPort.deadlineExpiry s.tick)) :=
    live_running (fun s => s.onOut p (OutPort.deadlineExpiry s.tick)) s hrun
  rw [hexec, s.onOut_output p o _ hp, hexpiry]

/-- Settles O42: the debounced level, the entry taken before an engage, the camera-mode ports and the deadline. -/
theorem reverseEngages : Obligations.ReverseEngages := by
  refine ⟨fun s hrun hstate hstable => ?_, fun s v hrun hstate hstable hcam hoff hsend => ?_, fun _ => rfl, State.hasCamera_iff,
    fun s p o d hrun hp hmode hstate hd hpassed => ?_⟩
  · have hfull : s.node.state.full = true := by rcases hstate with h | h | h <;> rw [h] <;> rfl
    exact ⟨_, exec_reverseDebounced hrun, State.reverseDebounced_due hfull hstable ▸ s.setSources_moves _⟩
  · exact exec_reverseDebounced_taken hrun hstate hstable hcam hoff (RingPort.sendingPicture_eq_false hsend)
  · obtain ⟨hfault, hatn⟩ := (s.setPort p (.output { o with cam := { o.cam with state := .late } })).raise_cameraLate_pins
    exact ⟨_, exec_cameraDeadlineExpiry hrun hp hmode hstate hd hpassed, by cases p <;> rfl, hfault, hatn⟩

end Sys2Proof.Machine
end

section
/-! PROOFS. The expiry of a station's entry, and the loss of source it brings to the records on its streams, what was due on their
ports being taken first (R70, R71, R107, R109, R119, R127, R156, R160). -/

namespace Sys2Proof.Machine

/-! ### The loss of a record's source at an output port -/

/-- What the loss of one record's source leaves of the port (R109, R119, R156). -/
theorem OutPort.loseSource_frame (role : Role) (o : OutPort) :
    let r := (o.loseSource role).1
    r.cfg = o.cfg ∧ r.pres = o.pres ∧ (∀ role', role' ≠ role → r.sink role' = o.sink role') ∧
      (role = .overlay → r.lock = o.lock) ∧ (o.showsBy role = false → r.cam = o.cam) := by
  intro r
  have hr : r = { o.mapSink role Sink.lose with
      lock := if role = .main then o.lock.onLoss else o.lock
      cam := if o.showsBy role = true then { o.cam with state := .late } else o.cam } :=
    congrArg Prod.fst (OutPort.loseSource_eq role o)
  refine ⟨by rw [hr]; simp, by rw [hr]; simp, fun role' hne => ?_, fun h => ?_, fun h => ?_⟩
  · rw [← OutPort.mapSink_sink_ne o Sink.lose hne, hr]; cases role' <;> rfl
  · rw [hr, h]; rfl
  · rw [hr, h]; rfl

/-- What the loss of a record's source does through that record (R109, R119, R156). -/
theorem OutPort.loseSource_own {role : Role} {o : OutPort} {k : Sink} (hk : o.sink role = some k) :
    let r := o.loseSource role
    r.1.sink role = some k.lose ∧ (role = .main → r.1.lock = o.lock.onLoss) ∧ Cause.sourceLost.isIn r.2 ∧
      (o.showsBy role = true → r.1.cam = { o.cam with state := .late } ∧ Cause.cameraLate.isIn r.2) := by
  intro r
  have hr := OutPort.loseSource_eq role o
  have hsink : (o.mapSink role Sink.lose).sink role = some k.lose := by rw [OutPort.mapSink_sink, hk]; rfl
  refine ⟨?_, fun h => ?_, ?_, fun h => ⟨?_, ?_⟩⟩ <;> simp only [r, hr]
  · rw [← hsink]; cases role <;> rfl
  · rw [if_pos h]
  · exact Cause.isIn_or_right (Cause.isIn_bit _)
  · rw [if_pos h]
  · rw [h]; exact Cause.isIn_or_left (Cause.isIn_bit _)

/-! ### What was due on the port (log 2) -/

@[simp] theorem OutPort.holdoverEnd_sink (o : OutPort) (role : Role) : o.holdoverEnd.1.sink role = o.sink role := by
  unfold OutPort.holdoverEnd; split_ifs <;> cases role <;> rfl

@[simp] theorem OutPort.holdGiveUp_sink (o : OutPort) (role : Role) : o.holdGiveUp.1.sink role = o.sink role := by
  unfold OutPort.holdGiveUp; split_ifs <;> cases role <;> rfl

@[simp] theorem OutPort.stretchEnd_sink (o : OutPort) (role : Role) : o.stretchEnd.1.sink role = o.sink role := by
  unfold OutPort.stretchEnd; split_ifs <;> cases role <;> rfl

/-- A silence that is due takes the record's source (R108). -/
theorem OutPort.silentLoss_of {role : Role} {o : OutPort} {k : Sink} (hk : o.sink role = some k) :
    o.silentLoss role = if k.silenceDue then o.loseSource role else (o, noCause) := by
  rw [OutPort.silentLoss, hk]

/-- The silence of one record leaves the other (R108). -/
theorem OutPort.silentLoss_sink_ne {role role' : Role} (o : OutPort) (h : role' ≠ role) :
    (o.silentLoss role).1.sink role' = o.sink role' := by
  obtain ⟨-, -, hother, -⟩ := o.loseSource_frame role
  unfold OutPort.silentLoss
  split
  · rfl
  · split_ifs
    · exact hother role' h
    · rfl

theorem OutPort.silentLoss_sink {role : Role} {o : OutPort} {k : Sink} (hk : o.sink role = some k) :
    (o.silentLoss role).1.sink role = some (if k.silenceDue then k.lose else k) := by
  rw [OutPort.silentLoss_of hk]
  split_ifs
  · exact (OutPort.loseSource_own hk).1
  · exact hk

/-- What was due on a port takes the source of a record by silence alone (R108). -/
theorem OutPort.settle_sink {role : Role} {o : OutPort} {k : Sink} (hk : o.sink role = some k) :
    o.settle.1.sink role = some (if k.silenceDue then k.lose else k) := by
  have hlosses : ((o.silentLoss .main).1.silentLoss .overlay).1.sink role = some (if k.silenceDue then k.lose else k) := by
    cases role with
    | main => rw [OutPort.silentLoss_sink_ne _ (by decide)]; exact OutPort.silentLoss_sink hk
    | overlay => exact OutPort.silentLoss_sink ((OutPort.silentLoss_sink_ne o (by decide)).trans hk)
  simpa [OutPort.settle] using hlosses

/-- A silence that was due is reported when it is taken (R109). -/
theorem OutPort.settle_sourceLost {role : Role} {o : OutPort} {k : Sink} (hk : o.sink role = some k)
    (hdue : k.silenceDue = true) : Cause.sourceLost.isIn o.settle.2 := by
  have hloss : ∀ {o : OutPort}, o.sink role = some k → Cause.sourceLost.isIn (o.silentLoss role).2 := fun hk => by
    rw [OutPort.silentLoss_of hk, if_pos hdue]
    obtain ⟨-, -, hlost, -⟩ := OutPort.loseSource_own hk
    exact hlost
  have hlosses : Cause.sourceLost.isIn ((o.silentLoss .main).2 ||| ((o.silentLoss .main).1.silentLoss .overlay).2) := by
    cases role with
    | main => exact Cause.isIn_or_left (hloss hk)
    | overlay => exact Cause.isIn_or_right (hloss ((OutPort.silentLoss_sink_ne o (by decide)).trans hk))
  exact Cause.isIn_or_left (Cause.isIn_or_left (Cause.isIn_or_left hlosses))

/-! ### A report that a station has no entry -/

theorem Sink.judgeNonce_none {t : List TableEntry} {x : StreamId} (h : tableNonce t x = none) (k : Sink) :
    k.judgeNonce t x = k := by
  have hsame : k.nonceChanged t x = false := by rw [Sink.nonceChanged, h]
  rw [Sink.judgeNonce, hsame, h]
  rfl

/-- The record of a role is PRESENT on a stream of the station. -/
def OutPort.presentFrom (role : Role) (st : StationNo) (o : OutPort) : Bool :=
  (o.sink role).any (fun k => k.source == .present && k.active.any (fun x => sourceOf x == st))

theorem OutPort.presentFrom_of {o : OutPort} {role : Role} {st : StationNo} {k : Sink} {x : StreamId}
    (hk : o.sink role = some k) (ha : k.active = some x) (hs : sourceOf x = st) :
    o.presentFrom role st = (k.source == .present) := by
  simp [OutPort.presentFrom, hk, ha, hs]

section Removed

variable {t : List TableEntry} {st : StationNo} (he : entryFor t st = none)
include he

/-- A record on a stream that has no entry judges no nonce and finds the stream not shown (R107). -/
theorem OutPort.judgeSource_removed {role : Role} {o : OutPort} {k : Sink} {x : StreamId} (hk : o.sink role = some k)
    (ha : k.active = some x) (hs : sourceOf x = st) :
    (o.mapSink role (Sink.judgeNonce t x)).judgeSource t role =
      if k.source = .present then o.loseSource role else (o, noCause) := by
  have hnonce : k.judgeNonce t x = k := Sink.judgeNonce_none (by rw [tableNonce, hs, he]; rfl) k
  have hshown : k.shown t = false := by rw [Sink.shown, ha]; simp [showsPresent, hs, he]
  rw [OutPort.mapSink_const o role k _ hk, hnonce, o.mapSink_self role k hk, OutPort.judgeSource, hk]
  dsimp only
  cases hsrc : k.source with
  | absent =>
    have hsame : ({ k with source := if k.shown t then .present else .absent } : Sink) = k := by
      rw [hshown, if_neg (by decide), ← hsrc]
    dsimp only
    rw [OutPort.mapSink_const o role k _ hk, hsame, o.mapSink_self role k hk]
    rfl
  | present => simp [hshown]
  | lost => rfl

/-- A report on a station without an entry takes the source of a PRESENT record on one of its streams, and does nothing else
(R107, R109). -/
theorem OutPort.tableReport1_removed (role : Role) (o : OutPort) : o.tableReport1 t st role =
    if o.presentFrom role st = true then o.loseSource role else (o, noCause) := by
  cases hk : o.sink role with
  | none => simp [OutPort.tableReport1, OutPort.watches, OutPort.presentFrom, hk]
  | some k =>
    cases ha : k.active with
    | none => simp [OutPort.tableReport1, OutPort.watches, OutPort.presentFrom, hk, ha]
    | some x =>
      by_cases hs : sourceOf x = st
      · have hwatch : o.watches role st = some x := by simp [OutPort.watches, hk, ha, hs]
        rw [OutPort.tableReport1, hwatch, OutPort.presentFrom_of hk ha hs]
        simpa using OutPort.judgeSource_removed he hk ha hs
      · simp [OutPort.tableReport1, OutPort.watches, OutPort.presentFrom, hk, ha, hs]

/-- What a report through the record of one role leaves of the port. -/
theorem OutPort.tableReport1_removed_frame (role : Role) (o : OutPort) :
    let r := (o.tableReport1 t st role).1
    r.cfg = o.cfg ∧ r.pres = o.pres ∧ (∀ role', role' ≠ role → r.sink role' = o.sink role') ∧
      (role = .overlay → r.lock = o.lock) ∧ (o.showsBy role = false → r.cam = o.cam) := by
  rw [OutPort.tableReport1_removed he]
  split_ifs
  · exact o.loseSource_frame role
  · exact ⟨rfl, rfl, fun _ _ => rfl, fun _ => rfl, fun _ => rfl⟩

/-- A report that a station's entry is gone, seen from a PRESENT record on one of its streams (R107, R109, R119, R156). -/
theorem OutPort.tableReport_present {role : Role} {o : OutPort} {k : Sink} {x : StreamId} (hk : o.sink role = some k)
    (ha : k.active = some x) (hs : sourceOf x = st) (hp : k.source = .present) :
    let r := o.tableReport t st
    r.1.sink role = some k.lose ∧ r.1.pres = o.pres ∧ (role = .main → r.1.lock = o.lock.onLoss) ∧
      Cause.sourceLost.isIn r.2 ∧
      (o.showsBy role = true → r.1.cam = { o.cam with state := .late } ∧ Cause.cameraLate.isIn r.2) := by
  have hloss : ∀ {o : OutPort}, o.sink role = some k → o.tableReport1 t st role = o.loseSource role := fun hk => by
    rw [OutPort.tableReport1_removed he, OutPort.presentFrom_of hk ha hs, if_pos (by rw [hp]; rfl)]
  obtain ⟨hcfg, hpres, hother, -, hcam⟩ := OutPort.tableReport1_removed_frame he .main o
  obtain ⟨-, hpres', hother', hlock', hcam'⟩ :=
    OutPort.tableReport1_removed_frame he .overlay (o.tableReport1 t st .main).1
  intro r
  cases role with
  | main =>
    have hown := OutPort.loseSource_own hk
    rw [← hloss hk] at hown
    obtain ⟨hsink, hlock, hlost, hlate⟩ := hown
    refine ⟨(hother' .main (by decide)).trans hsink, hpres'.trans hpres, fun _ => (hlock' rfl).trans (hlock rfl),
      Cause.isIn_or_left hlost, fun hshows => ?_⟩
    obtain ⟨hcamera, hcause⟩ := hlate hshows
    have hgone : (o.tableReport1 t st .main).1.showsBy .overlay = false := by rw [OutPort.showsBy, hcamera]; rfl
    exact ⟨(hcam' hgone).trans hcamera, Cause.isIn_or_left hcause⟩
  | overlay =>
    have hk' := (hother .overlay (by decide)).trans hk
    have hown := OutPort.loseSource_own hk'
    rw [← hloss hk'] at hown
    obtain ⟨hsink, -, hlost, hlate⟩ := hown
    refine ⟨hsink, hpres'.trans hpres, nofun, Cause.isIn_or_right hlost, fun hshows => ?_⟩
    have hkept := hcam (OutPort.showsBy_other hshows (by decide))
    obtain ⟨hcamera, hcause⟩ := hlate ((OutPort.showsBy_overlay_congr hkept hcfg).trans hshows)
    exact ⟨hcamera.trans (by rw [hkept]), Cause.isIn_or_right hcause⟩

/-- A record that has lost its source stays as it is (R107). -/
theorem OutPort.tableReport_lost {role : Role} {o : OutPort} {k : Sink} {x : StreamId} (hk : o.sink role = some k)
    (ha : k.active = some x) (hs : sourceOf x = st) (hl : k.source = .lost) :
    (o.tableReport t st).1.sink role = some k := by
  have hstays : ∀ {o : OutPort}, o.sink role = some k → (o.tableReport1 t st role).1.sink role = some k := fun hk => by
    rw [OutPort.tableReport1_removed he, OutPort.presentFrom_of hk ha hs, if_neg (by rw [hl]; decide)]
    exact hk
  obtain ⟨-, -, hother, -⟩ := OutPort.tableReport1_removed_frame he .main o
  obtain ⟨-, -, hother', -⟩ := OutPort.tableReport1_removed_frame he .overlay (o.tableReport1 t st .main).1
  cases role with
  | main => exact (hother' .main (by decide)).trans (hstays hk)
  | overlay => exact hstays ((hother .overlay (by decide)).trans hk)

/-- Whatever was due on the port, a PRESENT record on a stream of the station ends without its source: by a silence that is
taken first, or by the report (R108, R109, log 2). -/
theorem OutPort.dueFirst_removed {role : Role} {o : OutPort} {k : Sink} {x : StreamId} (hk : o.sink role = some k)
    (ha : k.active = some x) (hs : sourceOf x = st) (hp : k.source = .present) :
    let r := o.dueFirst (OutPort.tableReport t st)
    r.1.sink role = some k.lose ∧ Cause.sourceLost.isIn r.2 := by
  have hsettled := OutPort.settle_sink hk
  by_cases hdue : k.silenceDue = true
  · rw [if_pos hdue] at hsettled
    exact ⟨OutPort.tableReport_lost he hsettled ha hs rfl, Cause.isIn_or_left (OutPort.settle_sourceLost hk hdue)⟩
  · rw [if_neg hdue] at hsettled
    obtain ⟨hsink, -, -, hlost, -⟩ := OutPort.tableReport_present he hsettled ha hs hp
    exact ⟨hsink, Cause.isIn_or_right hlost⟩

end Removed

/-! ### A stretch at its limit (R127) -/

/-- The computation of TRACK leaves the lock state and the stretch (R124 to R126). -/
theorem FrameLock.compute_frame (c : OutCfg) (lead : Nat) (l : FrameLock) :
    (l.compute c lead).1.state = l.state ∧ (l.compute c lead).1.stretch = l.stretch := by
  obtain ⟨hstate, -, hstretch, -⟩ := FrameLock.judge_frame c (lockError c lead) (l.steer c lead)
  exact ⟨hstate, hstretch⟩

/-- A tracking lock with no stretch in progress, once its source is lost (R119). -/
theorem FrameLock.onLoss_track {l : FrameLock} (hstate : l.state = .track) (hstretch : l.stretch = none) : l.onLoss =
    { l with state := .holdover, locked := false, inWin := 0, outWin := 0, holdCount := 0 } := by
  rw [FrameLock.onLoss, hstate]
  simp [FrameLock.enterHoldover, hstretch]

/-- The silence of an OVERLAY record leaves MAIN, the Frame Lock and the Presenter (R108, R109). -/
theorem OutPort.silentLoss_overlay_frame (o : OutPort) :
    let r := (o.silentLoss .overlay).1
    r.main = o.main ∧ r.cfg = o.cfg ∧ r.lock = o.lock ∧ r.pres = o.pres := by
  have hmain : (o.silentLoss .overlay).1.main = o.main := Option.some.inj (o.silentLoss_sink_ne (role' := .main) (by decide))
  refine ⟨hmain, ?_⟩
  obtain ⟨hcfg, hpres, -, hlock, -⟩ := o.loseSource_frame .overlay
  cases hk : o.sink .overlay with
  | none => rw [OutPort.silentLoss, hk]; exact ⟨rfl, rfl, rfl⟩
  | some k =>
    rw [OutPort.silentLoss_of hk]
    split_ifs
    · exact ⟨hcfg, hlock rfl, hpres⟩
    · exact ⟨rfl, rfl, rfl⟩

/-- A stretch at its limit in TRACK ends when what was due is taken, with the computation at lead 0 (R127, log 2). -/
theorem OutPort.settle_limit {o : OutPort} {l : Stretch} (hl : o.lock.stretch = some l) (hlimit : l.limit = true)
    (hending : l.ending = false) (hstate : o.lock.state = .track) (hsilent : o.main.silenceDue = false) :
    let r := o.settle.1
    r.main = o.main ∧ r.lock = (FrameLock.compute o.cfg 0 { o.lock with stretch := none, linesAdded := l.added }).1 ∧
      r.pres = o.pres.toActive := by
  have hnone : o.silentLoss .main = (o, noCause) := by
    rw [OutPort.silentLoss_of (k := o.main) rfl, if_neg (by simp [hsilent])]
  obtain ⟨hmain, hcfg, hlock, hpres⟩ := o.silentLoss_overlay_frame
  rw [OutPort.settle, hnone]
  dsimp only
  generalize (o.silentLoss .overlay).1 = a at hmain hcfg hlock hpres ⊢
  have hend : a.holdoverEnd = (a, noCause) := if_neg (by simp [FrameLock.runOut, hlock, hstate])
  have hgive : a.holdGiveUp = (a, noCause) := if_neg (by simp [OutPort.limitReached, hlock, hl, hstate])
  have hreached : a.limitReached .track = true := by simp [OutPort.limitReached, hlock, hl, hlimit, hending, hstate]
  have hadded : a.addedLines = l.added := by rw [OutPort.addedLines, hlock, hl]
  rw [hend, hgive, OutPort.stretchEnd, if_pos hreached, hadded]
  refine ⟨hmain, ?_, ?_⟩
  · rw [← hlock, ← hcfg]; rfl
  · rw [← hpres]; rfl

/-- The report finds a tracking lock whose stretch has ended, and sends it to HOLDOVER (R119, R127). -/
theorem OutPort.dueFirst_removed_limit {t : List TableEntry} {st : StationNo} (he : entryFor t st = none) {o : OutPort}
    {x : StreamId} (ha : o.main.active = some x) (hs : sourceOf x = st) (hp : o.main.source = .present) {l : Stretch}
    (hl : o.lock.stretch = some l) (hlimit : l.limit = true) (hending : l.ending = false) (hstate : o.lock.state = .track)
    (hsilent : o.main.silenceDue = false) :
    let r := (o.dueFirst (OutPort.tableReport t st)).1
    r.lock = { (FrameLock.compute o.cfg 0 { o.lock with stretch := none, linesAdded := l.added }).1 with
      state := .holdover, locked := false, inWin := 0, outWin := 0, holdCount := 0 } ∧ r.pres = o.pres.toActive := by
  obtain ⟨hmain, hlock, hpres⟩ := OutPort.settle_limit hl hlimit hending hstate hsilent
  obtain ⟨-, hpres', hlock', -⟩ := OutPort.tableReport_present he (role := .main) (congrArg some hmain) ha hs hp
  obtain ⟨hcstate, hcstretch⟩ := FrameLock.compute_frame o.cfg 0 { o.lock with stretch := none, linesAdded := l.added }
  exact ⟨(hlock' rfl).trans (by rw [hlock, FrameLock.onLoss_track (hcstate.trans hstate) hcstretch]), hpres'.trans hpres⟩

/-! ### The expiry -/

theorem entryFor_removed (t : List TableEntry) (st : StationNo) : entryFor (t.filter (fun e => e.station != st)) st = none := by
  simp [entryFor]

/-- An entry that has expired is removed (R70). -/
theorem exec_tableEntryExpiry {s : State} {st : StationNo} {e : TableEntry} (hrun : s.running)
    (he : entryFor s.view.table st = some e) (hage : 4500 ≤ elapsed s.tick e.seen) :
    exec (.tableEntryExpiry st) s = .next (s.removeEntry st) := by
  have hexec : exec (.tableEntryExpiry st) s = .next (s.entryExpiry st) := live_running (fun s => s.entryExpiry st) s hrun
  have hexpired : e.expired s.tick = true := decide_eq_true hage
  rw [hexec, State.entryExpiry, he]
  dsimp only
  rw [if_pos hexpired]

/-- The table without the station's entry (R70). -/
def State.tableWithout (s : State) (st : StationNo) : List TableEntry := s.view.table.filter (fun e => e.station != st)

/-- The Station View after a removal (R70, R71). -/
theorem State.removeEntry_view (s : State) (st : StationNo) :
    (s.removeEntry st).view = { s.view with table := s.tableWithout st, demand := (s.removeEntry st).view.demand } :=
  State.tableReport_view

theorem State.removeEntry_demand (s : State) (st : StationNo) :
    (s.removeEntry st).view.demand = (s.removeEntry st).demandOf := State.tableReport_demand

/-- A removal at an output port, and the causes it raises there, what was due there being taken first (R107, log 2). -/
theorem State.removeEntry_port {s : State} {p : PortId} {o : OutPort} (st : StationNo) (hp : s.port p = .output o) :
    (s.removeEntry st).port p = .output (o.dueFirst (OutPort.tableReport (s.tableWithout st) st)).1 ∧
      ∀ c : Cause, c.isIn (o.dueFirst (OutPort.tableReport (s.tableWithout st) st)).2 →
        (s.removeEntry st).isPending c = true := by
  have hp' : ({ s with view := { s.view with table := s.tableWithout st } } : State).port p = .output o := by
    rw [← hp]; cases p <;> rfl
  unfold State.removeEntry State.tableReport
  refine ⟨State.recomputeDemand_port_out _ p _ (State.onOuts_port _ p o _ hp'), fun c hc => ?_⟩
  rw [State.isPending, State.recomputeDemand_att]
  exact State.isPending_onOuts_isIn hp' hc

/-- Settles O39: the removal of an expired entry, at the Station View and at each record on one of its streams. -/
theorem entryExpires : Obligations.EntryExpires := by
  intro s st e hrun hentry hage
  have he : entryFor (s.tableWithout st) st = none := entryFor_removed s.view.table st
  have hview := s.removeEntry_view st
  refine ⟨s.removeEntry st, exec_tableEntryExpiry hrun hentry hage, by rw [hview]; rfl, s.removeEntry_demand st, by rw [hview],
    by rw [hview], State.removeEntry_node _ _, State.removeEntry_link _ _, State.removeEntry_svc _ _,
    State.removeEntry_tick _ _, fun p o k x hp hk ha hs hsrc => ?_, fun p o x hp ha hs hsrc => ?_⟩
  · obtain ⟨hport, hpending⟩ := State.removeEntry_port st hp
    obtain ⟨hsink, hlost⟩ := OutPort.dueFirst_removed he (role := .overlay) hk ha hs hsrc
    refine ⟨hpending _ hlost, _, k.lose, hport, hsink, rfl, rfl, rfl, ha, fun hq hmode hshowing => ?_⟩
    obtain ⟨-, -, -, -, hlate⟩ := OutPort.tableReport_present he (role := .overlay) hk ha hs hsrc
    obtain ⟨hcam, hcause⟩ := hlate ((o.showsBy_iff .overlay).mpr ⟨hshowing, .inr ⟨rfl, hmode⟩⟩)
    rw [OutPort.dueFirst_quiet s.tick _ o hq] at hpending ⊢
    exact ⟨hcam, hpending _ hcause⟩
  · obtain ⟨hport, hpending⟩ := State.removeEntry_port st hp
    obtain ⟨hsink, hlost⟩ := OutPort.dueFirst_removed he (role := .main) rfl ha hs hsrc
    obtain ⟨-, hpres, hlock, -, hlate⟩ := OutPort.tableReport_present he (role := .main) rfl ha hs hsrc
    have hmain := Option.some.inj hsink
    refine ⟨hpending _ hlost, _, hport, by rw [hmain]; rfl, by rw [hmain]; rfl, by rw [hmain]; rfl, by rw [hmain]; exact ha,
      fun hq => ?_, fun hq hmode hshowing htrack => ?_, fun l hl hlimit hending htrack hsilent => ?_⟩
    · rw [OutPort.dueFirst_quiet s.tick _ o hq, hlock rfl, hpres]
      exact ⟨FrameLock.onLoss_state _, rfl⟩
    · obtain ⟨hcam, hcause⟩ := hlate ((o.showsBy_iff .main).mpr ⟨hshowing, .inl ⟨rfl, hmode, htrack⟩⟩)
      rw [OutPort.dueFirst_quiet s.tick _ o hq] at hpending ⊢
      exact ⟨hcam, hpending _ hcause⟩
    · have hcalm : o.main.silenceDue = false := by simpa [Sink.silenceDue] using hsilent
      obtain ⟨hlock', hpres'⟩ := OutPort.dueFirst_removed_limit he ha hs hsrc hl hlimit hending htrack hcalm
      rw [hpres']
      exact ⟨hlock', rfl, rfl⟩

end Sys2Proof.Machine
end

section
/-! PROOFS. What each operation on one stream of an input port leaves there, and the streams served in order of stream index; the
settling of a port's streams with the purges it brings (R45, R81, R84, R85, R90). -/

namespace Sys2Proof.Machine

/-! ### One stream of an input port -/

theorem State.setPort_setPort (s : State) (p : PortId) (q q' : Port) : (s.setPort p q).setPort p q' = s.setPort p q' := by
  cases p <;> rfl

/-- A stream put back as it was leaves the port as it was. -/
theorem InPort.set_same {q : InPort} {i : Nat} {k : Stream} (hk : q.streams[i]? = some k) :
    { q with streams := q.streams.set i k } = q := by
  obtain ⟨hlt, rfl⟩ := List.getElem?_eq_some_iff.mp hk
  rw [List.set_getElem_self]

/-- k' is the stream k with the pixels ps in its assembly buffer; besides, only its record of dropped lines may differ (R90,
R91). -/
def Stream.Holds (k : Stream) (ps : List Pixel) (k' : Stream) : Prop :=
  ∃ (drop : Bool) (lost : Nat), k' = { k with asm := ps, drop := drop, lostLines := lost }

/-- A stream that a frame start has closed, and perhaps opened anew (R84). -/
structure Stream.Begun (k k' : Stream) : Prop where
  win : k'.win = k.win
  state : k'.state = k.state
  asm : k'.asm = []
  closed : k.state ≠ .running → k'.frame = none

/-- A queue that takes an entry, or not, leaves the ports. -/
theorem State.append_port (s : State) (e : PicEntry) (p : PortId) : (s.append e).1.port p = s.port p := by
  cases p <;> simp

theorem State.port_store (s : State) (l : List SendSlot) (p : PortId) : ({ s with store := l } : State).port p = s.port p := by
  cases p <;> rfl

section Input

variable {s : State} {p : PortId} {q : InPort} (hp : s.port p = .input q)
include hp

theorem State.setStream_port (i : Nat) (k : Stream) :
    (s.setStream p i k).port p = .input { q with streams := q.streams.set i k } := by
  simp [State.setStream, hp]

theorem State.dropLine_port (i : Nat) (k : Stream) : (s.dropLine p i k).port p =
    .input { q with streams := q.streams.set i { k with drop := true, lostLines := holdInc k.lostLines } } := by
  rw [State.dropLine, State.port_raise, State.setStream_port hp]

theorem State.dropMark_port (i : Nat) (k : Stream) : (s.dropMark p i k).port p =
    .input { q with streams := q.streams.set i { k with drop := true, lostMarks := holdInc k.lostMarks } } := by
  rw [State.dropMark, State.port_raise, State.setStream_port hp]

/-- A finished line leaves the assembly buffer, placed or dropped (R85, R90). -/
theorem State.placeLine_port (i y : Nat) (frame : Half) (k : Stream) :
    ∃ k', (s.placeLine p i y frame k).port p = .input { q with streams := q.streams.set i k' } ∧ k.Holds [] k' := by
  have hdrop := State.dropLine_port hp i { k with asm := [] }
  unfold State.placeLine
  dsimp only
  split_ifs with hempty
  · exact ⟨_, State.setStream_port hp i _, _, _, rfl⟩
  · split
    · exact ⟨_, hdrop, _, _, rfl⟩
    · split_ifs with happ
      · exact ⟨_, State.setStream_port ((State.port_store _ _ p).trans ((s.append_port _ p).trans hp)) i _, _, _, rfl⟩
      · exact ⟨_, hdrop, _, _, rfl⟩

variable {i : Nat} {k : Stream} (hk : q.streams[i]? = some k)
include hk

/-- The end of the input line at a window with no line begun (R85). -/
theorem State.endWindowLine_empty (h : k.asm = []) : State.endWindowLine p s i = s := by
  simp [State.endWindowLine, hp, hk, h]

/-- The end of the input line at a window whose line it cuts short (R85). -/
theorem State.endWindowLine_cut (h : k.asm ≠ []) :
    State.endWindowLine p s i = s.placeLine p i q.lines q.counter k := by
  simp [State.endWindowLine, hp, hk, h]

/-- No window line is left unfinished at the end of the input line (R85). -/
theorem State.endWindowLine_port : ∃ k', (State.endWindowLine p s i).port p =
    .input { q with streams := q.streams.set i k' } ∧ k.Holds [] k' := by
  by_cases h : k.asm = []
  · exact ⟨k, by rw [State.endWindowLine_empty hp hk h, InPort.set_same hk, hp], k.drop, k.lostLines, by rw [← h]⟩
  · rw [State.endWindowLine_cut hp hk h]
    exact State.placeLine_port hp i _ _ k

/-- A frame start closes the frame of every stream, and may open one for a RUNNING stream (R84). -/
theorem State.frameStream_port : ∃ k', (State.frameStream p s i).port p =
    .input { q with streams := q.streams.set i k' } ∧ k.Begun k' := by
  have hclose : ∃ k', (s.setStream p i k.close).port p = .input { q with streams := q.streams.set i k' } ∧ k.Begun k' :=
    ⟨_, State.setStream_port hp i _, rfl, rfl, rfl, fun _ => rfl⟩
  unfold State.frameStream
  rw [hp]
  dsimp only
  rw [hk]
  dsimp only
  split
  · split_ifs with hrun
    · unfold State.openFrame
      dsimp only
      split_ifs
      · exact hclose
      · exact ⟨_, State.setStream_port ((s.append_port _ p).trans hp) i _, rfl, rfl, rfl, fun h => absurd hrun h⟩
      · exact ⟨_, State.dropMark_port ((s.append_port _ p).trans hp) i _, rfl, rfl, rfl, fun _ => rfl⟩
    · exact hclose
  · exact hclose

end Input

/-! ### The streams in turn -/

/-- The state after the first n streams of a port have had their turn of an operation. -/
def State.turns (f : State → Nat → State) (s : State) (n : Nat) : State := (List.range n).foldl f s

@[simp] theorem State.turns_zero (f : State → Nat → State) (s : State) : s.turns f 0 = s := rfl

theorem State.turns_succ (f : State → Nat → State) (s : State) (n : Nat) : s.turns f (n + 1) = f (s.turns f n) n := by
  rw [State.turns, List.range_succ, List.foldl_append]; rfl

/-- What every turn keeps, the turns keep. -/
theorem State.turns_frame {β : Type} (g : State → β) {f : State → Nat → State} (h : ∀ s i, g (f s i) = g s) (s : State)
    (n : Nat) : g (s.turns f n) = g s := foldl_frame g f h _ s

/-- v is the input port q after the turns of its first n streams, each of which R relates to what it has become. -/
structure InPort.Turned (q : InPort) (R : Stream → Stream → Prop) (n : Nat) (v : InPort) : Prop where
  rest : v = { q with streams := v.streams }
  length : v.streams.length = q.streams.length
  done : ∀ (i : Nat) (k : Stream), i < n → q.streams[i]? = some k → ∃ k', v.streams[i]? = some k' ∧ R k k'
  ahead : ∀ i, n ≤ i → v.streams[i]? = q.streams[i]?

/-- A port whose first n streams have had their turn, after the next turn. -/
theorem InPort.Turned.succ {q v : InPort} {R : Stream → Stream → Prop} {n : Nat} (h : q.Turned R n v) {k k' : Stream}
    (hk : v.streams[n]? = some k) (hR : R k k') : q.Turned R (n + 1) { v with streams := v.streams.set n k' } := by
  obtain ⟨hlt, -⟩ := List.getElem?_eq_some_iff.mp hk
  refine ⟨by rw [h.rest], by simp [h.length], fun i x hi hx => ?_, fun i hi => ?_⟩
  · rcases Nat.lt_succ_iff_lt_or_eq.mp hi with hi | rfl
    · rw [List.getElem?_set_ne (by omega)]
      exact h.done i x hi hx
    · rw [← h.ahead i le_rfl, hk] at hx
      cases hx
      exact ⟨k', List.getElem?_set_self hlt, hR⟩
  · rw [List.getElem?_set_ne (by omega)]
    exact h.ahead i (by omega)

/-- An input port after turns that each replace one stream. -/
theorem State.turns_port {s : State} {p : PortId} {q : InPort} {R : Stream → Stream → Prop} {f : State → Nat → State}
    (hp : s.port p = .input q)
    (hf : ∀ {s : State} {v : InPort} {i : Nat} {k : Stream}, s.port p = .input v → v = { q with streams := v.streams } →
      v.streams[i]? = some k → ∃ k', (f s i).port p = .input { v with streams := v.streams.set i k' } ∧ R k k')
    (n : Nat) (hn : n ≤ q.streams.length) : ∃ v, (s.turns f n).port p = .input v ∧ q.Turned R n v := by
  induction n with
  | zero => exact ⟨q, hp, rfl, rfl, fun _ _ h => absurd h (Nat.not_lt_zero _), fun _ _ => rfl⟩
  | succ n ih =>
    obtain ⟨v, hv, ht⟩ := ih (by omega)
    have hk : v.streams[n]? = some q.streams[n] := by rw [ht.ahead n le_rfl]; exact List.getElem?_eq_getElem hn
    obtain ⟨k', hport, hR⟩ := hf hv ht.rest hk
    exact ⟨_, by rw [State.turns_succ, hport], ht.succ hk hR⟩

/-- An input port as the turn of one of its streams finds it. -/
theorem State.turns_found {s : State} {p : PortId} {q : InPort} {R : Stream → Stream → Prop} {f : State → Nat → State}
    (hturn : ∀ n ≤ q.streams.length, ∃ v, (s.turns f n).port p = .input v ∧ q.Turned R n v) {i : Nat} {k : Stream}
    (hk : q.streams[i]? = some k) : ∃ v, (s.turns f i).port p = .input v ∧ v = { q with streams := v.streams } ∧
      v.streams[i]? = some k := by
  obtain ⟨hlt, -⟩ := List.getElem?_eq_some_iff.mp hk
  obtain ⟨v, hv, ht⟩ := hturn i hlt.le
  exact ⟨v, hv, ht.rest, (ht.ahead i le_rfl).trans hk⟩

/-! ### The settling of one port -/

/-- The window numbers whose streams a change of state suspends. -/
theorem mem_newlySuspended {l : List Stream} {f : Stream → Stream} {i : Nat} : i ∈ newlySuspended l (l.map f) ↔
    ∃ k, l[i]? = some k ∧ k.state ≠ .suspended ∧ (f k).state = .suspended := by
  simp only [newlySuspended, List.mem_filter, List.mem_range, List.getElem?_map]
  constructor
  · rintro ⟨hlt, h⟩
    refine ⟨l[i], List.getElem?_eq_getElem hlt, ?_⟩
    simpa [hlt] using h
  · rintro ⟨k, hk, hwas, his⟩
    obtain ⟨hlt, rfl⟩ := List.getElem?_eq_some_iff.mp hk
    simp [hlt, hwas, his]

/-- The stream indices whose entries leave the queues when a port is settled (R45, R81). -/
def InPort.purged (s : State) (p : PortId) (q : InPort) : List (BitVec 3) :=
  (newlySuspended q.streams (q.settled s).streams).map (streamIndex p)

theorem InPort.mem_purged {s : State} {p : PortId} {q : InPort} {n : BitVec 3} : n ∈ q.purged s p ↔
    ∃ i k, q.streams[i]? = some k ∧ k.state ≠ .suspended ∧
      settledState s.node.state q.geometry s.view.demand k.win = .suspended ∧ n = streamIndex p i := by
  simp only [InPort.purged, InPort.settled, List.mem_map, mem_newlySuspended, Stream.moveTo_state]
  constructor
  · rintro ⟨i, ⟨k, hk, hwas, his⟩, rfl⟩; exact ⟨i, k, hk, hwas, his, rfl⟩
  · rintro ⟨i, k, hk, hwas, his, rfl⟩; exact ⟨i, ⟨k, hk, hwas, his⟩, rfl⟩

/-- The settling of an input port: its streams are moved, and then the entries of those it suspends are purged (R45, R81). -/
theorem State.settlePort_eq {s : State} {p : PortId} {q : InPort} (hp : s.port p = .input q) :
    s.settlePort p = (q.purged s p).foldl State.purgeStream (s.setPort p (.input (q.settled s))) := by
  unfold State.settlePort InPort.purged
  rw [hp, List.foldl_map]
  rfl

/-- What the purges of some streams leave (R45). -/
theorem purgeStreams_eq (l : List (BitVec 3)) (s : State) :
    let t := l.foldl State.purgeStream s
    t = { s with
      sched := { s.sched with
        safeQ := s.sched.safeQ.filter (fun e => decide (e.index ∉ l))
        normalQ := s.sched.normalQ.filter (fun e => decide (e.index ∉ l)), starved := t.sched.starved }
      store := t.store } := by
  induction l generalizing s with
  | nil => simp
  | cons n l ih =>
    have hfilter : ∀ q : List PicEntry, (q.filter (fun e => !(e.index == n))).filter (fun e => decide (e.index ∉ l)) =
        q.filter (fun e => decide (e.index ∉ n :: l)) := by
      intro q
      rw [List.filter_filter]
      refine List.filter_congr fun e _ => ?_
      by_cases hn : e.index = n <;> simp [hn]
    have h := ih (s.purgeStream n)
    rw [State.purgeStream, State.purge_eq] at h
    dsimp only at h ⊢
    rw [hfilter, hfilter] at h
    rw [List.foldl_cons, State.purgeStream, State.purge_eq]
    exact h

/-- The slots that the purges of some streams leave held: those of no LINE entry that has left (R45, R89). -/
theorem purgeStreams_store (l : List (BitVec 3)) (s : State) (x : SendSlot) : x ∈ (l.foldl State.purgeStream s).store ↔
    x ∈ s.store ∧ ∀ e, e ∈ s.sched.safeQ ∨ e ∈ s.sched.normalQ → e.index ∈ l → e.isMark = true ∨ e.slot ≠ x.slot := by
  induction l generalizing s with
  | nil => simp
  | cons n l ih =>
    rw [List.foldl_cons, ih, State.purgeStream, State.purge_eq]
    simp only [List.mem_filter, slotsOf, List.contains_eq_mem, List.mem_append, List.mem_map, List.mem_cons,
      Bool.not_eq_true', decide_eq_false_iff_not, Bool.and_eq_true, beq_iff_eq, beq_eq_false_iff_ne]
    constructor
    · rintro ⟨⟨hx, hgone⟩, hrest⟩
      refine ⟨hx, fun e he hl => ?_⟩
      by_cases hn : e.index = n
      · by_contra hkept
        simp only [not_or, ne_eq, not_not, Bool.not_eq_true] at hkept
        obtain ⟨hline, hslot⟩ := hkept
        exact hgone (he.imp (fun h => ⟨e, ⟨h, hn, hline⟩, hslot⟩) (fun h => ⟨e, ⟨h, hn, hline⟩, hslot⟩))
      · exact hrest e (he.imp (⟨·, hn⟩) (⟨·, hn⟩)) (hl.resolve_left hn)
    · rintro ⟨hx, hkept⟩
      refine ⟨⟨hx, ?_⟩, fun e he hl => hkept e (he.imp And.left And.left) (.inr hl)⟩
      rintro (⟨e, ⟨he, hn, hline⟩, hslot⟩ | ⟨e, ⟨he, hn, hline⟩, hslot⟩)
      · exact (hkept e (.inl he) (.inl hn)).elim (by simp [hline]) (absurd hslot)
      · exact (hkept e (.inr he) (.inl hn)).elim (by simp [hline]) (absurd hslot)

/-! ### The silence of a port -/

/-- A port without a geometry has every stream IDLE (R81). -/
theorem settledState_noGeometry (node : NodeState) (demand : Bool) (w : Window) : settledState node none demand w = .idle := by
  simp [settledState]

/-- Settles O40: a port that falls silent suspends no stream, so no entry leaves a queue. -/
theorem silenceForgets : Obligations.SilenceForgets := by
  intro s p q hrun hstate hp hsilent
  have hfull : s.node.state.full = true := (NodeState.full_iff _).mpr hstate
  have hexec : exec (.silenceTimeout p) s = .next (s.silenceTimeout p) := live_running (State.silenceTimeout · p) s hrun
  have hdue : s.silenceTimeout p = (s.setPort p (.input q.forget)).settlePort p := by
    simp [State.silenceTimeout, hp, hfull, InPort.silent, hsilent]
  have hnone : q.forget.purged (s.setPort p (.input q.forget)) p = [] := by
    refine List.eq_nil_iff_forall_not_mem.mpr fun n hn => ?_
    obtain ⟨i, k, -, -, his, -⟩ := InPort.mem_purged.mp hn
    exact absurd ((settledState_noGeometry _ _ _).symm.trans his) (by decide)
  rw [hexec, hdue, State.settlePort_eq (State.setPort_port _ _ _), hnone, List.foldl_nil, State.setPort_setPort]
  simp only [InPort.settled, InPort.forget, settledState_noGeometry, Stream.moveTo, eq_comm (a := StreamState.idle)]

end Sys2Proof.Machine
end

section
/-! PROOFS. An active pixel at an input port: its count, the windows that take it in order of stream index, and the packing of a
line (R75, R76, R85 to R91, 12.3). -/

namespace Sys2Proof.Machine

/-! ### The packing of 12.3 -/

/-- Bytes in words, four to a word, the last filled up with 0 (12.3). -/
theorem packBytes_spec (l : List Byte) : (packBytes l).length = (l.length + 3) / 4 ∧
    ∀ j, j < (l.length + 3) / 4 → (packBytes l)[j]? =
      some (l.getD (4 * j) 0 ++ l.getD (4 * j + 1) 0 ++ l.getD (4 * j + 2) 0 ++ l.getD (4 * j + 3) 0) := by
  induction l using packBytes.induct with
  | case1 a b c d rest ih =>
    obtain ⟨hlen, hword⟩ := ih
    have hdiv : ((a :: b :: c :: d :: rest).length + 3) / 4 = (rest.length + 3) / 4 + 1 := by
      simp only [List.length_cons]; omega
    rw [hdiv, packBytes]
    refine ⟨by simp [hlen], fun j hj => ?_⟩
    cases j with
    | zero => rfl
    | succ j => rw [List.getElem?_cons_succ, hword j (by omega), Nat.mul_succ]; rfl
  | case2 a b c =>
    refine ⟨by simp [packBytes], fun j hj => ?_⟩
    obtain rfl : j = 0 := by simpa using hj
    rfl
  | case3 a b =>
    refine ⟨by simp [packBytes], fun j hj => ?_⟩
    obtain rfl : j = 0 := by simpa using hj
    rfl
  | case4 a =>
    refine ⟨by simp [packBytes], fun j hj => ?_⟩
    obtain rfl : j = 0 := by simpa using hj
    rfl
  | case5 => exact ⟨rfl, fun j hj => absurd hj (Nat.not_lt_zero j)⟩

/-- Half words in words, two to a word, the last filled up with 0 (12.3). -/
theorem packHalves_spec (l : List Half) : (packHalves l).length = (l.length + 1) / 2 ∧
    ∀ j, j < (l.length + 1) / 2 → (packHalves l)[j]? = some (l.getD (2 * j) 0 ++ l.getD (2 * j + 1) 0) := by
  induction l using packHalves.induct with
  | case1 a b rest ih =>
    obtain ⟨hlen, hword⟩ := ih
    have hdiv : ((a :: b :: rest).length + 1) / 2 = (rest.length + 1) / 2 + 1 := by simp only [List.length_cons]; omega
    rw [hdiv, packHalves]
    refine ⟨by simp [hlen], fun j hj => ?_⟩
    cases j with
    | zero => rfl
    | succ j => rw [List.getElem?_cons_succ, hword j (by omega), Nat.mul_succ]; rfl
  | case2 a =>
    refine ⟨by simp [packHalves], fun j hj => ?_⟩
    obtain rfl : j = 0 := by simpa using hj
    rfl
  | case3 => exact ⟨rfl, fun j hj => absurd hj (Nat.not_lt_zero j)⟩

theorem length_p24Bytes (ps : List Pixel) : (ps.flatMap p24Bytes).length = 3 * ps.length := by
  induction ps with
  | nil => rfl
  | cons x ps ih => rw [List.flatMap_cons, List.length_append, ih, List.length_cons, Nat.mul_succ, Nat.add_comm]; rfl

/-! ### The pixel at one window -/

/-- A window's lines are those of its open frame (R85). -/
theorem Stream.cuts_iff {k : Stream} {y : Nat} : k.cuts y = true ↔
    ∃ f, k.frame = some f ∧ k.state = .running ∧ k.win.y0 ≤ y ∧ y < k.win.y0 + f.height := by
  unfold Stream.cuts
  cases k.frame <;> simp [and_assoc]

/-- The pixel in hand at the port is the next that the stream takes (R85). -/
abbrev InPort.offersTo (q : InPort) (k : Stream) : Prop := k.cuts q.lines = true ∧ q.x = k.nextColumn

/-- The assembly buffer of a stream once the pixel in hand has passed its window (R85). -/
def InPort.gathered (q : InPort) (px : Pixel) (k : Stream) : List Pixel :=
  if q.offersTo k then
    if Stream.lineFull { k with asm := k.asm ++ [px] } then [] else k.asm ++ [px]
  else k.asm

/-- The assembly buffer of a stream with an open frame once the pixel in hand has passed its window. -/
theorem InPort.gathered_open {q : InPort} {k : Stream} {f : Size} (px : Pixel) (hf : k.frame = some f) : q.gathered px k =
    if k.state = .running ∧ k.win.y0 ≤ q.lines ∧ q.lines < k.win.y0 + f.height ∧ q.x = k.nextColumn then
      if k.asm.length + 1 < f.width then k.asm ++ [px] else []
    else k.asm := by
  have hoffers : q.offersTo k ↔
      k.state = .running ∧ k.win.y0 ≤ q.lines ∧ q.lines < k.win.y0 + f.height ∧ q.x = k.nextColumn := by
    simp [InPort.offersTo, Stream.cuts_iff, hf, and_assoc]
  have hfull : Stream.lineFull { k with asm := k.asm ++ [px] } = true ↔ ¬ k.asm.length + 1 < f.width := by
    simp [Stream.lineFull, hf]
  simp only [InPort.gathered, hoffers, hfull, ite_not]

section Window

variable {s : State} {p : PortId} {q : InPort} {i : Nat} {k : Stream} (px : Pixel) (hp : s.port p = .input q)
  (hk : q.streams[i]? = some k)
include hp hk

/-- A pixel that is not the window's next leaves the state. -/
theorem State.cutPixel_passed (h : ¬ q.offersTo k) : State.cutPixel p px s i = s := by
  have hno : ¬ (k.cuts q.lines && q.x == k.nextColumn) = true := by simpa [InPort.offersTo] using h
  simp only [State.cutPixel, hp, hk, if_neg hno]

/-- A pixel that the window takes joins its line, which is placed when it is full. -/
theorem State.cutPixel_taken (h : q.offersTo k) : State.cutPixel p px s i =
    if Stream.lineFull { k with asm := k.asm ++ [px] } then
      s.placeLine p i q.lines q.counter { k with asm := k.asm ++ [px] }
    else s.setPort p (.input { q with streams := q.streams.set i { k with asm := k.asm ++ [px] } }) := by
  have hyes : (k.cuts q.lines && q.x == k.nextColumn) = true := by simpa [InPort.offersTo] using h
  simp only [State.cutPixel, hp, hk, if_pos hyes, State.setStream]

/-- What a window's turn at a pixel leaves of the port. -/
theorem State.cutPixel_port : ∃ k', (State.cutPixel p px s i).port p =
    .input { q with streams := q.streams.set i k' } ∧ k.Holds (q.gathered px k) k' := by
  unfold InPort.gathered
  by_cases h : q.offersTo k
  · rw [State.cutPixel_taken px hp hk h, if_pos h]
    split_ifs
    · exact State.placeLine_port hp i _ _ _
    · exact ⟨_, State.setPort_port _ _ _, k.drop, k.lostLines, rfl⟩
  · rw [State.cutPixel_passed px hp hk h, if_neg h]
    exact ⟨k, by rw [InPort.set_same hk, hp], k.drop, k.lostLines, rfl⟩

/-- In RUN, what a pixel that the window takes does: the line goes on, or it is finished and placed or dropped (R85, R87 to
R91). -/
theorem State.cutPixel_run {f : Size} (hrun : s.node.state = .run) (h : q.offersTo k) (hf : k.frame = some f) :
    (k.asm.length + 1 < f.width → State.cutPixel p px s i =
      s.setPort p (.input { q with streams := q.streams.set i { k with asm := k.asm ++ [px] } })) ∧
    (f.width ≤ k.asm.length + 1 → s.LinePlaced p q i k (k.asm ++ [px]) (State.cutPixel p px s i)) := by
  rw [State.cutPixel_taken px hp hk h]
  refine ⟨fun hshort => if_neg ?_, fun hend => ?_⟩
  · simpa [Stream.lineFull, hf] using hshort
  · rw [if_pos (by simpa [Stream.lineFull, hf] using hend)]
    exact State.placeLine_linePlaced s p q i k _ hrun hp (by simp)

end Window

/-! ### The pixel at the port -/

/-- A pixel as the port takes it in (R75). -/
theorem InCfg.pixel_eq (c : InCfg) (r g b : Component) : c.pixel r g b =
    let wide : Component → Component := fun v => BitVec.ofNat 10 (v.toNat % 256 * 4 + v.toNat % 256 / 64)
    if c.tenBit then { r := r, g := g, b := b } else { r := wide r, g := wide g, b := wide b } := by
  cases h : c.tenBit <;> simp [InCfg.pixel, InCfg.take, h, expand8]

/-- What a port does with an active pixel (R75, R76). -/
theorem State.activePixel_eq {s : State} {p : PortId} {q : InPort} (r g b : Component) (hp : s.port p = .input q)
    (hfull : s.node.state.full = true) : s.activePixel p r g b =
      if q.measuring = true ∧ q.lines < 2048 ∧ q.x < 4096 then
        (s.turns (State.cutPixel p (q.cfg.pixel r g b)) q.streams.length).countPixel p
      else s := by
  simp [State.activePixel, hp, hfull, InPort.counting, Config.maxLines, Config.maxPixels, State.turns, and_assoc]

theorem exec_activePixel {s : State} {p : PortId} {q : InPort} (r g b : Component) (hrun : s.running)
    (hp : s.port p = .input q) (hsilent : q.silence ≠ some 0) :
    exec (.activePixel p r g b) s = .next (s.activePixel p r g b) := by
  rw [← congrArg (State.activePixel · p r g b) (s.silenceTimeout_quiet p q hp hsilent)]
  exact live_running (fun s => (s.silenceTimeout p).activePixel p r g b) s hrun

/-- Outside a full station whatever arrives on a port is ignored (R75). -/
theorem exec_input_ignored {s : State} (p : PortId) (r g b : Component) (hrun : s.running)
    (hfull : s.node.state.full = false) : exec (.activePixel p r g b) s = .next s ∧ exec (.inputLineEnd p) s = .next s ∧
      exec (.inputFrameStart p) s = .next s := by
  have hsilence : s.silenceTimeout p = s := by unfold State.silenceTimeout; split <;> simp [hfull]
  have hpixel : (s.silenceTimeout p).activePixel p r g b = s := by
    rw [hsilence]; unfold State.activePixel; split <;> simp [hfull]
  have hline : (s.silenceTimeout p).inputLineEnd p = s := by
    rw [hsilence]; unfold State.inputLineEnd; split <;> simp [hfull]
  have hframe : (s.silenceTimeout p).inputFrameStart p = s := by
    rw [hsilence]; unfold State.inputFrameStart; split <;> simp [hfull]
  refine ⟨?_, ?_, ?_⟩
  · exact (live_running (fun s => (s.silenceTimeout p).activePixel p r g b) s hrun).trans (congrArg _ hpixel)
  · exact (live_running (fun s => (s.silenceTimeout p).inputLineEnd p) s hrun).trans (congrArg _ hline)
  · exact (live_running (fun s => (s.silenceTimeout p).inputFrameStart p) s hrun).trans (congrArg _ hframe)

/-- Settles O44: an active pixel at its port, the windows taking it in turn, and the packing of a line. -/
theorem activePixelTaken : Obligations.ActivePixelTaken := by
  refine ⟨fun s p q r g b hrun hstate hp hsilent hmeasuring hlines hx => ?_,
    fun s p q r g b hrun hstate hp hsilent hcap => ?_, fun s p r g b hrun hstate => ?_, fun ps => ?_⟩
  · intro wide px
    have hfull : s.node.state.full = true := (NodeState.full_iff _).mpr hstate
    have hpx : q.cfg.pixel r g b = px := q.cfg.pixel_eq r g b
    have hexec := exec_activePixel r g b hrun hp hsilent
    have hturn := State.turns_port (f := State.cutPixel p px) (R := fun k k' => k.Holds (q.gathered px k) k') hp
      (fun {s v i k} hv hrest hk => by
        have hsame : v.gathered px k = q.gathered px k := by rw [hrest]; rfl
        exact hsame ▸ State.cutPixel_port px hv hk)
    obtain ⟨v, hv, ht⟩ := hturn _ le_rfl
    have hcounted : s.activePixel p r g b =
        (s.turns (State.cutPixel p px) q.streams.length).setPort p (.input { v with x := v.x + 1 }) := by
      rw [State.activePixel_eq r g b hp hfull, if_pos ⟨hmeasuring, hlines, hx⟩, hpx, State.countPixel, hv]
    have hvx : v.x = q.x := by rw [ht.rest]
    refine ⟨_, { v with x := v.x + 1 }, hexec, by rw [hcounted, State.setPort_port], congrArg (· + 1) hvx,
      by rw [ht.rest], by rw [ht.rest], by rw [ht.rest], State.activePixel_link .., State.activePixel_node ..,
      State.activePixel_view .., fun i k f hk hf => ?_, fun hnode => ?_⟩
    · obtain ⟨hlt, -⟩ := List.getElem?_eq_some_iff.mp hk
      obtain ⟨k', hk', drop, lost, rfl⟩ := ht.done i k hlt hk
      exact ⟨_, hk', hf, rfl, InPort.gathered_open px hf⟩
    · refine ⟨s.turns (State.cutPixel p px), rfl, fun i k hk => ?_, by rw [hv, ← hvx], hcounted⟩
      obtain ⟨w, hw, hrest, hwk⟩ := State.turns_found hturn hk
      have hoffers : w.offersTo k ↔ q.offersTo k := by rw [hrest]
      have hrunning : (s.turns (State.cutPixel p px) i).node.state = .run :=
        (congrArg Node.state (State.turns_frame State.node (fun s i => s.cutPixel_node p px i) s i)).trans hnode
      intro takes
      have htakes : q.offersTo k ↔ ∃ f, takes f := by
        simp only [InPort.offersTo, Stream.cuts_iff, ← exists_and_right, and_assoc]; exact Iff.rfl
      rw [State.turns_succ]
      refine ⟨fun hnone => State.cutPixel_passed px hw hwk ?_, fun f hf => ⟨w, hw, hwk, ?_⟩⟩
      · rw [hoffers, htakes]; exact fun ⟨f, hf⟩ => hnone f hf
      · exact State.cutPixel_run px hw hwk hrunning (hoffers.mpr (htakes.mpr ⟨f, hf⟩)) hf.1
  · have hfull : s.node.state.full = true := (NodeState.full_iff _).mpr hstate
    rw [exec_activePixel r g b hrun hp hsilent, State.activePixel_eq r g b hp hfull, if_neg (by omega)]
  · exact exec_input_ignored p r g b hrun (by rcases hstate with h | h <;> rw [h] <;> rfl)
  · have h24 := packBytes_spec (ps.flatMap p24Bytes)
    have h16 := packHalves_spec (ps.map packP16)
    rw [length_p24Bytes] at h24
    rw [List.length_map] at h16
    exact ⟨rfl, h24.1, h24.2, h16.1, h16.2⟩

end Sys2Proof.Machine
end

section
/-! PROOFS. The end of an input line and the start of an input frame: lines cut short, the measurement, the settling of the streams
and the frames that begin (R41 to R43, R45, R76 to R78, R81, R84, R85, R87 to R91). -/

namespace Sys2Proof.Machine

/-! ### The credit stays -/

@[simp] theorem State.purge_credit (s : State) (kill : PicEntry → Bool) : (s.purge kill).sched.credit = s.sched.credit := by
  rw [State.purge_sched]

@[simp] theorem State.append_credit (s : State) (e : PicEntry) : (s.append e).1.sched.credit = s.sched.credit := by
  unfold State.append State.purgeStale
  dsimp only
  split_ifs <;> simp

@[simp] theorem State.placeLine_credit (s : State) (p : PortId) (i y : Nat) (frame : Half) (k : Stream) :
    (s.placeLine p i y frame k).sched.credit = s.sched.credit := by
  unfold State.placeLine
  dsimp only
  split_ifs
  · simp
  · split
    · simp
    · split_ifs <;> simp

@[simp] theorem State.endWindowLine_credit (s : State) (p : PortId) (i : Nat) :
    (s.endWindowLine p i).sched.credit = s.sched.credit := by
  unfold State.endWindowLine
  split
  · split
    · split_ifs <;> simp
    · rfl
  · rfl
  · rfl

@[simp] theorem State.frameStream_credit (s : State) (p : PortId) (i : Nat) :
    (s.frameStream p i).sched.credit = s.sched.credit := by
  have hopen : ∀ frame size k, (s.openFrame p i frame size k).sched.credit = s.sched.credit := fun frame size k => by
    unfold State.openFrame
    dsimp only
    split_ifs <;> simp
  unfold State.frameStream
  split
  · split
    · split
      · split_ifs <;> simp [hopen]
      · simp
    · rfl
  · rfl
  · rfl

/-! ### The end of an input line -/

/-- The measurement after an input line: one with active pixels is counted (R76). -/
theorem InPort.measureLine_eq (q : InPort) : q.measureLine = { q with
    lines := if q.x = 0 then q.lines else q.lines + 1, maxW := if q.x = 0 then q.maxW else max q.maxW q.x, x := 0 } := by
  unfold InPort.measureLine
  split_ifs with h
  · rw [← h]
  · rfl

/-- v is the input port q after the end of its line: the line is measured and no window line is left unfinished (R76, R85). -/
structure InPort.Ended (q v : InPort) : Prop where
  rest : v = { q.measureLine with streams := v.streams }
  length : v.streams.length = q.streams.length
  streams : ∀ (i : Nat) (k : Stream), q.streams[i]? = some k → ∃ k', v.streams[i]? = some k' ∧ k.Holds [] k'

theorem InPort.Turned.ended {q v : InPort} (h : q.Turned (Stream.Holds · []) q.streams.length v) :
    q.Ended v.measureLine := by
  have hmeasure : v.measureLine = { q.measureLine with streams := v.streams } := by
    rw [h.rest, InPort.measureLine_eq, InPort.measureLine_eq]
  rw [hmeasure]
  exact ⟨rfl, h.length, fun i k hk => h.done i k (List.getElem?_eq_some_iff.mp hk).1 hk⟩

/-- No window line is left unfinished. -/
theorem InPort.Ended.asm {q v : InPort} (h : q.Ended v) : ∀ k ∈ v.streams, k.asm = [] := by
  intro k hk
  obtain ⟨i, hi⟩ := List.mem_iff_getElem?.mp hk
  obtain ⟨hlt, -⟩ := List.getElem?_eq_some_iff.mp hi
  obtain ⟨k', hk', drop, lost, rfl⟩ := h.streams i _ (List.getElem?_eq_getElem (h.length ▸ hlt))
  rw [hi] at hk'
  cases hk'
  rfl

theorem InPort.Ended.x {q v : InPort} (h : q.Ended v) : v.x = 0 := by
  rw [h.rest, InPort.measureLine_eq]

theorem exec_inputLineEnd {s : State} {p : PortId} {q : InPort} (hrun : s.running) (hp : s.port p = .input q)
    (hsilent : q.silence ≠ some 0) : exec (.inputLineEnd p) s = .next (s.inputLineEnd p) := by
  rw [← congrArg (State.inputLineEnd · p) (s.silenceTimeout_quiet p q hp hsilent)]
  exact live_running (fun s => (s.silenceTimeout p).inputLineEnd p) s hrun

theorem exec_inputFrameStart {s : State} {p : PortId} {q : InPort} (hrun : s.running) (hp : s.port p = .input q)
    (hsilent : q.silence ≠ some 0) : exec (.inputFrameStart p) s = .next (s.inputFrameStart p) := by
  rw [← congrArg (State.inputFrameStart · p) (s.silenceTimeout_quiet p q hp hsilent)]
  exact live_running (fun s => (s.silenceTimeout p).inputFrameStart p) s hrun

section Line

variable {s : State} {p : PortId} {q : InPort} (hp : s.port p = .input q)
include hp

/-- The port as the turns of its windows at the end of a line leave it. -/
theorem State.endWindowLine_turns (n : Nat) (hn : n ≤ q.streams.length) :
    ∃ v, (s.turns (State.endWindowLine p) n).port p = .input v ∧ q.Turned (Stream.Holds · []) n v :=
  State.turns_port hp (fun hv _ hk => State.endWindowLine_port hv hk) n hn

/-- One window's turn at the end of a line (R85). -/
theorem State.endWindowLine_turn (hrun : s.node.state = .run) {i : Nat} {k : Stream} (hk : q.streams[i]? = some k) :
    let u := s.turns (State.endWindowLine p)
    (k.asm = [] → u (i + 1) = u i) ∧
      (k.asm ≠ [] → ∃ v, (u i).port p = .input v ∧ v.streams[i]? = some k ∧
        (u i).LinePlaced p v i k k.asm (u (i + 1))) := by
  intro u
  obtain ⟨v, hv, -, hvk⟩ := State.turns_found (State.endWindowLine_turns hp) hk
  have hrunning : (u i).node.state = .run :=
    (congrArg Node.state (State.turns_frame State.node (fun s i => s.endWindowLine_node p i) s i)).trans hrun
  have hsucc : u (i + 1) = State.endWindowLine p (u i) i := State.turns_succ _ _ _
  rw [hsucc]
  refine ⟨State.endWindowLine_empty hv hvk, fun hcut => ⟨v, hv, hvk, ?_⟩⟩
  rw [State.endWindowLine_cut hv hvk hcut]
  exact State.placeLine_linePlaced _ p v i k k.asm hrunning hv hcut

variable (hfull : s.node.state.full = true)
include hfull

/-- The end of an input line: the windows in turn, then the measurement. -/
theorem State.inputLineEnd_eq :
    s.inputLineEnd p = (s.turns (State.endWindowLine p) q.streams.length).measureLine p := by
  simp [State.inputLineEnd, hp, hfull, State.turns]

/-- The port after the end of an input line. -/
theorem State.inputLineEnd_ends : ∃ v, (s.turns (State.endWindowLine p) q.streams.length).port p = .input v ∧
    q.Turned (Stream.Holds · []) q.streams.length v ∧
    s.inputLineEnd p = (s.turns (State.endWindowLine p) q.streams.length).setPort p (.input v.measureLine) := by
  obtain ⟨v, hv, ht⟩ := State.endWindowLine_turns hp _ le_rfl
  exact ⟨v, hv, ht, by rw [State.inputLineEnd_eq hp hfull, State.measureLine, hv]⟩

theorem State.inputLineEnd_port : ∃ v, (s.inputLineEnd p).port p = .input v ∧ q.Ended v := by
  obtain ⟨v, -, ht, hend⟩ := State.inputLineEnd_ends hp hfull
  exact ⟨_, by rw [hend, State.setPort_port], ht.ended⟩

theorem State.inputLineEnd_credit : (s.inputLineEnd p).sched.credit = s.sched.credit := by
  rw [State.inputLineEnd_eq hp hfull, State.measureLine_sched]
  exact State.turns_frame (fun s => s.sched.credit) (fun s i => s.endWindowLine_credit p i) _ _

/-- A line that has ended leaves nothing for another end (R85). -/
theorem State.inputLineEnd_idle (hx : q.x = 0) (hasm : ∀ k ∈ q.streams, k.asm = []) : s.inputLineEnd p = s := by
  have hturns : ∀ n ≤ q.streams.length, s.turns (State.endWindowLine p) n = s := by
    intro n hn
    induction n with
    | zero => rfl
    | succ n ih =>
      rw [State.turns_succ, ih (by omega)]
      exact State.endWindowLine_empty hp (List.getElem?_eq_getElem hn) (hasm _ (List.getElem_mem hn))
  have hmeasure : q.measureLine = q := if_pos hx
  rw [State.inputLineEnd_eq hp hfull, hturns _ le_rfl, State.measureLine, hp]
  dsimp only
  rw [hmeasure, ← hp, State.setPort_self]

end Line

/-! ### The start of an input frame -/

/-- The state in which the streams of a port begin their frames: q is the port at the end of the last line. Its geometry is
new, its streams are settled, and the entries of those suspended are gone (R45, R76, R81). -/
def State.frameSettled (s : State) (p : PortId) (q : InPort) : State :=
  (q.newFrame.purged s p).foldl State.purgeStream (s.setPort p (.input (q.newFrame.settled s)))

/-- A stream is settled to RUNNING in RUN alone (R81). -/
theorem settledState_running {node : NodeState} {geometry : Option Size} {demand : Bool} {w : Window}
    (h : settledState node geometry demand w = .running) : node = .run := by
  unfold settledState at h
  split_ifs at h with hoff _ hquiet _
  cases node <;> simp_all [NodeState.full]

/-- The state to which a full station settles a stream of a port that has measured n lines (R76, R81, R82). -/
theorem settledState_measured {node : NodeState} (hfull : node.full = true) (n : Nat) (size : Size) (demand : Bool)
    (w : Window) : settledState node (if 1 ≤ n then some size else none) demand w =
      if w.enabled = false ∨ n = 0 then .idle
      else if node ≠ .run then .suspended
      else if w.shed = true ∧ demand = true then .suspended
      else .running := by
  have hnone : (if 1 ≤ n then some size else none) = none ↔ n = 0 := by simp
  rw [settledState_full hfull]
  simp only [hnone]

theorem InPort.settled_getElem? {s : State} {q : InPort} {i : Nat} {k : Stream} (hk : (q.settled s).streams[i]? = some k) :
    ∃ x, q.streams[i]? = some x ∧ k = x.moveTo (settledState s.node.state q.geometry s.view.demand x.win) := by
  simp only [InPort.settled, List.getElem?_map, Option.map_eq_some_iff] at hk
  obtain ⟨x, hx, rfl⟩ := hk
  exact ⟨x, hx, rfl⟩

@[simp] theorem Stream.moveTo_win (st : StreamState) (k : Stream) : (k.moveTo st).win = k.win := by
  unfold Stream.moveTo; split_ifs <;> rfl

section Frame

variable {s : State} {p : PortId} {q : InPort}

theorem State.frameSettled_eq (hp : s.port p = .input q) : (s.newFrame p).settlePort p = s.frameSettled p q := by
  have hnew : s.newFrame p = s.setPort p (.input q.newFrame) := by rw [State.newFrame, hp]
  rw [hnew, State.settlePort_eq (State.setPort_port _ _ _), State.setPort_setPort]
  simp only [State.frameSettled, InPort.purged, InPort.settled, State.setPort_node, State.setPort_view]

theorem State.frameSettled_port (s : State) (p : PortId) (q : InPort) :
    (s.frameSettled p q).port p = .input (q.newFrame.settled s) := by
  rw [State.frameSettled, purgeStreams_port, State.setPort_port]

/-- What settling the streams for a new frame leaves of the scheduler and of the rest. -/
theorem State.frameSettled_sched (s : State) (p : PortId) (q : InPort) :
    let u := s.frameSettled p q
    u = { s.setPort p (.input (q.newFrame.settled s)) with sched := u.sched, store := u.store } ∧
      u.sched = { s.sched with
        safeQ := s.sched.safeQ.filter (fun e => decide (e.index ∉ q.newFrame.purged s p))
        normalQ := s.sched.normalQ.filter (fun e => decide (e.index ∉ q.newFrame.purged s p)), starved := u.sched.starved } ∧
      (u.sched.starved = true → s.sched.starved = true) := by
  intro u
  have hu := purgeStreams_eq (q.newFrame.purged s p) (s.setPort p (.input (q.newFrame.settled s)))
  obtain ⟨-, -, -, -, -, -, hstarved, -⟩ :=
    purgeStreams_sched (q.newFrame.purged s p) (s.setPort p (.input (q.newFrame.settled s)))
  have hsched := congrArg State.sched hu
  rw [State.setPort_sched] at hstarved hsched
  refine ⟨?_, hsched, hstarved⟩
  change u.sched = _ at hsched
  rw [hsched, ← s.setPort_sched p (.input (q.newFrame.settled s))]
  exact hu

/-- The slots held when the streams are settled for a new frame (R45, R89). -/
theorem State.mem_frameSettled_store {x : SendSlot} : x ∈ (s.frameSettled p q).store ↔ x ∈ s.store ∧
    ∀ e, e ∈ s.sched.safeQ ∨ e ∈ s.sched.normalQ → e.index ∈ q.newFrame.purged s p → e.isMark = true ∨ e.slot ≠ x.slot := by
  rw [State.frameSettled, purgeStreams_store, State.setPort_store, State.setPort_sched]

/-- Where no stream is suspended, no entry and no slot goes. -/
theorem State.frameSettled_kept (h : q.newFrame.purged s p = []) :
    (s.frameSettled p q).sched = s.sched ∧ (s.frameSettled p q).store = s.store := by
  rw [State.frameSettled, h, List.foldl_nil, State.setPort_sched, State.setPort_store]
  exact ⟨rfl, rfl⟩

/-- The port as the turns of its windows at a frame start leave it. -/
theorem State.frameStream_turns (hp : s.port p = .input q) (n : Nat) (hn : n ≤ q.streams.length) :
    ∃ v, (s.turns (State.frameStream p) n).port p = .input v ∧ q.Turned Stream.Begun n v :=
  State.turns_port hp (fun hv _ hk => State.frameStream_port hv hk) n hn

/-- One window's turn at a frame start (R84). -/
theorem State.frameStream_turn (s : State) (p : PortId) (q : InPort) {i : Nat} {k : Stream}
    (hk : (q.newFrame.settled s).streams[i]? = some k) :
    let u := (s.frameSettled p q).turns (State.frameStream p)
    ∃ w, (u i).port p = .input w ∧ w.streams[i]? = some k ∧ w.geometry = q.newFrame.geometry ∧
      w.counter = q.newFrame.counter ∧ (u i).FrameBegun p w i k (u (i + 1)) := by
  intro u
  obtain ⟨w, hw, hrest, hwk⟩ := State.turns_found (State.frameStream_turns (s.frameSettled_port p q)) hk
  have hnode : (u i).node = s.node := by
    rw [State.turns_frame State.node (fun s i => s.frameStream_node p i), (s.frameSettled_sched p q).1]
    exact s.setPort_node p _
  have hsucc : u (i + 1) = State.frameStream p (u i) i := State.turns_succ _ _ _
  refine ⟨w, hw, hwk, by rw [hrest]; rfl, by rw [hrest]; rfl, ?_⟩
  rw [hsucc]
  refine State.frameStream_begun (u i) p w i k hw hwk (fun hrunning => ?_)
  obtain ⟨x, -, rfl⟩ := InPort.settled_getElem? hk
  rw [Stream.moveTo_state] at hrunning
  rw [hnode]
  exact settledState_running hrunning

variable (hp : s.port p = .input q) (hfull : s.node.state.full = true)
include hp hfull

/-- An input frame start: the line ends, the streams are settled, and each begins its frame in turn. -/
theorem State.inputFrameStart_eq {v : InPort} (hv : (s.inputLineEnd p).port p = .input v) : s.inputFrameStart p =
    ((s.inputLineEnd p).frameSettled p v).turns (State.frameStream p) q.streams.length := by
  rw [← State.frameSettled_eq hv]
  simp [State.inputFrameStart, hp, hfull, State.turns]

/-- A frame start after the end of its line is the frame start of that line (R85). -/
theorem State.inputFrameStart_ended : (s.inputLineEnd p).inputFrameStart p = s.inputFrameStart p := by
  obtain ⟨v, hv, hended⟩ := State.inputLineEnd_port hp hfull
  have hfull' : (s.inputLineEnd p).node.state.full = true := by rw [State.inputLineEnd_node, hfull]
  have hidle := State.inputLineEnd_idle hv hfull' hended.x hended.asm
  rw [State.inputFrameStart_eq hv hfull' (hidle.symm ▸ hv), hidle, State.inputFrameStart_eq hp hfull hv, hended.length]

/-- The port after an input frame start: the measurement is its geometry, and its streams have begun their frames. -/
theorem State.inputFrameStart_port : ∃ q', (s.inputFrameStart p).port p = .input q' ∧
    q' = { q.measureLine.newFrame with streams := q'.streams } ∧ q'.streams.length = q.streams.length ∧
    ∀ (i : Nat) (k : Stream), q.streams[i]? = some k → ∃ k', q'.streams[i]? = some k' ∧ k'.win = k.win ∧ k'.asm = [] ∧
      k'.state = settledState s.node.state q.measureLine.newFrame.geometry s.view.demand k.win ∧
      (k'.state ≠ .running → k'.frame = none) := by
  obtain ⟨v, hv, hended⟩ := State.inputLineEnd_port hp hfull
  have hlength : (v.newFrame.settled (s.inputLineEnd p)).streams.length = q.streams.length :=
    (List.length_map _).trans hended.length
  obtain ⟨q', hq', ht⟩ := State.frameStream_turns ((s.inputLineEnd p).frameSettled_port p v) _ hlength.ge
  have hgeometry : v.newFrame.geometry = q.measureLine.newFrame.geometry := by rw [hended.rest]; rfl
  refine ⟨q', by rw [State.inputFrameStart_eq hp hfull hv, hq'], ht.rest.trans ?_, ht.length.trans hlength,
    fun i k hk => ?_⟩
  · rw [hended.rest]; rfl
  · obtain ⟨x, hx, drop, lost, rfl⟩ := hended.streams i k hk
    obtain ⟨k', hk', hbegun⟩ := ht.done i _ (List.getElem?_eq_some_iff.mp hk).1
      (by rw [InPort.settled, List.getElem?_map]; exact congrArg _ hx)
    have hstate := hbegun.state.trans (Stream.moveTo_state _ _)
    rw [State.inputLineEnd_node, State.inputLineEnd_view, hgeometry] at hstate
    exact ⟨k', hk', hbegun.win.trans (Stream.moveTo_win _ _), hbegun.asm, hstate,
      fun h => hbegun.closed (hbegun.state ▸ h)⟩

theorem State.inputFrameStart_credit : (s.inputFrameStart p).sched.credit = s.sched.credit := by
  obtain ⟨v, hv, -⟩ := State.inputLineEnd_port hp hfull
  rw [State.inputFrameStart_eq hp hfull hv,
    State.turns_frame (fun s => s.sched.credit) (fun s i => s.frameStream_credit p i),
    ((s.inputLineEnd p).frameSettled_sched p v).2.1]
  exact State.inputLineEnd_credit hp hfull

end Frame

/-- Settles O43: the end of an input line, and the frame start that ends the line just so, settles the streams and begins
their frames in turn. -/
theorem inputFrameStarts : Obligations.InputFrameStarts := by
  intro s p q hrun hstate hp hsilent lines width
  have hfull : s.node.state.full = true := (NodeState.full_iff _).mpr hstate
  have hend := exec_inputLineEnd hrun hp hsilent
  have hstart := exec_inputFrameStart hrun hp hsilent
  have hmeasure : q.measureLine = { q with lines := lines, maxW := width, x := 0 } := q.measureLine_eq
  obtain ⟨v, hv, hended⟩ := State.inputLineEnd_port hp hfull
  have hrest : v = { q with lines := lines, maxW := width, x := 0, streams := v.streams } :=
    hended.rest.trans (by rw [hmeasure])
  refine ⟨⟨_, v, hend, hv, by rw [hrest], by rw [hrest], by rw [hrest], by rw [hrest], by rw [hrest], by rw [hrest],
    hended.length, hended.asm, State.inputLineEnd_link .., State.inputLineEnd_node .., State.inputLineEnd_view ..,
    State.inputLineEnd_svc .., State.inputLineEnd_credit hp hfull⟩, fun hnode => ?_, fun t ht => ?_, ?_, ?_⟩
  · obtain ⟨w, hw, ht, hline⟩ := State.inputLineEnd_ends hp hfull
    have hmeasured : w.measureLine = { w with lines := lines, maxW := width, x := 0 } := by
      rw [InPort.measureLine_eq, ht.rest]
    exact ⟨_, _, w, hend, rfl, fun i k hk => State.endWindowLine_turn hp hnode hk, hw, by rw [hline, hmeasured]⟩
  · obtain rfl : t = s.inputLineEnd p := by rw [hend] at ht; cases ht; rfl
    have hrun' : (s.inputLineEnd p).running := (congrArg Node.held (s.inputLineEnd_node p)).trans hrun
    have hsilent' : v.silence ≠ some 0 := by rw [hrest]; exact hsilent
    rw [hstart, exec_inputFrameStart hrun' hv hsilent', State.inputFrameStart_ended hp hfull]
  · obtain ⟨q', hq', hrest', hlength, hstreams⟩ := State.inputFrameStart_port hp hfull
    rw [hmeasure] at hrest' hstreams
    refine ⟨_, q', hstart, hq', congrArg InPort.geometry hrest', congrArg InPort.lines hrest', congrArg InPort.x hrest',
      congrArg InPort.maxW hrest', congrArg InPort.counter hrest', congrArg InPort.measuring hrest',
      congrArg InPort.silence hrest', hlength, State.inputFrameStart_link ..,
      State.inputFrameStart_node .., State.inputFrameStart_view .., State.inputFrameStart_svc ..,
      State.inputFrameStart_credit hp hfull, fun i k hk => ?_⟩
    obtain ⟨k', hk', hwin, hasm, hsettled, hclosed⟩ := hstreams i k hk
    exact ⟨k', hk', hwin, hasm, hsettled.trans (settledState_measured hfull _ _ _ _), hclosed⟩
  · refine ⟨s.inputLineEnd p, _, v, v.newFrame.settled (s.inputLineEnd p),
      ((s.inputLineEnd p).frameSettled p v).turns (State.frameStream p), hend, hstart, hv, hended.length, ?_⟩
    intro geometry goal suspends leaves
    have hgeometry : v.newFrame.geometry = geometry := by rw [hrest]; rfl
    have hgoal : ∀ k : Stream, settledState (s.inputLineEnd p).node.state v.newFrame.geometry
        (s.inputLineEnd p).view.demand k.win = goal k := fun k => by
      rw [hgeometry, State.inputLineEnd_node, State.inputLineEnd_view]
      exact settledState_measured hfull _ _ _ _
    have hleaves : ∀ e : PicEntry, e.index ∈ v.newFrame.purged (s.inputLineEnd p) p ↔ leaves e := fun e => by
      simp only [InPort.mem_purged, hgoal]
      exact ⟨fun ⟨i, k, hk, hwas, his, he⟩ => ⟨i, ⟨k, hk, hwas, his⟩, he⟩,
        fun ⟨i, ⟨k, hk, hwas, his⟩, he⟩ => ⟨i, k, hk, hwas, his, he⟩⟩
    obtain ⟨hstate0, hsched0, hstarved0⟩ := (s.inputLineEnd p).frameSettled_sched p v
    refine ⟨?_, hstate0, ?_, hstarved0, fun hnone => State.frameSettled_kept ?_, ?_, fun x => ?_, fun i k hk => ?_,
      State.inputFrameStart_eq hp hfull hv⟩
    · have hnew : v.newFrame = { v with
          geometry := geometry, lines := 0, x := 0, maxW := 0, counter := q.counter + 1, measuring := true
          silence := some 100000 } := by rw [hrest]; rfl
      simp only [InPort.settled, hgoal, Stream.moveTo]
      rw [hnew]
    · rw [State.turns_zero, hsched0]
    · refine List.eq_nil_iff_forall_not_mem.mpr fun n hn => ?_
      obtain ⟨i, k, hk, hwas, his, -⟩ := InPort.mem_purged.mp hn
      exact hnone i ⟨k, hk, hwas, (hgoal k).symm.trans his⟩
    · exact ⟨_, fun e => decide_eq_true_iff.trans (not_congr (hleaves e)), congrArg Scheduler.safeQ hsched0,
        congrArg Scheduler.normalQ hsched0⟩
    · simp only [← hleaves]
      exact State.mem_frameSettled_store
    · obtain ⟨w, hw, hwk, hwg, hwc, hbegun⟩ := State.frameStream_turn (s.inputLineEnd p) p v hk
      exact ⟨w, hw, hwk, hwg.trans hgeometry, hwc.trans (by rw [hrest]; rfl), hbegun⟩

end Sys2Proof.Machine
end

section
/-! PROOFS. The loss of a record's source by three silent frames, with what it brings to the Frame Lock and to the camera picture of
the port, and the end of a holdover (R108, R109, R119, R130, R156, R160). -/

namespace Sys2Proof.Machine

/-! ### The Frame Lock and the camera picture -/

/-- Out of TRACK a loss of source leaves the Frame Lock (R119). -/
theorem FrameLock.onLoss_of_ne_track {l : FrameLock} (h : l.state ≠ .track) : l.onLoss = l := by
  unfold FrameLock.onLoss
  cases hl : l.state with
  | track => exact absurd hl h
  | free => rfl
  | acquire => rfl
  | holdover => rfl

/-- The causes of a loss of source assert FAULT where the camera picture goes with it, and leave it elsewhere (R156, R160). -/
theorem State.raise_loseSource_fault (s : State) (role : Role) (o : OutPort) :
    (s.raise (o.loseSource role).2).fault = (s.fault || o.showsBy role) := by
  rw [OutPort.loseSource_eq, State.raise_or, State.fault, State.isPending_raise_ne (by decide), State.isPending_raise_when]
  rfl

/-! ### The commands -/

section Commands

variable {s : State} {p : PortId} {o : OutPort}

/-- Three silent frames of a record take its source (R108, R109, R156): the port is as the loss of the record's source leaves it,
SOURCE_LOST is pending, and the camera is late where its picture was that of the record. -/
theorem exec_silentFramesLost {role : Role} {k : Sink} (hrun : s.running) (hp : s.port p = .output o)
    (hk : o.sink role = some k) (hsilent : 3 ≤ k.silent) :
    ∃ t, exec (.silentFramesLost p role) s = .next t ∧ t.port p = .output (o.loseSource role).1 ∧
      t.isPending .sourceLost = true ∧
      (o.showsBy role = true →
        (o.loseSource role).1.cam = { o.cam with state := .late } ∧ t.isPending .cameraLate = true ∧ t.fault = true) ∧
      (¬o.showsBy role = true → (o.loseSource role).1.cam = o.cam ∧ t.fault = s.fault) ∧
      t.link = s.link ∧ t.sched = s.sched ∧ t.view = s.view ∧ t.node = s.node := by
  have hexec : exec (.silentFramesLost p role) s = .next (s.onOut p (OutPort.silentLoss role)) :=
    live_running (fun s => s.onOut p (OutPort.silentLoss role)) s hrun
  have hdue : k.silenceDue = true := decide_eq_true hsilent
  have hloss : o.silentLoss role = o.loseSource role := by rw [OutPort.silentLoss_of hk, if_pos hdue]
  have ht := s.onOut_output p o (OutPort.silentLoss role) hp
  rw [hloss] at ht
  have hfault : (s.onOut p (OutPort.silentLoss role)).fault = (s.fault || o.showsBy role) := by
    rw [ht, State.raise_loseSource_fault, State.fault, State.isPending, State.setPort_att]
    rfl
  obtain ⟨-, -, hlost, hlate⟩ := OutPort.loseSource_own hk
  obtain ⟨-, -, -, -, hkept⟩ := o.loseSource_frame role
  refine ⟨_, hexec, ?_, ?_, fun hshows => ?_, fun hshows => ?_, State.onOut_link .., State.onOut_sched ..,
    State.onOut_view .., State.onOut_node ..⟩
  · rw [State.onOut_port _ _ _ _ hp, hloss]
  · rw [ht]; exact State.isPending_raise_isIn hlost
  · obtain ⟨hcam, -⟩ := hlate hshows
    rw [hshows, Bool.or_true] at hfault
    exact ⟨hcam, hfault, hfault⟩
  · have hother : o.showsBy role = false := Bool.eq_false_iff.mpr hshows
    rw [hother, Bool.or_false] at hfault
    exact ⟨hkept hother, hfault⟩

/-- A holdover of HOLD_FRAMES frames ends in FREE (R130). -/
theorem exec_holdoverExpiry (hrun : s.running) (hp : s.port p = .output o) (hout : o.lock.runOut o.cfg = true) :
    exec (.holdoverExpiry p) s = .next (s.setPort p (.output { o with lock := o.lock.enterFree o.cfg })) := by
  have hexec : exec (.holdoverExpiry p) s = .next (s.onOut p OutPort.holdoverEnd) :=
    live_running (fun s => s.onOut p OutPort.holdoverEnd) s hrun
  have hend : o.holdoverEnd = ({ o with lock := o.lock.enterFree o.cfg }, noCause) := if_pos hout
  rw [hexec, s.onOut_output p o _ hp, hend, State.raise_noCause]

end Commands

/-- Settles O48: the loss of source by silence at a MAIN and at an OVERLAY record, and the end of a holdover. -/
theorem silenceLosesSource : Obligations.SilenceLosesSource := by
  refine ⟨fun s p o hrun hp hsilent => ?_, fun s p o k hrun hp hk hsilent => ?_, fun s p o hrun hp hstate hcount => ?_⟩
  · obtain ⟨t, hexec, hport, hlost, hlate, hkept, hframe⟩ :=
      exec_silentFramesLost (role := .main) hrun hp rfl hsilent
    obtain ⟨-, hpres, hother, -⟩ := o.loseSource_frame .main
    obtain ⟨hsink, hlock, -⟩ := OutPort.loseSource_own (role := .main) (o := o) rfl
    have hmain : (o.loseSource .main).1.main = o.main.lose := Option.some.inj hsink
    have hshows : o.showsBy .main = true ↔ o.cfg.camMode = .full ∧ o.cam.state = .showing ∧ o.lock.state = .track := by
      simp [OutPort.showsBy_iff, and_left_comm]
    rw [hshows] at hlate hkept
    refine ⟨t, _, hexec, hport, congrArg Sink.source hmain, congrArg Sink.silent hmain, congrArg Sink.cur hmain,
      congrArg Sink.queue hmain, (congrArg Sink.active hmain :), congrArg Sink.tornCount hmain, hother .overlay (by decide), hpres,
      hlost, fun htrack => ?_, fun huntracked => (hlock rfl).trans (FrameLock.onLoss_of_ne_track huntracked), ⟨hlate, hkept⟩,
      hframe⟩
    rw [hlock rfl, FrameLock.onLoss, htrack]
    exact ⟨rfl, rfl, rfl, rfl, rfl⟩
  · obtain ⟨t, hexec, hport, hlost, hlate, hkept, hframe⟩ :=
      exec_silentFramesLost (role := .overlay) hrun hp hk hsilent
    obtain ⟨-, hpres, hother, hlock, -⟩ := o.loseSource_frame .overlay
    obtain ⟨hsink, -⟩ := OutPort.loseSource_own (role := .overlay) hk
    have hshows : o.showsBy .overlay = true ↔ o.cfg.camMode = .inset ∧ o.cam.state = .showing := by
      simp [OutPort.showsBy_iff, and_comm]
    rw [hshows] at hlate hkept
    exact ⟨t, _, k.lose, hexec, hport, hsink, rfl, rfl, rfl, rfl, rfl, Option.some.inj (hother .main (by decide)), hlock rfl,
      hpres, hlost, ⟨hlate, hkept⟩, hframe⟩
  · have hout : o.lock.runOut o.cfg = true := by simp [FrameLock.runOut, hstate, hcount]
    exact ⟨_, exec_holdoverExpiry hrun hp hout, rfl⟩

end Sys2Proof.Machine
end

section
/-! PROOFS. The computation of the Frame Lock and its lock judgement (R115, R124 to R126). -/

namespace Sys2Proof.Machine

/-! ### The computation -/

/-- A value clamped to a range lies in it. -/
theorem clampInt_mem {lo hi : Int} (h : lo ≤ hi) (v : Int) : lo ≤ clampInt lo hi v ∧ clampInt lo hi v ≤ hi := by
  unfold clampInt; omega

/-- INC_nom within its range, where the frame-lock parameters are admitted (R115). -/
theorem OutCfg.incNom_of_lockOk {c : OutCfg} (h : c.lockOk = true) :
    268435456 ≤ c.incNom ∧ c.incNom ≤ 2147483647 := by
  simp [OutCfg.lockOk, within] at h
  omega

/-- DEV is no more than INC_nom (R115). -/
theorem OutCfg.dev_le (c : OutCfg) : c.dev ≤ c.incNom := Nat.div_le_self _ _

/-- INC_nom fits the register. -/
theorem OutCfg.incWord_toNat {c : OutCfg} (h : c.lockOk = true) : c.incWord.toNat = c.incNom := by
  obtain ⟨-, hhi⟩ := OutCfg.incNom_of_lockOk h
  rw [OutCfg.incWord, BitVec.toNat_ofNat]
  omega

/-- INC_nom ± DEV fits the register, so the new INC is the clamped value (R125). -/
theorem nextInc_toNat {c : OutCfg} (h : c.lockOk = true) (d : Int) :
    ((nextInc c d).toNat : Int) = clampInt ((c.incNom : Int) - c.dev) ((c.incNom : Int) + c.dev) (c.incNom + d) := by
  obtain ⟨-, hhi⟩ := OutCfg.incNom_of_lockOk h
  have hdev := c.dev_le
  have hmem := clampInt_mem (lo := (c.incNom : Int) - c.dev) (hi := (c.incNom : Int) + c.dev) (by omega) (c.incNom + d)
  rw [nextInc, BitVec.toNat_ofInt]
  generalize clampInt _ _ _ = v at hmem ⊢
  omega

/-- KI × integ / 64 is rounded toward minus infinity (R125). -/
theorem steering_eq (c : OutCfg) (e i : Int) : steering c e i = (c.kp * e + (c.ki * i).fdiv 64) * 2 ^ c.gx := by
  rw [steering, Int.fdiv_eq_ediv_of_nonneg _ (by decide)]

/-- A computation sets the figures of R124 and R125; the lock judgement leaves them (R126). -/
theorem FrameLock.compute_figures (c : OutCfg) (lead : Nat) (l : FrameLock) :
    let r := (l.compute c lead).1
    let i := nextInteg l.limited l.integ (lockError c lead)
    let d := steering c (lockError c lead) i
    r.lastLead = lead ∧ r.lastError = lockError c lead ∧ r.integ = i ∧ r.inc = nextInc c d ∧
      r.limited = limitedOf c.dev d := by
  unfold FrameLock.compute FrameLock.judge
  split_ifs <;> exact ⟨rfl, rfl, rfl, rfl, rfl⟩

/-! ### The lock judgement -/

section Judge

variable {c : OutCfg} {lead : Nat} {l : FrameLock}

/-- Out of LOCKED the fourth computation in a row within W sets it, and one outside W starts the count anew (R126). -/
theorem FrameLock.compute_unlocked (h : l.locked = false) : l.compute c lead =
    if (lockError c lead).natAbs ≤ c.w then
      if 3 ≤ l.inWin then ({ l.steer c lead with locked := true, inWin := 0 }, Cause.lockAcquired.bit)
      else ({ l.steer c lead with inWin := l.inWin + 1 }, noCause)
    else ({ l.steer c lead with inWin := 0 }, noCause) := by
  simp [FrameLock.compute, FrameLock.judge, FrameLock.steer, inWindow, h]

/-- In LOCKED the second computation in a row outside W clears it, and one within W starts the count anew (R126). -/
theorem FrameLock.compute_locked (h : l.locked = true) : l.compute c lead =
    if (lockError c lead).natAbs ≤ c.w then ({ l.steer c lead with outWin := 0 }, noCause)
    else if 1 ≤ l.outWin then ({ l.steer c lead with locked := false, outWin := 0 }, Cause.lockLost.bit)
    else ({ l.steer c lead with outWin := l.outWin + 1 }, noCause) := by
  simp [FrameLock.compute, FrameLock.judge, FrameLock.steer, inWindow, h]

end Judge

/-- Settles O46: the figures of a computation, then its lock judgement. -/
theorem frameLockComputes : Obligations.FrameLockComputes := by
  refine ⟨fun c l lead hok => ?_, fun c l lead => ?_⟩
  · intro e i d dev r
    obtain ⟨hlead, herror, hinteg, hinc, hlimited⟩ := l.compute_figures c lead
    obtain ⟨hstate, hstretch⟩ := l.compute_frame c lead
    have hd : steering c e i = d := steering_eq c e i
    refine ⟨hlead, herror, hinteg, ?_, ?_, hstate, hstretch⟩
    · rw [← hd]
      exact (congrArg (fun w : Word => (w.toNat : Int)) hinc).trans (nextInc_toNat hok _)
    · rw [← hd]
      exact hlimited
  · intro e r
    refine ⟨fun hunlocked => ?_, fun hlocked => ?_⟩
    · have hr : r = _ := FrameLock.compute_unlocked hunlocked
      refine ⟨fun (hin : (lockError c lead).natAbs ≤ c.w) => ⟨fun hfew => ?_, fun hmany => ?_⟩,
        fun (hout : c.w < (lockError c lead).natAbs) => ?_⟩
      · rw [hr, if_pos hin, if_neg (Nat.not_le.mpr hfew)]
        exact ⟨hunlocked, rfl, rfl⟩
      · rw [hr, if_pos hin, if_pos hmany]
        exact ⟨rfl, rfl, rfl⟩
      · rw [hr, if_neg (Nat.not_le.mpr hout)]
        exact ⟨hunlocked, rfl, rfl⟩
    · have hr : r = _ := FrameLock.compute_locked hlocked
      refine ⟨fun (hin : (lockError c lead).natAbs ≤ c.w) => ?_,
        fun (hout : c.w < (lockError c lead).natAbs) => ⟨fun hfirst => ?_, fun hsecond => ?_⟩⟩
      · rw [hr, if_pos hin]
        exact ⟨hlocked, rfl, rfl⟩
      · rw [hr, if_neg (Nat.not_le.mpr hout), if_neg (by omega)]
        exact ⟨hlocked, congrArg (· + 1) hfirst, rfl⟩
      · rw [hr, if_neg (Nat.not_le.mpr hout), if_pos hsecond]
        exact ⟨rfl, rfl, rfl⟩

end Sys2Proof.Machine
end

section
/-! PROOFS. The range of INC and of the integrator through every operation on a Frame Lock and on an output port (R115, R116,
R124). -/

namespace Sys2Proof.Machine

/-! ### The Frame Lock -/

/-- The integrator's range (R124). -/
def IntegWithin (i : Int) : Prop := -1048576 ≤ i ∧ i ≤ 1048575

theorem IntegWithin.zero : IntegWithin 0 := ⟨by decide, by decide⟩

/-- The anti-windup keeps the integrator, and the clamped sum lies in its range (R124). -/
theorem IntegWithin.next {i : Int} (h : IntegWithin i) (limited : Limited) (e : Int) : IntegWithin (nextInteg limited i e) := by
  unfold nextInteg
  split_ifs
  · exact h
  · exact clampInt_mem (by decide) _

section FrameLock

variable {c : OutCfg} {l : FrameLock}

theorem FrameLock.Steady.integ (h : l.Steady c) : IntegWithin l.integ := ⟨h.integLow, h.integHigh⟩

/-- A Frame Lock with the INC and integrator of a steady one. -/
theorem FrameLock.Steady.same {l' : FrameLock} (h : l.Steady c) (hinc : l'.inc = l.inc) (hinteg : l'.integ = l.integ) :
    l'.Steady c :=
  ⟨hinc ▸ h.low, hinc ▸ h.high, hinteg ▸ h.integLow, hinteg ▸ h.integHigh⟩

variable (hok : c.lockOk = true)
include hok

/-- A Frame Lock at INC_nom (R116). -/
theorem FrameLock.steady_of_nominal (hinc : l.inc = c.incWord) (hinteg : IntegWithin l.integ) : l.Steady c := by
  obtain ⟨hlow, hhigh⟩ := hinteg
  refine ⟨?_, ?_, hlow, hhigh⟩ <;> rw [hinc, OutCfg.incWord_toNat hok] <;> omega

theorem FrameLock.enterFree_steady : (l.enterFree c).Steady c := FrameLock.steady_of_nominal hok rfl .zero

theorem FrameLock.enterAcquire_steady {i : Int} (hi : IntegWithin i) : (l.enterAcquire c i).Steady c :=
  FrameLock.steady_of_nominal hok rfl hi

theorem FrameLock.freeOrAcquire_steady (sub : Option StreamId) : (l.freeOrAcquire c sub).Steady c := by
  cases sub with
  | none => exact FrameLock.enterFree_steady hok
  | some x => exact FrameLock.enterAcquire_steady hok .zero

theorem FrameLock.restart_steady (sub : Option StreamId) : (l.restart c sub).Steady c :=
  (FrameLock.freeOrAcquire_steady hok sub).same rfl rfl

theorem FrameLock.Steady.onSubscribe (h : l.Steady c) (direct : Bool) (sub : Option StreamId) :
    (l.onSubscribe c direct sub).Steady c := by
  cases sub with
  | none => exact FrameLock.enterFree_steady hok
  | some x =>
    refine FrameLock.enterAcquire_steady hok ?_
    unfold FrameLock.keptInteg
    split_ifs
    · exact .zero
    · exact h.integ
    · exact .zero

theorem FrameLock.Steady.onMarker (h : l.Steady c) (sub : Option StreamId) : (l.onMarker c sub).Steady c := by
  unfold FrameLock.onMarker
  cases l.state with
  | free =>
    dsimp only
    split_ifs
    · exact FrameLock.enterAcquire_steady hok .zero
    · exact h
  | holdover => exact FrameLock.enterAcquire_steady hok h.integ
  | acquire => exact h
  | track => exact h

/-- A computation clamps INC to INC_nom ± DEV and the integrator to its range (R124, R125). -/
theorem FrameLock.Steady.compute (h : l.Steady c) (lead : Nat) : (l.compute c lead).1.Steady c := by
  obtain ⟨-, -, hinteg, hinc, -⟩ := l.compute_figures c lead
  have hword := nextInc_toNat hok (steering c (lockError c lead) (nextInteg l.limited l.integ (lockError c lead)))
  have hmem := clampInt_mem (lo := (c.incNom : Int) - c.dev) (hi := (c.incNom : Int) + c.dev) (by omega)
    (c.incNom + steering c (lockError c lead) (nextInteg l.limited l.integ (lockError c lead)))
  obtain ⟨hlow, hhigh⟩ := h.integ.next l.limited (lockError c lead)
  rw [← hword, ← hinc] at hmem
  exact ⟨hmem.1, hmem.2, hinteg ▸ hlow, hinteg ▸ hhigh⟩

omit hok in
/-- The loss of the source keeps INC and the integrator (R119). -/
theorem FrameLock.Steady.onLoss (h : l.Steady c) : l.onLoss.Steady c := by
  unfold FrameLock.onLoss
  cases l.state with
  | track => exact h.same rfl rfl
  | free => exact h
  | acquire => exact h
  | holdover => exact h

end FrameLock

/-! ### The output port -/

section OutPort

variable {o : OutPort} (h : o.Steady)
include h

/-- A port with the configuration of a steady one and a steady Frame Lock. -/
theorem OutPort.Steady.withLock {o' : OutPort} (hcfg : o'.cfg = o.cfg) (hlock : o'.lock.Steady o.cfg) : o'.Steady :=
  ⟨hcfg ▸ h.checked, hcfg ▸ hlock⟩

/-- A port with the configuration and the Frame Lock of a steady one. -/
theorem OutPort.Steady.same {o' : OutPort} (hcfg : o'.cfg = o.cfg) (hlock : o'.lock = o.lock) : o'.Steady :=
  h.withLock hcfg (hlock ▸ h.lock)

theorem OutPort.Steady.mapSink (role : Role) (f : Sink → Sink) : (o.mapSink role f).Steady :=
  h.same (o.mapSink_cfg role f) (o.mapSink_lock role f)

theorem OutPort.Steady.compute (lead : Nat) : (o.compute lead).1.Steady := h.withLock rfl (h.lock.compute h.checked lead)

theorem OutPort.Steady.endStretch (added : Nat) : (o.endStretch added).Steady := h.withLock rfl (h.lock.same rfl rfl)

theorem OutPort.Steady.beginStretch : o.beginStretch.Steady := h.withLock rfl (h.lock.same rfl rfl)

theorem OutPort.Steady.acquireTrack (lead : Nat) : (o.acquireTrack lead).1.Steady :=
  OutPort.Steady.compute (h.withLock (o' := { o with lock := o.lock.enterTrack }) rfl (h.lock.same rfl rfl)) lead

theorem OutPort.Steady.loseSource (role : Role) : (o.loseSource role).1.Steady := by
  rw [OutPort.loseSource_eq]
  refine h.withLock (o.mapSink_cfg role _) ?_
  dsimp only
  split_ifs
  · exact h.lock.onLoss
  · exact h.lock

theorem OutPort.Steady.judgeSource (t : List TableEntry) (role : Role) : (o.judgeSource t role).1.Steady := by
  unfold OutPort.judgeSource
  split
  · exact h
  · split
    · dsimp only
      exact h.mapSink role _
    · split_ifs
      · exact h
      · exact h.loseSource role
    · exact h

theorem OutPort.Steady.tableReport1 (t : List TableEntry) (st : StationNo) (role : Role) :
    (o.tableReport1 t st role).1.Steady := by
  unfold OutPort.tableReport1
  split
  · exact h
  · exact (h.mapSink role _).judgeSource t role

theorem OutPort.Steady.tableReport (t : List TableEntry) (st : StationNo) : (o.tableReport t st).1.Steady :=
  (h.tableReport1 t st .main).tableReport1 t st .overlay

theorem OutPort.Steady.subscribe (t : List TableEntry) (direct : Bool) (role : Role) (sub : Option StreamId) :
    (o.subscribe t direct role sub).1.Steady := by
  cases role with
  | main =>
    unfold OutPort.subscribe; dsimp only
    split_ifs
    · exact h
    · exact h.withLock rfl (h.lock.onSubscribe h.checked direct sub)
  | overlay =>
    unfold OutPort.subscribe; dsimp only
    split
    · exact h
    · split_ifs
      · exact h
      · exact h.same rfl rfl

theorem OutPort.Steady.marker (t : List TableEntry) (stream : StreamId) (f : FrameInfo) (role : Role) :
    (o.marker t stream f role).1.Steady := by
  cases hk : o.sink role with
  | none => rw [OutPort.marker_none hk]; exact h
  | some k =>
    rw [OutPort.marker_some hk]
    refine h.withLock (o.mapSink_cfg role _) ?_
    dsimp only
    split_ifs
    · exact h.lock.onMarker h.checked _
    · exact h.lock

theorem OutPort.Steady.offerLine (stream : StreamId) (frame : Half) (line width : Nat) (fmt : RingFormat) (role : Role) :
    (o.offerLine stream frame line width fmt role).1.Steady := by
  unfold OutPort.offerLine
  split
  · exact h
  · split_ifs
    · dsimp only
      exact h.mapSink role _
    · exact h

theorem OutPort.Steady.takeOver (t : List TableEntry) (role : Role) : (o.takeOver t role).1.Steady := by
  unfold OutPort.takeOver
  split
  · exact h
  · split
    · exact h
    · dsimp only
      exact (h.subscribe t false role _).mapSink role _

/-- The Frame Lock consulted at an output frame start (R120, R127, R130). -/
theorem OutPort.Steady.consult : o.consult.1.Steady := by
  have hnone := h.endStretch 0
  unfold OutPort.consult
  cases o.lock.state with
  | free => exact hnone
  | holdover => exact hnone.withLock rfl (hnone.lock.same rfl rfl)
  | acquire =>
    dsimp only
    split_ifs
    · exact hnone.acquireTrack _
    · exact h.beginStretch
  | track =>
    dsimp only
    split_ifs
    · exact hnone
    · exact h.beginStretch
    · exact hnone.compute _

theorem OutPort.Steady.frameStart (t : List TableEntry) : (o.frameStart t).1.Steady := by
  have htaken := (h.takeOver t .main).takeOver t .overlay
  unfold OutPort.frameStart
  exact OutPort.Steady.consult (htaken.same rfl rfl)

/-- The end of an added line that is judged (R121, R123, R127). -/
theorem OutPort.Steady.judgeAdded (added : Nat) : (o.judgeAdded added).1.Steady := by
  have hretaken : ({ o with main := o.main.retake } : OutPort).Steady := h.same rfl rfl
  have hended := hretaken.endStretch added
  unfold OutPort.judgeAdded; dsimp only
  split_ifs
  · cases o.lock.state with
    | acquire => exact hended.acquireTrack _
    | track => exact hended.compute _
    | free => exact hended
    | holdover => exact hended
  · exact hretaken.withLock rfl (hretaken.lock.same rfl rfl)

theorem OutPort.Steady.addedLineEnd : o.addedLineEnd.1.Steady := by
  have hpassed : o.passLine.Steady := h.same rfl rfl
  have hcut (added : Nat) : (o.passLine.endCut added).Steady := hpassed.withLock rfl (hpassed.lock.same rfl rfl)
  unfold OutPort.addedLineEnd
  split_ifs
  · unfold OutPort.afterAdded
    split
    · split_ifs
      · exact hcut _
      · exact hpassed.endStretch _
    · split_ifs
      · exact hcut _
      · exact hpassed.endStretch _
      · exact hpassed.judgeAdded _
  · exact h

/-! ### What falls due on the port -/

theorem OutPort.Steady.silentLoss (role : Role) : (o.silentLoss role).1.Steady := by
  unfold OutPort.silentLoss
  split
  · exact h
  · split_ifs
    · exact h.loseSource role
    · exact h

theorem OutPort.Steady.holdoverEnd : o.holdoverEnd.1.Steady := by
  unfold OutPort.holdoverEnd
  split_ifs
  · exact h.withLock rfl (FrameLock.enterFree_steady h.checked)
  · exact h

theorem OutPort.Steady.holdGiveUp : o.holdGiveUp.1.Steady := by
  unfold OutPort.holdGiveUp
  split_ifs
  · exact (h.endStretch _).same rfl rfl
  · exact h

theorem OutPort.Steady.stretchEnd : o.stretchEnd.1.Steady := by
  unfold OutPort.stretchEnd
  split_ifs
  · exact (h.endStretch _).compute 0
  · exact h

theorem OutPort.Steady.settle : o.settle.1.Steady :=
  (((h.silentLoss .main).silentLoss .overlay).holdoverEnd.holdGiveUp).stretchEnd

/-- An event that comes after what was due on the port (log 2). -/
theorem OutPort.Steady.dueFirst (f : OutPort → OutPort × Half) (hf : ∀ o : OutPort, o.Steady → (f o).1.Steady) :
    (o.dueFirst f).1.Steady :=
  hf _ h.settle

/-! ### Lines, node events and Camera Priority -/

theorem OutPort.Steady.activeLine : o.activeLine.Steady := by
  unfold OutPort.activeLine
  by_cases hready : o.lineReady = true
  · rw [if_pos hready]
    split_ifs <;> exact h.same rfl rfl
  · rw [if_neg hready]
    exact h

theorem OutPort.Steady.cut : o.cut.Steady := by
  rw [o.cut_rest]
  exact h.same rfl rfl

theorem OutPort.Steady.stop : o.stop.Steady := by
  unfold OutPort.stop
  split_ifs
  · exact h.same rfl rfl
  · exact h

theorem OutPort.Steady.standby : o.standby.Steady := h.withLock rfl (FrameLock.enterFree_steady h.checked)

theorem OutPort.Steady.wake (t : List TableEntry) : (o.wake t).1.Steady := by
  unfold OutPort.wake; dsimp only
  split_ifs
  · refine OutPort.Steady.frameStart ?_ t
    exact h.withLock rfl (FrameLock.freeOrAcquire_steady h.checked _)
  · exact h.withLock rfl (FrameLock.freeOrAcquire_steady h.checked _)

theorem OutPort.Steady.restart : o.restart.1.Steady := by
  have hlock := FrameLock.restart_steady (l := o.lock) h.checked (Sink.fresh o.main.cfg).active
  unfold OutPort.restart; dsimp only
  split_ifs
  · refine OutPort.Steady.frameStart ?_ []
    exact h.withLock rfl (hlock.same rfl rfl)
  · exact h.withLock rfl (hlock.same rfl rfl)

theorem OutPort.Steady.engageFull (t : List TableEntry) (now : Word) : (o.engageFull t now).Steady := by
  have hclear : ({ o with main := { o.main with shadow := none } } : OutPort).Steady := h.same rfl rfl
  have hsubscribed := hclear.subscribe t true .main (some o.cfg.camStream)
  unfold OutPort.engageFull; dsimp only
  split_ifs
  · refine OutPort.Steady.same (OutPort.Steady.cut ?_) rfl rfl
    exact hsubscribed.same rfl rfl
  · exact hsubscribed.same rfl rfl

theorem OutPort.Steady.engageInset (t : List TableEntry) (now : Word) : (o.engageInset t now).Steady := by
  unfold OutPort.engageInset
  split
  · exact h
  · have hsubscribed := (h.mapSink .overlay (fun k => { k with shadow := none })).subscribe t true .overlay
      (some o.cfg.camStream)
    exact (hsubscribed.mapSink .overlay (fun k => { k with x := o.cfg.camX, y := o.cfg.camY })).same rfl rfl

theorem OutPort.Steady.engage (t : List TableEntry) (now : Word) : (o.engage t now).1.Steady := by
  unfold OutPort.engage
  split_ifs
  · refine h.dueFirst _ (fun o ho => ?_)
    unfold OutPort.engageMode
    split
    · exact ho
    · exact ho.engageFull t now
    · exact ho.engageInset t now
  · exact h

theorem OutPort.Steady.releaseMode : o.releaseMode.1.Steady := by
  have hwritten (role : Role) (v : Placed) : (o.mapSink role (Sink.writeShadow role v)).toIdle.Steady :=
    (h.mapSink role _).same rfl rfl
  unfold OutPort.releaseMode
  split
  · split_ifs
    · exact h
    · exact hwritten .main _
  · split_ifs
    · exact h
    · exact hwritten .overlay _
  · exact h.same rfl rfl
  · exact h.same rfl rfl
  · exact h

theorem OutPort.Steady.release : o.release.1.Steady := by
  unfold OutPort.release
  split_ifs
  · exact h.dueFirst _ (fun _ ho => ho.releaseMode)
  · exact h

theorem OutPort.Steady.deadlineExpiry (now : Word) : (o.deadlineExpiry now).1.Steady := by
  unfold OutPort.deadlineExpiry
  split_ifs
  · exact h.same rfl rfl
  · exact h

theorem OutPort.Steady.request (m : CameraMode) (role : Role) (v : Placed) : (o.request m role v).Steady := by
  unfold OutPort.request
  split_ifs
  · exact h.same rfl rfl
  · exact h.mapSink role _

/-- A tick moves the accumulator of the Frame Lock alone (R114). -/
theorem OutPort.Steady.runTick : o.runTick.Steady := h.withLock rfl (h.lock.same rfl rfl)

end OutPort

/-! ### The ports an image gives -/

theorem OutCfg.Checked.lockOk {c : OutCfg} (h : c.Checked) : c.lockOk = true := by
  obtain ⟨hkp, hki, hgx⟩ := h.gains
  simpa [OutCfg.lockOk, within, h.t, h.w, hkp, hki, hgx, h.devShift, h.stretch, h.hold] using h.incNom

/-- A port of an accepted image at the entry to RUN: INC_nom and a clear integrator (R131, R176). -/
theorem PortCfg.Checked.port_steady {c : PortCfg} (h : c.Checked) (k : AtRest) : (c.port k).Steady := by
  match c with
  | .unused => exact trivial
  | .input _ _ => exact trivial
  | .output c m v =>
    obtain ⟨hcfg, -⟩ := h
    exact ⟨hcfg.lockOk, (FrameLock.freeOrAcquire_steady hcfg.lockOk m.initSub).same rfl rfl⟩

end Sys2Proof.Machine
end

section
/-! PROOFS. The output ports of a state: what the Source Cutter, the scheduler, the settling of streams and the entry to MUTE
leave of them (R53, R75 to R92). -/

namespace Sys2Proof.Machine

/-! ### The output ports -/

/-- The output port that a pixel port is, if it is one. -/
def Port.outs : Port → List OutPort
  | .output o => [o]
  | .input _ => []
  | .unused _ => []

/-- The output ports of the station, port A first. -/
def State.outs (s : State) : List OutPort := s.portA.outs ++ s.portB.outs

theorem Port.steady_iff (q : Port) : q.Steady ↔ ∀ o ∈ q.outs, o.Steady := by
  cases q <;> simp [Port.Steady, Port.outs]

/-- The bounds of the Frame Locks lie in the output ports alone. -/
theorem State.steady_iff (s : State) : s.Steady ↔ ∀ o ∈ s.outs, o.Steady := by
  simp only [State.outs, List.mem_append, or_imp, forall_and, ← Port.steady_iff]
  exact ⟨fun h => ⟨h.portA, h.portB⟩, fun h => ⟨h.1, h.2⟩⟩

theorem State.setPort_outs {s : State} {p : PortId} {q : Port} (h : q.outs = (s.port p).outs) :
    (s.setPort p q).outs = s.outs := by
  cases p
  · exact congrArg (· ++ s.portB.outs) h
  · exact congrArg (s.portA.outs ++ ·) h

/-- An input port put in the place of one. -/
theorem State.setInput_outs {s : State} {p : PortId} {q : InPort} (q' : InPort) (h : s.port p = .input q) :
    (s.setPort p (.input q')).outs = s.outs :=
  State.setPort_outs (by rw [h]; rfl)

section Kept

variable (s : State)

@[simp] theorem State.raise_outs (m : Half) : (s.raise m).outs = s.outs := rfl

/-! ### Queues and streams -/

@[simp] theorem State.purge_outs (kill : PicEntry → Bool) : (s.purge kill).outs = s.outs := by simp [State.outs]

@[simp] theorem State.append_outs (e : PicEntry) : (s.append e).1.outs = s.outs := by simp [State.outs]

@[simp] theorem State.settlePort_outs (p : PortId) : (s.settlePort p).outs = s.outs := by
  unfold State.settlePort
  split
  · rename_i q hq
    exact (foldl_frame State.outs _ (fun s _ => s.purge_outs _) _ _).trans (State.setInput_outs _ hq)
  · rfl
  · rfl

@[simp] theorem State.settleStreams_outs : s.settleStreams.outs = s.outs := by simp [State.settleStreams]

@[simp] theorem State.setStream_outs (p : PortId) (i : Nat) (k : Stream) : (s.setStream p i k).outs = s.outs := by
  unfold State.setStream
  split
  · rename_i q hq
    exact State.setInput_outs _ hq
  · rfl
  · rfl

@[simp] theorem State.dropLine_outs (p : PortId) (i : Nat) (k : Stream) : (s.dropLine p i k).outs = s.outs := by
  simp [State.dropLine]

@[simp] theorem State.dropMark_outs (p : PortId) (i : Nat) (k : Stream) : (s.dropMark p i k).outs = s.outs := by
  simp [State.dropMark]

/-! ### Pixels, lines and frames of an input port -/

@[simp] theorem State.placeLine_outs (p : PortId) (i y : Nat) (frame : Half) (k : Stream) :
    (s.placeLine p i y frame k).outs = s.outs := by
  unfold State.placeLine; dsimp only
  split_ifs
  · simp
  · split
    · simp
    · split_ifs
      · exact (State.setStream_outs _ _ _ _).trans (s.append_outs _)
      · simp

@[simp] theorem State.cutPixel_outs (p : PortId) (px : Pixel) (i : Nat) : (s.cutPixel p px i).outs = s.outs := by
  unfold State.cutPixel
  split
  · split
    · dsimp only; split_ifs <;> simp
    · rfl
  · rfl
  · rfl

@[simp] theorem State.countPixel_outs (p : PortId) : (s.countPixel p).outs = s.outs := by
  unfold State.countPixel
  split
  · rename_i q hq
    exact State.setInput_outs _ hq
  · rfl
  · rfl

@[simp] theorem State.activePixel_outs (p : PortId) (r g b : Component) : (s.activePixel p r g b).outs = s.outs := by
  unfold State.activePixel
  split
  · split_ifs
    · rw [State.countPixel_outs, foldl_frame State.outs _ (fun s i => s.cutPixel_outs p _ i)]
    · rfl
  · rfl
  · rfl

@[simp] theorem State.endWindowLine_outs (p : PortId) (i : Nat) : (s.endWindowLine p i).outs = s.outs := by
  unfold State.endWindowLine
  split
  · split
    · split_ifs <;> simp
    · rfl
  · rfl
  · rfl

@[simp] theorem State.measureLine_outs (p : PortId) : (s.measureLine p).outs = s.outs := by
  unfold State.measureLine
  split
  · rename_i q hq
    exact State.setInput_outs _ hq
  · rfl
  · rfl

@[simp] theorem State.inputLineEnd_outs (p : PortId) : (s.inputLineEnd p).outs = s.outs := by
  unfold State.inputLineEnd
  split
  · split_ifs
    · rw [State.measureLine_outs, foldl_frame State.outs _ (fun s i => s.endWindowLine_outs p i)]
    · rfl
  · rfl
  · rfl

@[simp] theorem State.openFrame_outs (p : PortId) (i : Nat) (frame : Half) (size : Size) (k : Stream) :
    (s.openFrame p i frame size k).outs = s.outs := by
  unfold State.openFrame; dsimp only
  split_ifs <;> simp

@[simp] theorem State.frameStream_outs (p : PortId) (i : Nat) : (s.frameStream p i).outs = s.outs := by
  unfold State.frameStream
  split
  · split
    · split
      · split_ifs <;> simp
      · simp
    · rfl
  · rfl
  · rfl

@[simp] theorem State.newFrame_outs (p : PortId) : (s.newFrame p).outs = s.outs := by
  unfold State.newFrame
  split
  · rename_i q hq
    exact State.setInput_outs _ hq
  · rfl
  · rfl

@[simp] theorem State.inputFrameStart_outs (p : PortId) : (s.inputFrameStart p).outs = s.outs := by
  unfold State.inputFrameStart
  split
  · split_ifs
    · rw [foldl_frame State.outs _ (fun s i => s.frameStream_outs p i)]
      simp
    · rfl
  · rfl
  · rfl

@[simp] theorem State.silenceTimeout_outs (p : PortId) : (s.silenceTimeout p).outs = s.outs := by
  unfold State.silenceTimeout
  split
  · rename_i q hq
    split_ifs
    · exact (State.settlePort_outs _ _).trans (State.setInput_outs _ hq)
    · rfl
  · rfl
  · rfl

/-! ### The demand and the entry to MUTE -/

@[simp] theorem State.recomputeDemand_outs : s.recomputeDemand.outs = s.outs := by
  unfold State.recomputeDemand
  split_ifs
  · rfl
  · exact State.settleStreams_outs _

@[simp] theorem State.enterState_outs (st : NodeState) : (s.enterState st).outs = s.outs :=
  (State.settleStreams_outs _).trans (State.purge_outs _ _)

@[simp] theorem State.enterMute_outs : s.enterMute.outs = s.outs := by
  unfold State.enterMute; split_ifs <;> simp

/-- A warm restart begins the streams of the input ports anew (R92). -/
@[simp] theorem State.restartSources_outs : s.restartSources.outs = s.outs := by
  have hport (q : Port) : q.restartStreams.outs = q.outs := by cases q <;> rfl
  refine (State.settleStreams_outs _).trans ?_
  simp [State.outs, hport]

end Kept

end Sys2Proof.Machine
end

section
/-! PROOFS. The range of INC and of the integrator through every operation of the state, and so through every command and step
(R115, R116, R124). -/

namespace Sys2Proof.Machine

/-- What one step of a fold keeps, the fold keeps. -/
theorem State.Steady.foldl {α : Type} {s : State} (h : s.Steady) (f : State → α → State)
    (hf : ∀ (s : State) (a : α), s.Steady → (f s a).Steady) (l : List α) : (l.foldl f s).Steady := by
  induction l generalizing s with
  | nil => exact h
  | cons a l ih => exact ih (hf s a h)

section Kept

variable {s : State} (h : s.Steady)
include h

/-! ### The output ports -/

/-- An operation that leaves the output ports. -/
theorem State.Steady.ofOuts {t : State} (e : t.outs = s.outs) : t.Steady :=
  t.steady_iff.mpr (e ▸ s.steady_iff.mp h)

/-- An operation that leaves both pixel ports. -/
theorem State.Steady.ofPorts {t : State} (ha : t.portA = s.portA) (hb : t.portB = s.portB) : t.Steady :=
  ⟨ha ▸ h.portA, hb ▸ h.portB⟩

theorem State.Steady.onOut (p : PortId) (f : OutPort → OutPort × Half) (hf : ∀ o : OutPort, o.Steady → (f o).1.Steady) :
    (s.onOut p f).Steady := by
  unfold State.onOut
  split
  · rename_i o ho
    cases p with
    | a =>
      have hport : Port.Steady (.output o) := ho ▸ h.portA
      exact ⟨hf o hport, h.portB⟩
    | b =>
      have hport : Port.Steady (.output o) := ho ▸ h.portB
      exact ⟨h.portA, hf o hport⟩
  · exact h
  · exact h

theorem State.Steady.onOuts (f : OutPort → OutPort × Half) (hf : ∀ o : OutPort, o.Steady → (f o).1.Steady) :
    (s.onOuts f).Steady :=
  (h.onOut .a f hf).onOut .b f hf

/-- An event on both output ports, after what was due there (log 2). -/
theorem State.Steady.dueFirst (f : OutPort → OutPort × Half) (hf : ∀ o : OutPort, o.Steady → (f o).1.Steady) :
    (s.onOuts (OutPort.dueFirst f)).Steady :=
  h.onOuts _ (fun _ ho => ho.dueFirst f hf)

/-! ### The Station View and the node -/

theorem State.Steady.tableReport (st : StationNo) : (s.tableReport st).Steady :=
  State.Steady.ofOuts (h.dueFirst _ (fun _ ho => ho.tableReport _ st)) (State.recomputeDemand_outs _)

theorem State.Steady.censusCopy (st : StationNo) (hop : BitVec 4) (payload : List Word) :
    (s.censusCopy st hop payload).Steady := by
  unfold State.censusCopy
  split
  · exact h
  · refine State.Steady.tableReport ?_ st
    exact { h with }

theorem State.Steady.entryExpiry (st : StationNo) : (s.entryExpiry st).Steady := by
  unfold State.entryExpiry
  split
  · exact h
  · split_ifs
    · refine State.Steady.tableReport ?_ st
      exact { h with }
    · exact h

theorem State.Steady.enterMute : s.enterMute.Steady := h.ofOuts (by simp)

theorem State.Steady.enterStandby : s.enterStandby.Steady := by
  have hentered : (s.enterState .standby).Steady := h.ofOuts (by simp)
  unfold State.enterStandby; dsimp only
  split_ifs
  · refine State.Steady.dueFirst ?_ _ (fun _ ho => ho.standby)
    exact { hentered with }
  · exact h

theorem State.Steady.takeEntry : s.takeEntry.Steady := h.enterMute.enterStandby

theorem State.Steady.askEntry (e : Entry) : (s.askEntry e).Steady := by
  refine State.Steady.takeEntry ?_
  exact { h with }

theorem State.Steady.conflictFound : s.conflictFound.Steady := by
  unfold State.conflictFound
  split
  · refine State.Steady.askEntry ?_ .mute
    exact { h with }
  · exact { h with }
  · exact { h with }
  · exact h
  · exact h

theorem State.Steady.strippedCensus (payload : List Word) : (s.strippedCensus payload).Steady := by
  unfold State.strippedCensus; dsimp only
  split_ifs
  · exact h
  · exact { h with }
  · exact h
  · exact h.takeEntry.conflictFound

theorem State.Steady.wakeNode : s.wakeNode.Steady := by
  unfold State.wakeNode; dsimp only
  split_ifs
  · refine State.Steady.onOuts (State.Steady.ofOuts (s := s) h ?_) _ (fun _ ho => ho.wake _)
    exact State.settleStreams_outs _
  · exact h

/-! ### Camera Priority and messages -/

theorem State.Steady.engage : s.engage.Steady := by
  have hready : s.takeEntry.wakeNode.dropStandby.Steady := h.takeEntry.wakeNode.ofPorts (by simp) (by simp)
  unfold State.engage; dsimp only
  split_ifs
  · refine State.Steady.ofOuts (hready.onOuts _ (fun _ ho => ?_)) (State.recomputeDemand_outs _)
    exact ho.engage _ _
  · exact h

theorem State.Steady.release : s.release.Steady := by
  unfold State.release
  split_ifs
  · exact State.Steady.ofOuts (h.onOuts _ (fun _ ho => ho.release)) (State.recomputeDemand_outs _)
  · exact h

theorem State.Steady.setSources (c : CameraControl) : (s.setSources c).Steady := by
  have hc : ({ s with camera := c } : State).Steady := { h with }
  unfold State.setSources; dsimp only
  split_ifs
  · exact hc.engage
  · exact hc.release
  · exact hc

theorem State.Steady.reverseDebounced : s.reverseDebounced.Steady := by
  unfold State.reverseDebounced
  split_ifs
  · exact h.setSources _
  · exact h

theorem State.Steady.wakePin : s.wakePin.Steady := by
  unfold State.wakePin
  split_ifs
  · exact h.wakeNode
  · exact h

theorem State.Steady.messageAction (k : Option MessageKind) : (s.messageAction k).Steady := by
  unfold State.messageAction
  split
  · exact h.setSources _
  · exact h.setSources _
  · exact h.wakeNode
  · exact h
  · exact h

theorem State.Steady.messageEnd (payload : List Word) (addressed reserved good : Bool) :
    (s.messageEnd payload addressed reserved good).Steady := by
  have hdone (user : List Word) : (s.completeEntry user).Steady := { h with }
  unfold State.messageEnd; dsimp only
  split_ifs
  · exact (hdone _).messageAction _
  · exact hdone _
  · exact { h with }
  · exact h.messageAction _
  · exact h
  · exact h

/-! ### The copies of lines and markers -/

theorem State.Steady.offered (hd : Header) (k : ParcelKind) : (s.offered hd k).Steady := by
  have hsighted : (s.sighted hd).Steady := by
    rw [s.sighted_eq hd]
    exact { h with }
  unfold State.offered
  split_ifs
  · exact hsighted.foldl _ (fun _ k hs => hs.onOut k.port _ (fun _ ho => ho.offerLine _ _ _ _ _ k.role)) _
  · exact hsighted

/-- An operation on the records that took a line. -/
theorem State.Steady.onSinks (f : Sink → Sink) (l : List SinkId) :
    (l.foldl (fun s k => s.onOut k.port (fun o => (o.mapSink k.role f, noCause))) s).Steady :=
  h.foldl _ (fun _ k hs => hs.onOut k.port _ (fun _ ho => ho.mapSink k.role f)) l

theorem State.Steady.deliverMark (r : Reception) : (s.deliverMark r).Steady := by
  unfold State.deliverMark; dsimp only
  split_ifs
  · exact h.foldl _
      (fun _ k hs => hs.onOut k.port _ (fun _ ho => ho.dueFirst _ (fun _ ho => ho.marker _ _ _ k.role))) _
  · exact h

/-! ### The receive link -/

theorem State.Steady.filterEnd (r : Reception) (good : Bool) : (s.filterEnd r good).Steady := by
  unfold State.filterEnd
  split
  · exact h
  · exact h
  · split
    · exact h.onSinks _ _
    · split_ifs
      · exact h.deliverMark r
      · exact h
    · split_ifs
      · exact h.censusCopy _ _ _
      · exact h
    · exact h.messageEnd _ _ _ good
  · split
    · exact h
    · exact h
    · split_ifs
      · exact h.strippedCensus _
      · exact h
    · exact h.ofPorts (by simp) (by simp)
  · split
    · split_ifs
      · exact h.ofPorts (by simp) (by simp)
      · exact h
    · exact h
    · exact h
    · exact h

theorem State.Steady.endParcel (r : Reception) (good : Bool) : (s.endParcel r good).Steady :=
  State.Steady.filterEnd (h.ofPorts (by split_ifs <;> simp) (by split_ifs <;> simp)) r good

theorem State.Steady.leaveUp (st : LinkState) : (s.leaveUp st).Steady := by
  have hleft : (({ s with link := { s.link with state := st, violations := [] } } : State).raise Cause.linkDown.bit).Steady :=
    { h with }
  unfold State.leaveUp; dsimp only
  split
  · exact hleft
  · exact { hleft with }
  · exact hleft.endParcel _ false

theorem State.Steady.breakParcel : s.breakParcel.Steady := by
  unfold State.breakParcel
  split
  · exact h
  · exact { h with }
  · refine State.Steady.endParcel ?_ _ false
    exact { h with }

theorem State.Steady.unitUp (f : State → State) (hf : ∀ u : State, u.Steady → (f u).Steady) : (s.unitUp f).Steady := by
  unfold State.unitUp
  split_ifs
  · exact hf _ { h with }
  · exact h

theorem State.Steady.signalPresent : s.signalPresent.Steady := by
  unfold State.signalPresent
  split_ifs
  · exact { h with }
  · exact h

theorem State.Steady.lossOfSignal : s.lossOfSignal.Steady := by
  unfold State.lossOfSignal
  split
  · exact h
  · exact { h with }
  · exact h.leaveUp .down

theorem State.Steady.alignUnit (u : RxUnit) : (s.alignUnit u).Steady := by
  unfold State.alignUnit
  split_ifs
  · exact { h with }
  · exact h

theorem State.Steady.sopReceived : s.sopReceived.Steady := h.unitUp _ (fun _ hu => { hu.breakParcel with })

theorem State.Steady.strayUnit (u : RxUnit) : (s.strayUnit u).Steady := by
  unfold State.strayUnit
  split_ifs
  · exact h.unitUp _ (fun _ hu => hu)
  · exact h

theorem State.Steady.codingViolation : s.codingViolation.Steady := by
  refine h.unitUp _ (fun u hu => ?_)
  split_ifs
  · refine State.Steady.leaveUp ?_ .align
    exact { hu with }
  · refine State.Steady.breakParcel ?_
    exact { hu with }

theorem State.Steady.headerWord (w : Word) : (s.headerWord w).Steady := by
  unfold State.headerWord
  split
  · split_ifs
    · exact h.unitUp _ (fun _ hu => { hu with })
    · exact h
  · exact h
  · exact h

theorem State.Steady.decideHeader (hd : Header) (k : ParcelKind) : (s.decideHeader hd k).Steady := by
  have hoffered := h.offered hd k
  rw [State.decideHeader_eq]
  split_ifs
  · refine State.Steady.filterEnd ?_ _ false
    exact { hoffered with }
  · exact { hoffered with }
  · exact { hoffered with }

theorem State.Steady.headerEvent (w : Word) : (s.headerEvent w).Steady := by
  unfold State.headerEvent
  split
  · refine h.unitUp _ (fun u hu => ?_)
    split_ifs
    · split
      · exact hu.decideHeader _ _
      · exact { hu with }
    · exact { hu with }
  · exact h
  · exact h
  · exact h

/-- A data word gives its pixels to the records that took the line (R28, R102). -/
theorem State.Steady.takeWord (r : Reception) (w : Word) : (s.takeWord r w).Steady := by
  have hjoined : (s.joined r w).Steady := by
    rw [State.joined_eq]
    exact { h with }
  by_cases hline : r.kind = .line ∧ r.got < r.hdr.len.toNat
  · rw [State.takeWord_line hline.1 hline.2]
    exact { hjoined.onSinks (Sink.write _) r.lineTo with }
  · rw [State.takeWord_plain hline]
    exact { hjoined with }

theorem State.Steady.bodyWord (r : Reception) (w : Word) : (s.bodyWord r w).Steady := by
  have hdecided : (s.maybeDecide r w).1.Steady := h.ofPorts (by simp) (by simp)
  unfold State.bodyWord; dsimp only
  split_ifs
  · refine State.Steady.endParcel ?_ r false
    exact { h with }
  · refine State.Steady.endParcel ?_ _ false
    exact { hdecided with }
  · exact hdecided.takeWord _ w

theorem State.Steady.payloadWord (w : Word) : (s.payloadWord w).Steady := by
  unfold State.payloadWord
  split
  · exact h.unitUp _ (fun _ hu => hu.bodyWord _ w)
  · exact h
  · exact h

theorem State.Steady.bodyEnd (r : Reception) (e : EndSymbol) : (s.bodyEnd r e).Steady := by
  rw [State.bodyEnd_eq]
  split_ifs
  · refine State.Steady.endParcel ?_ r _
    exact { h with }
  · exact h.endParcel r _

theorem State.Steady.endEvent (e : EndSymbol) : (s.endEvent e).Steady := by
  unfold State.endEvent
  split
  · exact h
  · exact h.unitUp _ (fun _ hu => { hu with })
  · exact h.unitUp _ (fun _ hu => hu.bodyEnd _ e)

/-! ### The tick -/

theorem State.Steady.takeDue : s.takeDue.Steady := by
  unfold State.takeDue; dsimp only
  have hflags : s.takeEntry.setStarved.clearYield.censusExpiry.Steady := h.takeEntry.ofPorts (by simp) (by simp)
  have hexpired := hflags.foldl State.entryExpiry (fun _ st hs => hs.entryExpiry st)
    s.takeEntry.setStarved.clearYield.censusExpiry.tableStations
  generalize List.foldl State.entryExpiry _ _ = s1 at hexpired ⊢
  have hsilent : ((s1.silenceTimeout .a).silenceTimeout .b).Steady := hexpired.ofOuts (by simp)
  generalize (s1.silenceTimeout .a).silenceTimeout .b = s2 at hsilent ⊢
  have hmail := hsilent.foldl State.messageTimeout (fun _ tag hs => hs.ofPorts (by simp) (by simp))
    (s2.svc.outbox.map OutMessage.tag)
  generalize List.foldl State.messageTimeout _ _ = s3 at hmail ⊢
  have hdeadlines := hmail.reverseDebounced.onOuts (OutPort.deadlineExpiry s3.reverseDebounced.tick)
    (fun _ ho => ho.deadlineExpiry _)
  exact hdeadlines.wakePin.onOuts _ (fun _ ho => ho.settle)

theorem State.Steady.microsecondTick (reverse wake : Bool) : (s.microsecondTick reverse wake).Steady := by
  have hport (q : Port) (hq : q.Steady) : q.runTick.Steady := by
    cases q with
    | output o => exact OutPort.Steady.runTick hq
    | input q => exact trivial
    | unused k => exact trivial
  exact ⟨hport _ h.takeDue.portA, hport _ h.takeDue.portB⟩

/-! ### The service port -/

theorem State.Steady.respond (c : ResponseCode) (data : List Byte) : (s.respond c data).Steady := { h with }

theorem State.Steady.serve (early argsOk : Bool) (f : State → State) (hf : (f s).Steady) :
    (s.serve early argsOk f).Steady := by
  unfold State.serve
  split_ifs
  · exact h.respond _ _
  · exact hf
  · exact h.respond _ _

theorem State.Steady.sendMessage (a : SendArgs) : (s.sendMessage a).Steady := by
  unfold State.sendMessage
  split_ifs
  · exact h.respond _ _
  · exact { h with }

theorem State.Steady.placeRequest (p : PortId) (m : CameraMode) (role : Role) (v : Placed) :
    (s.placeRequest p m role v).Steady :=
  State.Steady.respond (h.onOut p _ (fun _ ho => ho.request m role v)) _ _

theorem State.Steady.showStream (args : List Byte) : (s.showStream args).Steady := by
  refine h.serve _ _ _ ?_
  split
  · exact h.placeRequest _ _ _ _
  · exact h

theorem State.Steady.inset (args : List Byte) : (s.inset args).Steady := by
  refine h.serve _ _ _ ?_
  split
  · exact h.placeRequest _ _ _ _
  · exact h

theorem State.Steady.probe (args : List Byte) : (s.probe args).Steady := by
  refine h.serve _ _ _ ?_
  split
  · exact h.respond _ _
  · exact h

theorem State.Steady.status (args : List Byte) : (s.status args).Steady := by
  refine h.serve _ _ _ ?_
  split
  · exact h.respond _ _
  · exact h

theorem State.Steady.send (args : List Byte) : (s.send args).Steady := by
  refine h.serve _ _ _ ?_
  split
  · exact h.sendMessage _
  · exact h

theorem State.Steady.take (args : List Byte) : (s.take args).Steady := by
  refine h.serve _ _ _ ?_
  split
  · exact { h with }
  · exact h.respond _ _

theorem State.Steady.result (args : List Byte) : (s.result args).Steady := by
  refine h.serve _ _ _ ?_
  split
  · exact { h with }
  · exact h.respond _ _

theorem State.Steady.clear (args : List Byte) : (s.clear args).Steady := by
  refine h.serve _ _ _ ?_
  split
  · exact { h with }
  · exact h

theorem State.Steady.cameraRequest (args : List Byte) : (s.cameraRequest args).Steady := by
  refine h.serve _ _ _ ?_
  split
  · exact (h.setSources _).respond _ _
  · exact h

theorem State.Steady.standbyRequest (args : List Byte) : (s.standbyRequest args).Steady := by
  refine h.serve _ _ _ ?_
  split_ifs
  · exact h.respond _ _
  · exact h.respond _ _
  · exact (h.askEntry _).respond _ _

theorem State.Steady.wakeRequest (args : List Byte) : (s.wakeRequest args).Steady := by
  refine h.serve _ _ _ ?_
  split
  · split_ifs
    · exact h.wakeNode.respond _ _
    · exact h.respond _ _
    · exact h.sendMessage _
  · exact h

/-! ### Reset, image and restart -/

omit h in
/-- An accepted image begins both ports anew (R176). -/
theorem State.takeImage_steady (s : State) {i : Image} {ss : List Section} (hi : imageOf ss = some i) :
    (s.takeImage i).Steady := by
  obtain ⟨ha, hb, -⟩ := imageOf_ports hi
  have hentered : ({ s with portA := i.portA.port s.portA.rest, portB := i.portB.port s.portB.rest } : State).Steady :=
    ⟨ha.port_steady _, hb.port_steady _⟩
  refine State.Steady.onOuts (hentered.ofOuts ?_) _ (fun _ ho => ho.frameStart _)
  exact State.settleStreams_outs _

theorem State.Steady.imageAccepted (flash : List Byte) : (s.imageAccepted flash).Steady := by
  unfold State.imageAccepted
  split_ifs
  · split
    · rename_i i hi
      obtain ⟨ss, hss⟩ := judgeFlash_accepted hi
      exact s.takeImage_steady hss
    · exact h
    · exact h
  · exact h

theorem State.Steady.imageRejected (flash : List Byte) : (s.imageRejected flash).Steady := by
  unfold State.imageRejected
  split_ifs
  · exact { h with }
  · exact h

theorem State.Steady.resetRelease (straps : StationNo) : (s.resetRelease straps).Steady := by
  unfold State.resetRelease
  split_ifs
  · exact { h with }
  · exact h

theorem State.Steady.restartRing : s.restartRing.Steady := by
  unfold State.restartRing; dsimp only
  split
  · exact { h with }
  · exact { h with }
  · exact { h.endParcel _ false with }

theorem State.Steady.restartView : s.restartView.Steady := by
  unfold State.restartView; dsimp only
  refine State.Steady.ofOuts (State.Steady.foldl ?_ _ (fun _ st hs => hs.tableReport st) _) (State.recomputeDemand_outs _)
  exact { h with }

theorem State.Steady.restartCamera : s.restartCamera.Steady := by
  have hcamera : ({ s with camera := { debounced := s.pins.reverse, stability := 0, ringLatch := false, localLatch := false } } :
      State).judgeLate.Steady := h.ofPorts (by simp) (by simp)
  unfold State.restartCamera; dsimp only
  split_ifs
  · exact hcamera.engage
  · exact hcamera

/-- A warm restart (R180). -/
theorem State.Steady.warmRestart : s.warmRestart.Steady := by
  have hsources : s.restartRing.restartSources.Steady := h.restartRing.ofOuts (by simp)
  have hview := (hsources.dueFirst _ (fun _ ho => ho.restart)).restartView
  refine State.Steady.restartCamera ?_
  exact { hview with }

theorem State.Steady.restartRequest (args : List Byte) : (s.restartRequest args).Steady :=
  h.serve _ _ _ (h.warmRestart.respond _ _)

/-! ### The commands -/

/-- A command of a part in cold reset does nothing. -/
theorem State.Steady.live {t u : State} (hu : u.Steady)
    (ht : Host.Outcome.next (if s.node.held then s else u) = (.next t : Answer)) : t.Steady := by
  rw [← Host.Outcome.next.inj ht]
  split_ifs
  · exact h
  · exact hu

/-- An operation made only under a condition. -/
theorem State.Steady.when {t : State} (c : Prop) [Decidable c] (ht : t.Steady) : (if c then t else s).Steady := by
  split_ifs
  · exact ht
  · exact h

/-- An event of an output port, after what was due there (log 2). -/
theorem State.Steady.settled (p : PortId) (f : OutPort → OutPort × Half) (hf : ∀ o : OutPort, o.Steady → (f o).1.Steady) :
    ((s.onOut p OutPort.settle).onOut p f).Steady :=
  State.Steady.onOut (h.onOut p _ (fun _ ho => ho.settle)) p f hf

/-- Every command keeps the Frame Locks' bounds. -/
theorem State.Steady.exec {t : State} (c : Instr) (ht : exec c s = .next t) : t.Steady := by
  cases c with
  | coldReset => cases ht; exact ⟨trivial, trivial⟩
  | resetRelease straps => cases ht; exact h.resetRelease straps
  | imageAccepted flash => exact h.live (h.imageAccepted flash) ht
  | imageRejected flash => exact h.live (h.imageRejected flash) ht
  | signalPresent => exact h.live h.signalPresent ht
  | lossOfSignal => exact h.live h.lossOfSignal ht
  | alignUnit u => exact h.live (h.alignUnit u) ht
  | sopReceived => exact h.live h.sopReceived ht
  | strayUnit u => exact h.live (h.strayUnit u) ht
  | codingViolation => exact h.live h.codingViolation ht
  | headerWord w => exact h.live (h.headerWord w) ht
  | headerEvent w => exact h.live (h.headerEvent w) ht
  | payloadWord w => exact h.live (h.payloadWord w) ht
  | endEvent e => exact h.live (h.endEvent e) ht
  | parcelStart => exact h.live (h.ofPorts (by simp) (by simp)) ht
  | cutThroughStart => exact h.live (h.ofPorts (by simp) (by simp)) ht
  | wordSent => exact h.live (h.ofPorts (t := s.wordSent) rfl rfl) ht
  | parcelEndSent => exact h.live (h.ofPorts (by simp) (by simp)) ht
  | enterMute => exact h.live h.enterMute ht
  | enterStandby => exact h.live h.enterStandby ht
  | wakePin => exact h.live h.wakePin ht
  | microsecondTick reverse wake => exact h.live (h.microsecondTick reverse wake) ht
  | starvedSet => exact h.live (h.ofPorts (by simp) (by simp)) ht
  | yieldExpiry => exact h.live (h.ofPorts (by simp) (by simp)) ht
  | censusTimerExpiry => exact h.live (h.ofPorts (by simp) (by simp)) ht
  | tableEntryExpiry station => exact h.live (h.entryExpiry station) ht
  | silenceTimeout p => exact h.live (h.ofOuts (by simp)) ht
  | messageTimeout tag => exact h.live (h.ofPorts (by simp) (by simp)) ht
  | reverseDebounced => exact h.live h.reverseDebounced ht
  | cameraDeadlineExpiry p => exact h.live (h.onOut p _ (fun _ ho => ho.deadlineExpiry _)) ht
  | inputFrameStart p => exact h.live (h.ofOuts (by simp)) ht
  | activePixel p r g b => exact h.live (h.ofOuts (by simp)) ht
  | inputLineEnd p => exact h.live (h.ofOuts (by simp)) ht
  | outputFrameStart p =>
    refine h.live (h.settled p _ (fun o ho => ?_)) ht
    split_ifs
    · exact ho.frameStart _
    · exact ho
  | silentFramesLost p role => exact h.live (h.onOut p _ (fun _ ho => ho.silentLoss role)) ht
  | holdoverExpiry p => exact h.live (h.onOut p _ (fun _ ho => ho.holdoverEnd)) ht
  | addedLineEnd p => exact h.live (h.settled p _ (fun _ ho => ho.addedLineEnd)) ht
  | holdGiveUp p => exact h.live (h.onOut p _ (fun _ ho => ho.holdGiveUp)) ht
  | stretchLimit p => exact h.live (h.onOut p _ (fun _ ho => ho.stretchEnd)) ht
  | activeLineStart p => exact h.live (h.settled p _ (fun _ ho => ho.activeLine)) ht
  | portStop p => exact h.live (h.onOut p _ (fun _ ho => ho.stop)) ht
  | requestFrameDiscarded frame => exact h.live (h.when _ (h.ofPorts (t := s.discardFrame) rfl rfl)) ht
  | readFrame clocked => exact h.live (h.when _ (h.ofPorts (t := s.readFrame clocked) rfl rfl)) ht
  | unknownRequest kind args => exact h.live (h.when _ (h.respond _ _)) ht
  | showStream args => exact h.live (h.when _ (h.showStream args)) ht
  | inset args => exact h.live (h.when _ (h.inset args)) ht
  | probe args => exact h.live (h.when _ (h.probe args)) ht
  | send args => exact h.live (h.when _ (h.send args)) ht
  | take args => exact h.live (h.when _ (h.take args)) ht
  | result args => exact h.live (h.when _ (h.result args)) ht
  | status args => exact h.live (h.when _ (h.status args)) ht
  | attention args => exact h.live (h.when _ (h.serve _ _ _ (h.respond _ _))) ht
  | clear args => exact h.live (h.when _ (h.clear args)) ht
  | camera args => exact h.live (h.when _ (h.cameraRequest args)) ht
  | standby args => exact h.live (h.when _ (h.standbyRequest args)) ht
  | wake args => exact h.live (h.when _ (h.wakeRequest args)) ht
  | restart args => exact h.live (h.when _ (h.restartRequest args)) ht

end Kept

/-- Settles O59: every step keeps INC and the integrator in their ranges. -/
theorem steadyKept : Obligations.SteadyKept := by
  intro s t hs ht
  unfold step at ht
  split at ht
  · cases ht; exact hs
  · rename_i c rest _
    have hrest : ({ s with pending := rest } : State).Steady := { hs with }
    exact hrest.exec c ht

end Sys2Proof.Machine
end

section
/-! PROOFS. The added lines of a hold and of a stretch: the frame presented at the end of one, the judgement of the lead, and the
ends by success, by cut and at the limit (R121 to R123, R127, R129, R134, R138). -/

namespace Sys2Proof.Machine

/-! ### The frame presented anew -/

/-- Without a current frame nothing is presented anew (R121). -/
theorem Sink.retake_none {k : Sink} (h : k.cur = none) : k.retake = k := by rw [Sink.retake, h]

/-- The current frame becomes the presented one, unless it is that already (R121). -/
theorem Sink.retake_some {k : Sink} {f : FrameInfo} (h : k.cur = some f) : k.retake =
    if k.presented.map FrameInfo.no = some f.no then k
    else { k with presented := some f, queue := k.queue.filter (fun r => r.frame == f.no) } := by
  rw [Sink.retake, h]

@[simp] theorem Sink.retake_cur (k : Sink) : k.retake.cur = k.cur := by
  unfold Sink.retake
  split
  · rfl
  · split_ifs <;> rfl

/-- After it the current frame is presented, by its number (R121). -/
theorem Sink.retake_presents {k : Sink} {f : FrameInfo} (h : k.cur = some f) :
    k.retake.presented.map FrameInfo.no = some f.no := by
  rw [Sink.retake_some h]
  split_ifs with hsame
  · exact hsame
  · rfl

/-! ### The end of an added line -/

section AddedLine

variable {o : OutPort}

theorem OutPort.addedLineEnd_early (h : o.pres.pos ≠ .added ∨ o.pres.pixel < o.cfg.ht) : o.addedLineEnd = (o, noCause) := by
  refine if_neg fun ⟨hpos, hover⟩ => ?_
  have hpixel : o.cfg.ht ≤ o.pres.pixel := of_decide_eq_true hover
  rcases h with hne | hlt
  · exact hne hpos
  · omega

theorem OutPort.addedLineEnd_over (hpos : o.pres.pos = .added) (hpixel : o.cfg.ht ≤ o.pres.pixel) :
    o.addedLineEnd = o.passLine.afterAdded :=
  if_pos ⟨hpos, decide_eq_true hpixel⟩

theorem OutPort.afterAdded_cut {st : Stretch} (hst : o.lock.stretch = some st) (hcut : o.pres.cutDone = true) :
    o.afterAdded = (o.endCut (st.added + 1), noCause) := by
  rw [OutPort.afterAdded, hst]
  exact if_pos hcut

theorem OutPort.afterAdded_ending {st : Stretch} (hst : o.lock.stretch = some st) (hcut : o.pres.cutDone = false)
    (hending : st.ending = true) : o.afterAdded = (o.endStretch (st.added + 1), noCause) := by
  rw [OutPort.afterAdded, hst, hcut]
  exact if_pos hending

theorem OutPort.afterAdded_judged {st : Stretch} (hst : o.lock.stretch = some st) (hcut : o.pres.cutDone = false)
    (hending : st.ending = false) : o.afterAdded = o.judgeAdded (st.added + 1) := by
  rw [OutPort.afterAdded, hst, hcut]
  exact if_neg (Bool.eq_false_iff.mp hending)

/-! ### The judgement of the lead -/

/-- The Frame Lock that the computation at the end of a hold or stretch begins from: past the added lines and in TRACK, with
clear counts where it was in ACQUIRE (R123, R127). -/
def FrameLock.resumed (added : Nat) (l : FrameLock) : FrameLock :=
  if l.state = .acquire then
    { l with
      state := .track, limited := .clear, locked := false, inWin := 0, outWin := 0, stretch := none, linesAdded := added }
  else { l with stretch := none, linesAdded := added }

theorem FrameLock.resumed_state {l : FrameLock} (h : l.state = .acquire ∨ l.state = .track) (added : Nat) :
    (l.resumed added).state = .track := by
  unfold FrameLock.resumed
  split_ifs with hacquire
  · rfl
  · exact h.resolve_left hacquire

section Judged

variable (hstate : o.lock.state = .acquire ∨ o.lock.state = .track)
include hstate

/-- The lead that ends a hold, and a stretch in TRACK (R123, R127). -/
theorem OutPort.stretchGoal_eq : o.stretchGoal = if o.lock.state = .acquire then o.cfg.t else 1 := by
  rcases hstate with h | h <;> simp [OutPort.stretchGoal, h]

/-- The added lines that end a hold, and a stretch in TRACK (R122, R127). -/
theorem OutPort.stretchLimit_eq : o.stretchLimit = if o.lock.state = .acquire then 2 * o.cfg.vt else o.cfg.vStretchMax := by
  rcases hstate with h | h <;> simp [OutPort.stretchLimit, h]

/-- At its lead a hold or stretch ends, in TRACK with the computation made at that lead (R123, R127). -/
theorem OutPort.judgeAdded_reached (added : Nat) (hlead : o.stretchGoal ≤ o.main.retake.lead) :
    let r := (o.lock.resumed added).compute o.cfg o.main.retake.lead
    o.judgeAdded added = ({ o with main := o.main.retake, lock := r.1, pres := o.pres.toActive }, r.2) := by
  unfold OutPort.judgeAdded
  dsimp only
  rw [if_pos hlead]
  rcases hstate with hacquire | htrack
  · rw [FrameLock.resumed, if_pos hacquire, hacquire]
    rfl
  · have hresumed : o.lock.resumed added = { o.lock with stretch := none, linesAdded := added } := if_neg (by simp [htrack])
    rw [htrack, hresumed]
    rfl

end Judged

/-- Short of its lead a hold or stretch goes on with one more added line (R121, R122, R127). -/
theorem OutPort.judgeAdded_short (added : Nat) (hlead : o.main.retake.lead < o.stretchGoal) :
    o.judgeAdded added = ({ o with
      main := o.main.retake
      lock := { o.lock with
        stretch := some { added := added, ending := false, limit := decide (o.stretchLimit ≤ added) } } }, noCause) :=
  if_neg (Nat.not_le.mpr hlead)

/-- What the end of a judged line leaves, whatever its lead: the frame presented anew, and the Presenter on that line's time. -/
theorem OutPort.judgeAdded_frame (added : Nat) (o : OutPort) :
    (o.judgeAdded added).1.main = o.main.retake ∧ (o.judgeAdded added).1.overlay = o.overlay ∧
      (o.judgeAdded added).1.pres.pixel = o.pres.pixel := by
  unfold OutPort.judgeAdded; dsimp only
  split_ifs
  · split <;> exact ⟨rfl, rfl, rfl⟩
  · exact ⟨rfl, rfl, rfl⟩

/-! ### The limits -/

theorem OutPort.limitReached_of {st : Stretch} {state : LockState} (hstate : o.lock.state = state)
    (hst : o.lock.stretch = some st) (hending : st.ending = false) (hlimit : st.limit = true) :
    o.limitReached state = true := by
  simp [OutPort.limitReached, hst, hending, hlimit, hstate]

theorem OutPort.addedLines_of {st : Stretch} (hst : o.lock.stretch = some st) : o.addedLines = st.added := by
  rw [OutPort.addedLines, hst]

end AddedLine

/-! ### The commands -/

/-- What an operation on a port raises joins the pending set (R172). -/
theorem State.setPort_raise_att (s : State) (p : PortId) (q : Port) (m : Half) :
    ((s.setPort p q).raise m).att = { s.att with pending := s.att.pending ||| m } := by
  cases p <;> rfl

section Commands

variable {s : State} {p : PortId} {o : OutPort} {st : Stretch} (hrun : s.running) (hp : s.port p = .output o)
include hrun hp

theorem exec_addedLineEnd (hquiet : o.quiet s.tick = true) :
    exec (.addedLineEnd p) s = .next ((s.setPort p (.output o.addedLineEnd.1)).raise o.addedLineEnd.2) := by
  have hexec : exec (.addedLineEnd p) s = .next ((s.onOut p OutPort.settle).onOut p OutPort.addedLineEnd) :=
    live_running (fun s => (s.onOut p OutPort.settle).onOut p OutPort.addedLineEnd) s hrun
  rw [hexec, s.settleOut_quiet p o hp hquiet, s.onOut_output p o _ hp]

/-- Before its line is over the command changes nothing (R134, log 15). -/
theorem exec_addedLineEnd_early (hquiet : o.quiet s.tick = true)
    (hearly : o.pres.pos ≠ .added ∨ o.pres.pixel < o.cfg.ht) : exec (.addedLineEnd p) s = .next s := by
  rw [exec_addedLineEnd hrun hp hquiet, OutPort.addedLineEnd_early hearly, State.raise_noCause, ← hp, State.setPort_self]

/-- A hold that has added its lines gives up and draws a fill frame (R122). -/
theorem exec_holdGiveUp (hstate : o.lock.state = .acquire) (hst : o.lock.stretch = some st) (hending : st.ending = false)
    (hlimit : st.limit = true) : exec (.holdGiveUp p) s = .next (s.setPort p (.output { o.endStretch st.added with
      pres := { o.pres.toActive with fillFrame := true } })) := by
  have hexec : exec (.holdGiveUp p) s = .next (s.onOut p OutPort.holdGiveUp) :=
    live_running (fun s => s.onOut p OutPort.holdGiveUp) s hrun
  rw [hexec, s.onOut_output p o _ hp, OutPort.holdGiveUp, if_pos (OutPort.limitReached_of hstate hst hending hlimit),
    OutPort.addedLines_of hst]
  exact congrArg _ (State.raise_noCause _)

/-- A stretch that has added its lines ends with the computation at lead 0 (R127). -/
theorem exec_stretchLimit (hstate : o.lock.state = .track) (hst : o.lock.stretch = some st) (hending : st.ending = false)
    (hlimit : st.limit = true) :
    let r := (o.endStretch st.added).compute 0
    exec (.stretchLimit p) s = .next ((s.setPort p (.output r.1)).raise r.2) := by
  have hexec : exec (.stretchLimit p) s = .next (s.onOut p OutPort.stretchEnd) :=
    live_running (fun s => s.onOut p OutPort.stretchEnd) s hrun
  rw [hexec, s.onOut_output p o _ hp, OutPort.stretchEnd, if_pos (OutPort.limitReached_of hstate hst hending hlimit),
    OutPort.addedLines_of hst]

end Commands

/-- Settles O47: the end of an added line, before it and with each of its outcomes, and the two limits. -/
theorem addedLinesJudged : Obligations.AddedLinesJudged := by
  refine ⟨fun s p o st hrun hp hquiet hst => ?_, fun s p o st hrun hp hstate hst hending hlimit => ?_,
    fun s p o st hrun hp hstate hst hending hlimit => ?_⟩
  · intro ht
    refine ⟨exec_addedLineEnd_early hrun hp hquiet, fun hpos hpixel => ?_⟩
    have hexec := exec_addedLineEnd hrun hp hquiet
    have hst' : o.passLine.lock.stretch = some st := hst
    rw [OutPort.addedLineEnd_over hpos hpixel] at hexec
    refine ⟨fun hcut => ?_, fun hcut hending => ?_, fun hcut hending hstate => ?_⟩
    · rw [hexec, OutPort.afterAdded_cut hst' hcut, State.raise_noCause]
      rfl
    · rw [hexec, OutPort.afterAdded_ending hst' hcut hending, State.raise_noCause]
      rfl
    · rw [OutPort.afterAdded_judged hst' hcut hending] at hexec
      obtain ⟨hmain, hoverlay, hpres⟩ := o.passLine.judgeAdded_frame (st.added + 1)
      have hmain' : (o.passLine.judgeAdded (st.added + 1)).1.main = o.main.retake := hmain
      refine ⟨_, _, hexec, by rw [State.port_raise, State.setPort_port], ?_, ?_, ?_, hoverlay, hpres, ?_⟩
      · rw [hmain', Sink.retake_cur]
      · intro hnone
        rw [hmain', Sink.retake_none hnone]
      · intro f hf
        rw [hmain']
        refine ⟨Sink.retake_presents hf, fun hsame => ?_, fun hnew => ?_⟩
        · rw [Sink.retake_some hf, if_pos hsame]
        · rw [Sink.retake_some hf, if_neg hnew]
      · intro goal made
        have hgoal : goal = o.passLine.stretchGoal := (OutPort.stretchGoal_eq (o := o.passLine) hstate).symm
        have hlimit := OutPort.stretchLimit_eq (o := o.passLine) hstate
        have hmade : made = (o.lock.resumed (st.added + 1)).compute o.cfg o.main.retake.lead :=
          congrArg (fun k : Sink => (o.lock.resumed (st.added + 1)).compute o.cfg k.lead) hmain'
        rw [State.setPort_raise_att, hmain', hgoal]
        by_cases hlead : o.passLine.stretchGoal ≤ o.main.retake.lead
        · have hreached := OutPort.judgeAdded_reached (o := o.passLine) hstate (st.added + 1) hlead
          rw [if_pos hlead, hreached, hmade]
          exact ⟨rfl, ((FrameLock.compute_frame _ _ _).1).trans (FrameLock.resumed_state hstate _), rfl, rfl, rfl⟩
        · have hshort := OutPort.judgeAdded_short (o := o.passLine) (st.added + 1) (Nat.not_le.mp hlead)
          rw [if_neg hlead, hshort]
          refine ⟨hpos, ?_, _, rfl, rfl, rfl, ?_⟩
          · exact congrArg (fun m => { s.att with pending := m }) (BitVec.or_zero)
          · rw [decide_eq_true_iff, hlimit]
            rfl
  · exact ⟨_, exec_holdGiveUp hrun hp hstate hst hending hlimit, rfl⟩
  · refine ⟨_, ((o.endStretch st.added).compute 0).1, exec_stretchLimit hrun hp hstate hst hending hlimit,
      by rw [State.port_raise, State.setPort_port], ⟨rfl, State.setPort_raise_att _ _ _ _⟩, rfl, rfl, rfl, rfl, ?_, ?_, ?_⟩
    · exact State.setPort_link s p _
    · exact State.setPort_sched s p _
    · exact State.setPort_view s p _

end Sys2Proof.Machine
end

section
/-! PROOFS. The reduction of an active line to the panel's depth, with and without dither (R145, R146). -/

namespace Sys2Proof.Machine

/-! ### One pixel -/

section Reduced

variable {c : OutCfg} (hdepth : c.depth ≤ 10)
include hdepth

/-- A component on the panel is saturated at the depth's greatest value (R145). -/
theorem reduceTo_toNat (add : Nat) (v : Component) :
    (reduceTo c add v).toNat = min (2 ^ c.depth - 1) ((v.toNat + add) / 2 ^ (10 - c.depth)) := by
  have hpow : 2 ^ c.depth ≤ 2 ^ 10 := Nat.pow_le_pow_right (by decide) hdepth
  rw [reduceTo, BitVec.toNat_ofNat]
  exact Nat.mod_eq_of_lt (by omega)

theorem reduceTo_lt (add : Nat) (v : Component) : (reduceTo c add v).toNat < 2 ^ c.depth := by
  have hpos := Nat.two_pow_pos c.depth
  rw [reduceTo_toNat hdepth]
  omega

theorem reducePixel_lt (r : Half) (p : Pixel) :
    (reducePixel c r p).r.toNat < 2 ^ c.depth ∧ (reducePixel c r p).g.toNat < 2 ^ c.depth ∧
      (reducePixel c r p).b.toNat < 2 ^ c.depth := by
  unfold reducePixel
  split_ifs <;> exact ⟨reduceTo_lt hdepth _ _, reduceTo_lt hdepth _ _, reduceTo_lt hdepth _ _⟩

/-- Dither is applied in its two modes at a depth that drops bits (R145, R146). -/
theorem OutCfg.dithers_iff : c.dithers = true ↔ c.dither ≠ .off ∧ c.depth ≠ 10 := by
  have hk : c.k ≠ 0 ↔ c.depth ≠ 10 := by unfold OutCfg.k; omega
  simp [OutCfg.dithers, hk]

theorem OutCfg.rounding_eq : c.rounding = if c.depth = 10 then 0 else 2 ^ (10 - c.depth - 1) := by
  have hk : c.k = 0 ↔ c.depth = 10 := by unfold OutCfg.k; omega
  simp only [OutCfg.rounding, hk]
  rfl

end Reduced

/-! ### A line of pixels -/

/-- Each pixel of a line has the generator's value advanced once for it and once for each pixel before it (R146). -/
theorem driveLine_getElem? (c : OutCfg) (g : Half) (ps : List Pixel) (j : Nat) :
    (driveLine c g ps).1[j]? = ps[j]?.map (reducePixel c (advance^[j + 1] g)) := by
  induction ps generalizing g j with
  | nil => rfl
  | cons p ps ih =>
    cases j with
    | zero => rfl
    | succ j => exact ih (advance g) j

theorem driveLine_length (c : OutCfg) (g : Half) (ps : List Pixel) : (driveLine c g ps).1.length = ps.length := by
  induction ps generalizing g with
  | nil => rfl
  | cons p ps ih => exact congrArg (· + 1) (ih (advance g))

theorem driveLine_gen (c : OutCfg) (g : Half) (ps : List Pixel) : (driveLine c g ps).2 = advance^[ps.length] g := by
  induction ps generalizing g with
  | nil => rfl
  | cons p ps ih => exact ih (advance g)

/-- Every pixel driven is a pixel of the line, reduced. -/
theorem mem_driveLine {c : OutCfg} {g : Half} {ps : List Pixel} {x : Pixel} (h : x ∈ (driveLine c g ps).1) :
    ∃ r p, x = reducePixel c r p := by
  obtain ⟨j, hj⟩ := List.mem_iff_getElem?.mp h
  rw [driveLine_getElem?] at hj
  obtain ⟨p, -, hp⟩ := Option.map_eq_some_iff.mp hj
  exact ⟨_, p, hp.symm⟩

/-- Without dither the generator's value reaches no pixel (R145). -/
theorem driveLine_undithered {c : OutCfg} (h : c.dithers = false) (g : Half) (ps : List Pixel) :
    (driveLine c g ps).1 = ps.map (fun p =>
      { r := reduceTo c c.rounding p.r, g := reduceTo c c.rounding p.g, b := reduceTo c c.rounding p.b }) := by
  refine List.ext_getElem? fun j => ?_
  rw [driveLine_getElem?, List.getElem?_map]
  exact congrArg (fun f => ps[j]?.map f) (funext fun p => if_neg (Bool.eq_false_iff.mp h))

/-- Settles O50: rounding without dither, the generator's bits with it, and the bound of every component. -/
theorem panelDepthReduced : Obligations.PanelDepthReduced := by
  intro c g ps hset k h red
  have hdepth : c.depth ≤ 10 := by omega
  refine ⟨fun hplain => ?_, fun hdither j x hx => ?_, driveLine_length c g ps, driveLine_gen c g ps, fun x hx => ?_⟩
  · have hoff : c.dithers = false := by
      rw [← Bool.not_eq_true, OutCfg.dithers_iff hdepth]
      tauto
    rw [driveLine_undithered hoff, List.map_map]
    refine List.map_congr_left fun x _ => ?_
    simp only [Function.comp_apply, reduceTo_toNat hdepth, OutCfg.rounding_eq hdepth]
    rfl
  · have hon : c.dithers = true := (OutCfg.dithers_iff hdepth).mpr hdither
    simp only [driveLine_getElem?, hx, Option.map_some, reducePixel, if_pos hon, reduceTo_toNat hdepth, ditherField,
      OutCfg.k, Nat.zero_mul, Nat.one_mul, Nat.pow_zero, Nat.div_one]
    rfl
  · obtain ⟨r, p, rfl⟩ := mem_driveLine hx
    exact reducePixel_lt hdepth r p

end Sys2Proof.Machine
end

section
/-! PROOFS. An active line: the reads of MAIN and OVERLAY for it, what it shows, and the pixel periods it is given (R106, R134,
R139 to R147, R156). -/

namespace Sys2Proof.Machine

/-! ### The read of one record -/

theorem consumes_iff {frame : Half} {y : Nat} {x : LineRec} :
    consumes frame y x = true ↔ x.full = true ∧ x.frame = frame ∧ x.line = y := by
  simp [consumes, and_assoc]

/-- The head that the late records leave is consumed where it is the line's own (R106). -/
theorem Sink.read_consumed {k : Sink} {frame : Half} {y : Nat} {x : LineRec} {rest : List LineRec}
    (hqueue : dropLate frame y k.queue = x :: rest) (hx : consumes frame y x = true) :
    k.read frame y = ({ k with queue := rest }, some x) := by
  rw [Sink.read, hqueue]
  exact if_pos hx

/-- Where the head is not the line's own, or there is none, the late records alone leave (R106). -/
theorem Sink.read_missed {k : Sink} {frame : Half} {y : Nat}
    (h : ∀ x rest, dropLate frame y k.queue = x :: rest → ¬consumes frame y x = true) :
    k.read frame y = ({ k with queue := dropLate frame y k.queue }, none) := by
  unfold Sink.read
  cases hqueue : dropLate frame y k.queue with
  | nil => rfl
  | cons x rest => exact if_neg (h x rest hqueue)

/-! ### The reads for a line -/

section Reads

variable {o : OutPort} {y : Nat}

/-- Where the picture has no line y, MAIN is not read (R139). -/
theorem OutPort.readMain_outside (h : ∀ f, o.main.presented = some f → f.height ≤ y) :
    o.readMain y = (o.main, none, false) := by
  unfold OutPort.readMain
  cases hf : o.main.presented with
  | none => rfl
  | some f => exact if_neg (Nat.not_lt.mpr (h f hf))

theorem OutPort.readMain_inside {f : FrameInfo} (hf : o.main.presented = some f) (hy : y < f.height) :
    o.readMain y = ((o.main.read f.no y).1, (o.main.read f.no y).2, true) := by
  rw [OutPort.readMain, hf]
  exact if_pos hy

theorem OutPort.readOverlay_none (h : o.overlay = none) : o.readOverlay y = (none, none) := by
  rw [OutPort.readOverlay, h]

/-- Where the inset has no line y, OVERLAY is not read (R142). -/
theorem OutPort.readOverlay_outside {k : Sink} (hk : o.overlay = some k)
    (h : ∀ g, k.presented = some g → y < k.y ∨ g.height ≤ y - k.y) : o.readOverlay y = (some k, none) := by
  simp only [OutPort.readOverlay, hk]
  cases hg : k.presented with
  | none => rfl
  | some g =>
    refine if_neg fun ⟨htop, hheight⟩ => ?_
    have hout := h g hg
    omega

theorem OutPort.readOverlay_inside {k : Sink} {g : FrameInfo} (hk : o.overlay = some k) (hg : k.presented = some g)
    (htop : k.y ≤ y) (hheight : y - k.y < g.height) :
    o.readOverlay y = (some (k.read g.no (y - k.y)).1, (k.read g.no (y - k.y)).2) := by
  simp only [OutPort.readOverlay, hk, hg]
  exact if_pos ⟨htop, hheight⟩

theorem OutPort.merged_none (main : List Pixel) : o.merged main none = main := by
  unfold OutPort.merged
  cases o.overlay <;> rfl

/-- A merged line has the inset's pixel in each column that the inset reaches, but where it is key-coloured and key compare is
on (R142, R143). -/
theorem OutPort.merged_getElem? {k : Sink} (hk : o.overlay = some k) (main : List Pixel) (z : LineRec) {c : Nat}
    (hc : c < main.length) : (o.merged main (some z))[c]? =
      match z.pixels[c - k.x]? with
      | none => main[c]?
      | some v =>
        if c < k.x ∨ (o.cfg.keyEnable = true ∧ o.cam.insetHold = false ∧ v = o.cfg.key) then main[c]? else some v := by
  have hkey : ∀ v, o.keyColour = some v ↔ o.cfg.keyEnable = true ∧ o.cam.insetHold = false ∧ v = o.cfg.key := by
    intro v
    rw [OutPort.keyColour, Option.ite_none_right_eq_some, Option.some_inj, eq_comm (a := o.cfg.key), Bool.and_eq_true,
      Bool.not_eq_true', and_assoc]
  simp only [OutPort.merged, hk, merge_getElem? _ _ _ _ _ hc, hkey] <;> rfl

theorem OutPort.merged_length {k : Sink} (hk : o.overlay = some k) (main : List Pixel) (z : LineRec) :
    (o.merged main (some z)).length = main.length := by
  simp only [OutPort.merged, hk, merge_length]

end Reads

/-! ### The line driven -/

/-- The last line of a frame that has been given its pixel periods gives way to the blanking (R134). -/
theorem Presenter.roll_over {c : OutCfg} {p : Presenter} (h : p.pos = .active ∧ c.va ≤ p.nextLine ∧ c.ht ≤ p.pixel) :
    p.roll c = { p with pos := .blanking, pixel := p.pixel - c.ht, driven := [], ahead := [] } := if_pos h

theorem Presenter.roll_short {c : OutCfg} {p : Presenter}
    (h : ¬(p.pos = .active ∧ c.va ≤ p.nextLine ∧ c.ht ≤ p.pixel)) : p.roll c = p := if_neg h

section Drive

variable (o : OutPort) (l : List Pixel)

/-- What the start of a line leaves of the Presenter, and which line it is (R134, R138). -/
theorem OutPort.drive_frame :
    (o.drive l).pres.line = o.pres.nextLine ∧
      (o.drive l).pres.nextLine = (if o.pres.cutDone then o.cfg.va else o.pres.nextLine + 1) ∧
      (o.drive l).pres.lastLine = o.pres.lastLine ∧ (o.drive l).pres.repeated = o.pres.repeated ∧
      (o.drive l).pres.underrun = o.pres.underrun := by
  unfold OutPort.drive
  exact ⟨Presenter.roll_line .., Presenter.roll_nextLine .., Presenter.roll_lastLine .., Presenter.roll_repeated ..,
    Presenter.roll_underrun ..⟩

/-- The pixels of the periods given to a line are driven at its start, and the blanking has begun where it is the last and has
been given them all (R134, R145, R146). -/
theorem OutPort.drive_periods :
    let next := if o.pres.cutDone then o.cfg.va else o.pres.nextLine + 1
    let pixel := if o.pres.nextLine = 0 then o.pres.pixel else o.pres.pixel - o.cfg.ht
    (o.drive l).pres.gen = (driveLine o.cfg o.pres.gen (l.take (pixel + 1))).2 ∧
      if o.cfg.va ≤ next ∧ o.cfg.ht ≤ pixel then
        (o.drive l).pres.pos = .blanking ∧ (o.drive l).pres.pixel = pixel - o.cfg.ht ∧
          (o.drive l).pres.driven = [] ∧ (o.drive l).pres.ahead = []
      else
        (o.drive l).pres.pos = .active ∧ (o.drive l).pres.pixel = pixel ∧
          (o.drive l).pres.ahead = l.drop (pixel + 1) ∧
          (o.drive l).pres.driven = (driveLine o.cfg o.pres.gen (l.take (pixel + 1))).1 := by
  intro next pixel
  refine ⟨Presenter.roll_gen .., ?_⟩
  split_ifs with hover
  · rw [OutPort.drive, Presenter.roll_over ⟨rfl, hover⟩]
    exact ⟨rfl, rfl, rfl, rfl⟩
  · rw [OutPort.drive, Presenter.roll_short fun h => hover h.2]
    exact ⟨rfl, rfl, rfl, rfl⟩

end Drive

/-! ### The start of the line -/

/-- The port once these reads have been made for its next line: the records after them, the last output line, the counts of
missed lines, and the camera picture (R106, R139, R140, R156). -/
def OutPort.withReads (o : OutPort) (m : Sink × Option LineRec × Bool) (v : Option Sink × Option LineRec) : OutPort :=
  let missed := m.2.2 && m.2.1.isNone
  { o with
    main := m.1
    overlay := v.1
    pres := { o.pres with
      lastLine := if m.2.1.isSome then o.mainLine m.2.1 m.2.2 else o.pres.lastLine
      repeated := if missed then holdInc o.pres.repeated else o.pres.repeated
      underrun := if missed && m.1.queue.isEmpty then holdInc o.pres.underrun else o.pres.underrun }
    cam := { o.cam with state := if o.cameraLine m.2.1 v.2 then .showing else o.cam.state } }

section Start

variable {o : OutPort}

theorem OutPort.lineReady_of (hpos : o.pres.pos = .active) (hstretch : o.lock.stretch = none)
    (hleft : o.pres.nextLine < o.cfg.va) (hover : o.pres.nextLine = 0 ∨ o.cfg.ht ≤ o.pres.pixel) : o.lineReady = true := by
  simp [OutPort.lineReady, OutPort.lineOver, hpos, hstretch, hleft, hover]

theorem OutPort.activeLine_fill (hready : o.lineReady = true) (hfill : o.pres.fillFrame = true) :
    o.activeLine = o.drive o.cfg.fillLine := by
  rw [OutPort.activeLine, if_pos hready, if_pos hfill]

/-- A line of the picture is driven once it has been read, as fill in a switch-blank frame (R139 to R147). -/
theorem OutPort.activeLine_picture (hready : o.lineReady = true) (hfill : o.pres.fillFrame = false) :
    let m := o.readMain o.pres.nextLine
    let v := o.readOverlay o.pres.nextLine
    o.activeLine = (o.withReads m v).drive
      (if o.pres.blank = 0 then o.merged (o.mainLine m.2.1 m.2.2) v.2 else o.cfg.fillLine) := by
  intro m v
  have hshown : (if o.pres.blank = 0 then o.merged (o.mainLine m.2.1 m.2.2) v.2 else o.cfg.fillLine) =
      if o.blanked then o.cfg.fillLine else o.merged (o.mainLine m.2.1 m.2.2) v.2 := by
    by_cases hblank : o.pres.blank = 0 <;> simp [OutPort.blanked, hfill, hblank]
  rw [hshown, OutPort.activeLine, if_pos hready, if_neg (Bool.eq_false_iff.mp hfill)]
  rfl

/-- A camera line is presented by the consumed line of the camera mode's record (R156). -/
theorem OutPort.cameraLine_iff (hfill : o.pres.fillFrame = false) (main ov : Option LineRec) :
    o.cameraLine main ov = true ↔
      (o.cam.state = .switching ∨ o.cam.state = .late) ∧ o.pres.blank = 0 ∧
        ((o.cfg.camMode = .full ∧ main.isSome = true) ∨ (o.cfg.camMode = .inset ∧ ov.isSome = true)) := by
  simp [OutPort.cameraLine, OutPort.blanked, hfill, and_assoc]

end Start

/-- A command on an output port with nothing due acts on the port as it stands (log 2). -/
theorem live_settled {s : State} {p : PortId} {o : OutPort} (hrun : s.running) (hp : s.port p = .output o)
    (hquiet : o.quiet s.tick = true) (f : State → OutPort → OutPort × Half) :
    live (fun s => (s.onOut p OutPort.settle).onOut p (f s)) s =
      .next ((s.setPort p (.output (f s o).1)).raise (f s o).2) := by
  rw [live_running _ s hrun, s.settleOut_quiet p o hp hquiet, s.onOut_output p o _ hp]

theorem exec_activeLineStart {s : State} {p : PortId} {o : OutPort} (hrun : s.running) (hp : s.port p = .output o)
    (hquiet : o.quiet s.tick = true) : exec (.activeLineStart p) s = .next (s.setPort p (.output o.activeLine)) :=
  (live_settled hrun hp hquiet fun _ o => (o.activeLine, noCause)).trans (congrArg _ (State.raise_noCause _))

/-- Settles O49: a fill frame's line, then one of the picture: what it shows, the camera, MAIN's read and OVERLAY's. -/
theorem activeLineShown : Obligations.ActiveLineShown := by
  intro s p o hrun hp hquiet hpos hstretch hleft ht hover y fill cropped waits left due next pixel
  have hready := OutPort.lineReady_of hpos hstretch hleft hover
  have hexec := exec_activeLineStart hrun hp hquiet
  have hdue : ∀ f n x, consumes f n x = true ↔ due f n x := fun _ _ _ => consumes_iff
  refine ⟨_, o.activeLine, hexec, State.setPort_port .., ?_⟩
  rw [State.setPort_link, State.setPort_sched, State.setPort_att]
  rcases Bool.eq_false_or_eq_true o.pres.fillFrame with hfill | hfill
  · rw [OutPort.activeLine_fill hready hfill]
    obtain ⟨hline, hnext, hlast, hrepeated, hunderrun⟩ := o.drive_frame o.cfg.fillLine
    exact ⟨rfl, hline, hnext, rfl, rfl, rfl,
      fun _ => ⟨rfl, rfl, rfl, hlast, hrepeated, hunderrun, o.drive_periods o.cfg.fillLine⟩,
      fun hpicture => Bool.noConfusion (hpicture.symm.trans hfill)⟩
  · rw [OutPort.activeLine_picture hready hfill]
    generalize hm : o.readMain o.pres.nextLine = m
    generalize hv : o.readOverlay o.pres.nextLine = v
    generalize hshown : (if o.pres.blank = 0 then o.merged (o.mainLine m.2.1 m.2.2) v.2 else o.cfg.fillLine) = shown
    obtain ⟨hline, hnext, hlast, hrepeated, hunderrun⟩ := (o.withReads m v).drive_frame shown
    have hperiods := (o.withReads m v).drive_periods shown
    refine ⟨rfl, hline, hnext, rfl, rfl, rfl, fun hfilled => Bool.noConfusion (hfilled.symm.trans hfill), fun _ =>
      ⟨o.mainLine m.2.1 m.2.2, o.merged (o.mainLine m.2.1 m.2.2) v.2, m.2.1.isSome, v.2.isSome, ?shows, ?camera,
        fun hout => ?mainOutside, fun f hf hy => ⟨fun x rest hq hx => ?mainConsumed, fun hmiss => ?mainMissed⟩,
        fun hnone => ?noOverlay, fun k hk => ⟨fun hout => ?overlayOutside, fun g hg htop hheight =>
          ⟨fun hmiss => ?overlayMissed, fun z zs hq hz => ?overlayConsumed⟩⟩⟩⟩
    case shows =>
      rw [← hshown] at hperiods ⊢
      exact hperiods
    case camera =>
      have hcam := OutPort.cameraLine_iff hfill m.2.1 v.2
      simp only [OutPort.drive, OutPort.withReads, hcam]
      rfl
    case mainOutside =>
      rw [OutPort.readMain_outside hout] at hm
      subst hm
      exact ⟨rfl, rfl, rfl, hlast, hrepeated, hunderrun⟩
    case mainConsumed =>
      rw [OutPort.readMain_inside hf hy, Sink.read_consumed hq ((hdue ..).mpr hx)] at hm
      subst hm
      exact ⟨rfl, rfl, rfl, hlast, hrepeated, hunderrun⟩
    case mainMissed =>
      rw [OutPort.readMain_inside hf hy, Sink.read_missed fun x rest hq hx => hmiss x rest hq ((hdue ..).mp hx)] at hm
      subst hm
      refine ⟨rfl, rfl, rfl, hlast, hrepeated, hunderrun.trans ?_⟩
      simp only [OutPort.withReads, Option.isNone_none, Bool.and_true, Bool.true_and, List.isEmpty_iff]
      rfl
    case noOverlay =>
      rw [OutPort.readOverlay_none hnone] at hv
      subst hv
      exact ⟨rfl, OutPort.merged_none _, rfl⟩
    case overlayOutside =>
      rw [OutPort.readOverlay_outside hk hout] at hv
      subst hv
      exact ⟨rfl, OutPort.merged_none _, rfl⟩
    case overlayMissed =>
      rw [OutPort.readOverlay_inside hk hg htop hheight,
        Sink.read_missed fun z zs hq hz => hmiss z zs hq ((hdue ..).mp hz)] at hv
      subst hv
      exact ⟨rfl, OutPort.merged_none _, rfl⟩
    case overlayConsumed =>
      rw [OutPort.readOverlay_inside hk hg htop hheight, Sink.read_consumed hq ((hdue ..).mpr hz)] at hv
      subst hv
      exact ⟨rfl, rfl, OutPort.merged_length hk _ z, fun c hc => OutPort.merged_getElem? hk _ z hc⟩

end Sys2Proof.Machine
end

section
/-! PROOFS. An output frame start: the take-over of both records, the frame presented, the silence judged, and the Frame Lock
consulted (R98, R105, R108, R116, R117, R120, R123 to R127, R130, R134 to R137, R146, R157). -/

namespace Sys2Proof.Machine

/-! ### The take-over of a record -/

/-- The record once its shadow, if it has one, has been taken over (R97, R98). -/
def Sink.takenOver (t : List TableEntry) (role : Role) (k : Sink) : Sink :=
  match k.shadow with
  | none => k
  | some v =>
    let k1 := if k.active = v.sub then k else k.change t v.sub
    match role with
    | .main => { k1 with shadow := none }
    | .overlay => { k1 with shadow := none, x := v.x, y := v.y }

/-- The take-over of the record's shadow is a subscription change (R97, R98). -/
def Sink.resubscribes (k : Sink) : Bool := k.shadow.any (fun v => decide (v.sub ≠ k.active))

section TakeOver

variable {t : List TableEntry} {role : Role} {k : Sink}

theorem Sink.takenOver_shadow : (k.takenOver t role).shadow = none := by
  unfold Sink.takenOver
  cases hv : k.shadow with
  | none => exact hv
  | some v => cases role <;> rfl

theorem Sink.takenOver_none (h : k.shadow = none) : k.takenOver t role = k := by rw [Sink.takenOver, h]

/-- A shadow names the record's subscription from then on, and an OVERLAY record's place (R98). -/
theorem Sink.takenOver_overlay_placed {v : Placed} (h : k.shadow = some v) :
    (k.takenOver t .overlay).active = v.sub ∧ (k.takenOver t .overlay).x = v.x ∧ (k.takenOver t .overlay).y = v.y := by
  simp only [Sink.takenOver, h]
  refine ⟨?_, trivial, trivial⟩
  split_ifs with ha
  · exact ha
  · rfl

/-- Without a subscription change the record keeps all but its shadow and its place. -/
theorem Sink.takenOver_same (h : ∀ v, k.shadow = some v → v.sub = k.active) :
    k.takenOver t role =
      { k with shadow := none, x := (k.takenOver t role).x, y := (k.takenOver t role).y } := by
  unfold Sink.takenOver
  cases hv : k.shadow with
  | none => simp only [← hv]
  | some v =>
    have ha : k.active = v.sub := (h v hv).symm
    cases role <;> simp only [if_pos ha]

/-- A subscription change leaves the record without a frame (R97). -/
theorem Sink.takenOver_change {v : Placed} (h : k.shadow = some v) (hv : v.sub ≠ k.active) :
    (k.takenOver t role).active = v.sub ∧ (k.takenOver t role).cur = none ∧ (k.takenOver t role).queue = [] := by
  simp only [Sink.takenOver, h, if_neg hv.symm]
  cases role <;> exact ⟨rfl, rfl, rfl⟩

theorem Sink.resubscribes_of {v : Placed} (h : k.shadow = some v) (hv : v.sub ≠ k.active) : k.resubscribes = true := by
  simp [Sink.resubscribes, h, hv]

theorem Sink.resubscribes_eq_false (h : ∀ v, k.shadow = some v → v.sub = k.active) : k.resubscribes = false := by
  unfold Sink.resubscribes
  cases hv : k.shadow with
  | none => rfl
  | some v => simp [h v hv]

end TakeOver

/-- The Frame Lock once the shadow of MAIN has been taken over (R116, R117). -/
def OutPort.takenLock (o : OutPort) : FrameLock :=
  if o.main.resubscribes then o.lock.onSubscribe o.cfg false (o.main.shadow.bind Placed.sub) else o.lock

theorem OutPort.takenLock_same {o : OutPort} (h : ∀ v, o.main.shadow = some v → v.sub = o.main.active) :
    o.takenLock = o.lock := by
  rw [OutPort.takenLock, Sink.resubscribes_eq_false h]
  rfl

theorem OutPort.takenLock_change {o : OutPort} {v : Placed} (h : o.main.shadow = some v) (hv : v.sub ≠ o.main.active) :
    o.takenLock = o.lock.onSubscribe o.cfg false v.sub := by
  rw [OutPort.takenLock, Sink.resubscribes_of h hv, h]
  rfl

theorem OutPort.takeOver_main (t : List TableEntry) (o : OutPort) : o.takeOver t .main =
    ({ o with main := o.main.takenOver t .main, lock := o.takenLock }, o.main.resubscribes) := by
  cases hs : o.main.shadow with
  | none =>
    have hsame : ∀ v, o.main.shadow = some v → v.sub = o.main.active := by simp [hs]
    rw [Sink.takenOver_none hs, OutPort.takenLock_same hsame, Sink.resubscribes_eq_false hsame]
    simp only [OutPort.takeOver, OutPort.sink, hs]
  | some v =>
    by_cases ha : o.main.active = v.sub
    · have hsame : ∀ w, o.main.shadow = some w → w.sub = o.main.active := by simp [hs, ha]
      rw [OutPort.takenLock_same hsame, Sink.resubscribes_eq_false hsame]
      simp only [OutPort.takeOver, OutPort.sink, OutPort.subscribe, OutPort.mapSink, Sink.takenOver, hs, if_pos ha]
    · rw [OutPort.takenLock_change hs (Ne.symm ha), Sink.resubscribes_of hs (Ne.symm ha)]
      simp only [OutPort.takeOver, OutPort.sink, OutPort.subscribe, OutPort.mapSink, Sink.takenOver, hs, if_neg ha]

theorem OutPort.withOverlay_self {o : OutPort} {x : Option Sink} (h : o.overlay = x) : { o with overlay := x } = o := by
  subst h; rfl

theorem OutPort.takeOver_overlay_eq (t : List TableEntry) (o : OutPort) : o.takeOver t .overlay =
    ({ o with overlay := o.overlay.map (Sink.takenOver t .overlay) }, o.overlay.any Sink.resubscribes) := by
  cases hk : o.overlay with
  | none =>
    rw [Option.map_none, OutPort.withOverlay_self hk]
    simp only [OutPort.takeOver, OutPort.sink, hk]
    rfl
  | some k =>
    rw [Option.map_some, Option.any_some]
    cases hs : k.shadow with
    | none =>
      have hsame : ∀ v, k.shadow = some v → v.sub = k.active := by simp [hs]
      rw [Sink.takenOver_none hs, Sink.resubscribes_eq_false hsame, OutPort.withOverlay_self hk]
      simp only [OutPort.takeOver, OutPort.sink, hk, hs]
    | some v =>
      by_cases ha : k.active = v.sub
      · have hsame : ∀ w, k.shadow = some w → w.sub = k.active := by simp [hs, ha]
        rw [Sink.resubscribes_eq_false hsame]
        simp only [OutPort.takeOver, OutPort.sink, OutPort.subscribe, OutPort.mapSink, Sink.takenOver, hk, hs, if_pos ha,
          Option.map_some]
      · rw [Sink.resubscribes_of hs (Ne.symm ha)]
        simp only [OutPort.takeOver, OutPort.sink, OutPort.subscribe, OutPort.mapSink, Sink.takenOver, hk, hs, if_neg ha,
          Option.map_some]

/-! ### The frame presented -/

theorem Sink.purge_queue (k : Sink) :
    k.purge.queue = k.queue.filter (fun x => k.cur.map FrameInfo.no == some x.frame) := by
  unfold Sink.purge
  cases k.cur with
  | none => exact (List.filter_eq_nil_iff.mpr fun _ _ => Bool.false_ne_true).symm
  | some f => exact List.filter_congr fun x _ => by simp [eq_comm]

/-- A purge leaves the records of the current frame alone (R105). -/
theorem Sink.mem_purge_queue {k : Sink} {x : LineRec} (h : x ∈ k.purge.queue) : k.cur.map FrameInfo.no = some x.frame := by
  rw [Sink.purge_queue] at h
  exact eq_of_beq (List.mem_filter.mp h).2

/-- The record at an output frame start, once its shadow has been taken over (R98, R105, R108). -/
def Sink.framed (t : List TableEntry) (role : Role) (watched : Sink → Bool) (k : Sink) : Sink :=
  ((k.takenOver t role).purge).judgeSilence (watched (k.takenOver t role))

section FramedSink

variable (t : List TableEntry) (role : Role) (watched : Sink → Bool) {k : Sink}

/-- Whatever was taken over, the current frame is the presented one, and records of other frames have gone (R105). -/
theorem Sink.framed_presented (k : Sink) :
    (k.framed t role watched).shadow = none ∧ (k.framed t role watched).markerSeen = false ∧
    (k.framed t role watched).presented = (k.framed t role watched).cur ∧
    ∀ x ∈ (k.framed t role watched).queue, (k.framed t role watched).cur.map FrameInfo.no = some x.frame :=
  ⟨Sink.takenOver_shadow, rfl, rfl, fun _ hx => Sink.mem_purge_queue (k := k.takenOver t role) hx⟩

/-- Without a subscription change the record keeps its frame, and its silent frames are counted (R105, R108). -/
theorem Sink.framed_same (h : ∀ v, k.shadow = some v → v.sub = k.active) :
    (k.framed t role watched).active = k.active ∧ (k.framed t role watched).cur = k.cur ∧
      (k.framed t role watched).queue = k.queue.filter (fun x => k.cur.map FrameInfo.no == some x.frame) ∧
      (k.framed t role watched).silent =
        if watched (k.takenOver t role) then (if k.markerSeen then 0 else k.silent + 1) else k.silent := by
  have hsame := Sink.takenOver_same (t := t) (role := role) h
  have hqueue := (k.takenOver t role).purge_queue
  unfold Sink.framed
  generalize k.takenOver t role = k' at hsame hqueue ⊢
  rw [hsame] at hqueue ⊢
  exact ⟨rfl, rfl, hqueue, rfl⟩

/-- A subscription change leaves the record without a frame (R97). -/
theorem Sink.framed_change {v : Placed} (h : k.shadow = some v) (hv : v.sub ≠ k.active) :
    (k.framed t role watched).active = v.sub ∧ (k.framed t role watched).cur = none ∧
      (k.framed t role watched).queue = [] := by
  obtain ⟨hactive, hcur, hqueue⟩ := Sink.takenOver_change (t := t) (role := role) h hv
  refine ⟨hactive, hcur, (Sink.purge_queue _).trans ?_⟩
  rw [hqueue]
  rfl

end FramedSink

/-- A MAIN record is watched for silence while its port is in TRACK (R108). -/
def OutPort.watchesMain (o : OutPort) (_ : Sink) : Bool := o.takenLock.state == .track

/-- An OVERLAY record is watched for silence while its source is PRESENT (R108). -/
def Sink.isPresent (k : Sink) : Bool := k.source == .present

/-- The port at an output frame start, before its Frame Lock is consulted (R135). -/
def OutPort.framed (t : List TableEntry) (o : OutPort) : OutPort :=
  { o with
    main := o.main.framed t .main o.watchesMain
    overlay := o.overlay.map (Sink.framed t .overlay Sink.isPresent)
    lock := o.takenLock
    pres := { o.pres with
      fillFrame := false
      cutDone := false
      lastLine := o.cfg.fillLine
      gen := if o.cfg.dither = .fixed then o.cfg.seed else o.pres.gen
      line := 0
      nextLine := 0
      pixel := o.pres.pixel - o.cfg.blankPixels
      driven := []
      ahead := []
      blank := blankAfter o.cfg.swb (o.main.resubscribes || o.overlay.any Sink.resubscribes) o.pres.blank }
    cam := { o.cam with insetHold := o.cam.insetHold && o.cam.state != .idle } }

theorem OutPort.frameStart_eq (t : List TableEntry) (o : OutPort) : o.frameStart t = (o.framed t).consult := by
  simp only [OutPort.frameStart, OutPort.takeOver_main, OutPort.takeOver_overlay_eq, OutPort.purge, Option.map_map]
  rfl

/-- A released port's camera inset hold ends (R157). -/
theorem OutPort.framed_cam (t : List TableEntry) (o : OutPort) :
    (o.framed t).cam = { o.cam with insetHold := if o.cam.state = .idle then false else o.cam.insetHold } := by
  have hhold : (o.cam.insetHold && o.cam.state != .idle) = if o.cam.state = .idle then false else o.cam.insetHold := by
    by_cases hidle : o.cam.state = .idle <;> simp [hidle]
  rw [OutPort.framed, hhold]

theorem OutPort.framed_overlay (t : List TableEntry) {o : OutPort} {k : Sink} (hk : o.overlay = some k) :
    (o.framed t).overlay = some (k.framed t .overlay Sink.isPresent) := by
  rw [OutPort.framed, hk, Option.map_some]

/-- A subscription change of either record sets the switch-blank count (R137). -/
theorem OutPort.framed_blank_change (t : List TableEntry) {o : OutPort} {k : Sink}
    (h : o.main.resubscribes = true ∨ (o.overlay = some k ∧ k.resubscribes = true)) :
    (o.framed t).pres.blank = o.cfg.swb := by
  have hchanged : (o.main.resubscribes || o.overlay.any Sink.resubscribes) = true := by
    rcases h with hmain | ⟨hk, hoverlay⟩
    · rw [hmain, Bool.true_or]
    · rw [hk, Option.any_some, hoverlay, Bool.or_true]
  exact if_pos hchanged

/-- Otherwise it counts down (R137). -/
theorem OutPort.framed_blank_same (t : List TableEntry) {o : OutPort} (hmain : o.main.resubscribes = false)
    (hoverlay : ∀ k, o.overlay = some k → k.resubscribes = false) : (o.framed t).pres.blank = o.pres.blank - 1 := by
  have hkept : o.overlay.any Sink.resubscribes = false := by
    cases hk : o.overlay with
    | none => rfl
    | some k => exact hoverlay k hk
  have hchanged : ¬(o.main.resubscribes || o.overlay.any Sink.resubscribes) = true := by simp [hmain, hkept]
  exact if_neg hchanged

/-! ### The consultation of the Frame Lock -/

section Consult

variable {o : OutPort}

theorem OutPort.consult_free (h : o.lock.state = .free) : o.consult = (o.endStretch 0, noCause) := by
  rw [OutPort.consult, h]

theorem OutPort.consult_holdover (h : o.lock.state = .holdover) :
    o.consult = ({ o.endStretch 0 with lock := (o.endStretch 0).lock.countHoldover }, noCause) := by
  rw [OutPort.consult, h]

/-- With the lead wanted ACQUIRE goes to TRACK, and the computation is made (R123). -/
theorem OutPort.consult_acquire_reached (h : o.lock.state = .acquire) (hlead : o.cfg.t ≤ o.main.lead) :
    o.consult = (o.endStretch 0).acquireTrack o.main.lead := by
  rw [OutPort.consult, h]
  exact if_pos hlead

/-- Short of that lead a hold begins (R120). -/
theorem OutPort.consult_acquire_short (h : o.lock.state = .acquire) (hlead : o.main.lead < o.cfg.t) :
    o.consult = (o.beginStretch, noCause) := by
  rw [OutPort.consult, h]
  exact if_neg (Nat.not_le.mpr hlead)

/-- TRACK waits while its source is about to be lost (R119). -/
theorem OutPort.consult_track_silent (h : o.lock.state = .track) (hsilent : o.main.silenceDue = true) :
    o.consult = (o.endStretch 0, noCause) := by
  rw [OutPort.consult, h]
  exact if_pos hsilent

/-- TRACK stretches on an empty store (R127). -/
theorem OutPort.consult_track_empty (h : o.lock.state = .track) (hsilent : o.main.silenceDue = false)
    (hlead : o.main.lead = 0) (hmax : 0 < o.cfg.vStretchMax) : o.consult = (o.beginStretch, noCause) := by
  rw [OutPort.consult, h]
  exact (if_neg (Bool.eq_false_iff.mp hsilent)).trans (if_pos ⟨hlead, hmax⟩)

/-- Elsewhere TRACK makes its computation (R124 to R126). -/
theorem OutPort.consult_track_compute (h : o.lock.state = .track) (hsilent : o.main.silenceDue = false)
    (hlead : 0 < o.main.lead ∨ o.cfg.vStretchMax = 0) : o.consult = (o.endStretch 0).compute o.main.lead := by
  rw [OutPort.consult, h]
  exact (if_neg (Bool.eq_false_iff.mp hsilent)).trans (if_neg (by omega))

end Consult

section Framed

variable {t : List TableEntry} {o : OutPort} {v : Placed}

/-- A MAIN record that has lost its subscription leaves the lock in FREE (R116, R117). -/
theorem OutPort.framed_consult_free (h : o.main.shadow = some v) (hv : v.sub ≠ o.main.active) (hnone : v.sub = none) :
    (o.framed t).consult.1.lock = { o.lock.enterFree o.cfg with stretch := none, linesAdded := 0 } ∧
      (o.framed t).consult.1.pres.pos = .active := by
  have hlock : (o.framed t).lock = o.lock.enterFree o.cfg := by
    refine (OutPort.takenLock_change h hv).trans ?_
    rw [hnone]
    rfl
  have hstate : (o.framed t).lock.state = .free := by rw [hlock]; rfl
  rw [OutPort.consult_free hstate, OutPort.endStretch, hlock]
  exact ⟨rfl, rfl⟩

/-- A MAIN record on a new stream leaves the lock in ACQUIRE, at its first added line (R116, R117, R120). -/
theorem OutPort.framed_consult_acquire (h : o.main.shadow = some v) (hv : v.sub ≠ o.main.active) (hsome : v.sub ≠ none)
    (ht : 1 ≤ o.cfg.t) :
    (o.framed t).consult.1.lock = { o.lock.enterAcquire o.cfg o.lock.keptInteg with
      stretch := some { added := 0, ending := false, limit := false } } ∧ (o.framed t).consult.1.pres.pos = .added := by
  obtain ⟨stream, hstream⟩ := Option.ne_none_iff_exists'.mp hsome
  have hlock : (o.framed t).lock = o.lock.enterAcquire o.cfg o.lock.keptInteg := by
    refine (OutPort.takenLock_change h hv).trans ?_
    rw [hstream]
    rfl
  obtain ⟨-, hcur, -⟩ := Sink.takenOver_change (t := t) (role := .main) h hv
  have hpresented : (o.framed t).main.presented = none := hcur
  have hlead : (o.framed t).main.lead = 0 := by rw [Sink.lead, hpresented]
  have hstate : (o.framed t).lock.state = .acquire := by rw [hlock]; rfl
  rw [OutPort.consult_acquire_short hstate (hlead ▸ ht), OutPort.beginStretch, hlock]
  exact ⟨rfl, rfl⟩

section Same

variable (h : ∀ v, o.main.shadow = some v → v.sub = o.main.active)
include h

/-- Without a subscription change of MAIN the consultation finds the lock as it was. -/
theorem OutPort.framed_lock : (o.framed t).lock = o.lock := OutPort.takenLock_same h

/-- A frame that goes straight to its active lines has added none (R136). -/
theorem OutPort.framed_endStretch (hstretch : o.lock.stretch = none) :
    ((o.framed t).endStretch 0).lock = { o.lock with linesAdded := 0 } := by
  rw [OutPort.endStretch, OutPort.framed_lock h, ← hstretch]

end Same

end Framed

/-! ### The command -/

theorem OutPort.canStart_iff {o : OutPort} : o.canStart = true ↔
    o.pres.pos = .blanking ∧ o.cfg.blankPixels ≤ o.pres.pixel ∧ o.pres.stopPending = false ∧ o.lock.stretch = none := by
  simp [OutPort.canStart, OutPort.frameOver, and_assoc]

theorem OutPort.canStart_early {o : OutPort} (h : o.pres.pos ≠ .blanking ∨ o.pres.pixel < o.cfg.blankPixels ∨
    o.pres.stopPending = true ∨ o.lock.stretch ≠ none) : ¬o.canStart = true := by
  intro hstart
  obtain ⟨hpos, hpixel, hstop, hstretch⟩ := OutPort.canStart_iff.mp hstart
  rcases h with hne | hlt | hpending | hsome
  · exact hne hpos
  · omega
  · exact Bool.noConfusion (hstop.symm.trans hpending)
  · exact hsome hstretch

section Command

variable {s : State} {p : PortId} {o : OutPort} (hrun : s.running) (hp : s.port p = .output o)
  (hquiet : o.quiet s.tick = true)
include hrun hp hquiet

theorem exec_outputFrameStart (hstart : o.canStart = true) :
    let r := (o.framed s.view.table).consult
    exec (.outputFrameStart p) s = .next ((s.setPort p (.output r.1)).raise r.2) := by
  intro r
  have hstarted : (if o.canStart then o.frameStart s.view.table else (o, noCause)) = r :=
    (if_pos hstart).trans (o.frameStart_eq _)
  rw [← hstarted]
  exact live_settled hrun hp hquiet fun s o => if o.canStart then o.frameStart s.view.table else (o, noCause)

/-- A port whose frame is not over takes no frame start (R134, R136, R148). -/
theorem exec_outputFrameStart_early (hstart : ¬o.canStart = true) : exec (.outputFrameStart p) s = .next s := by
  have hidle : (if o.canStart then o.frameStart s.view.table else (o, noCause)) = (o, noCause) := if_neg hstart
  have hexec := live_settled hrun hp hquiet fun s o => if o.canStart then o.frameStart s.view.table else (o, noCause)
  rw [hidle, State.raise_noCause, ← hp, State.setPort_self] at hexec
  exact hexec

end Command

/-- Settles O45: no frame start before the frame is over; then the records, the Presenter, and the Frame Lock. -/
theorem outputFrameStarts : Obligations.OutputFrameStarts := by
  intro s p o hrun hp hquiet ht blank
  refine ⟨fun hearly => exec_outputFrameStart_early hrun hp hquiet (OutPort.canStart_early hearly),
    fun hpos hpixel hstop hstretch => ?_⟩
  have hstart : o.canStart = true := OutPort.canStart_iff.mpr ⟨hpos, hpixel, hstop, hstretch⟩
  have hexec := exec_outputFrameStart hrun hp hquiet hstart
  obtain ⟨hmain, hoverlay, -, hcam, hblank, hfill, hcut, hline, hpixels, hdriven, hahead, hgen, hlast, -⟩ :=
    (o.framed s.view.table).consult_frame
  obtain ⟨hshadow, hseen, hpresented, hqueue⟩ := Sink.framed_presented s.view.table .main o.watchesMain o.main
  have hatt : { s.att with pending := s.att.pending ||| noCause } = s.att :=
    congrArg (fun m => { s.att with pending := m }) BitVec.or_zero
  refine ⟨_, _, hexec, by rw [State.port_raise, State.setPort_port], ?_⟩
  dsimp only
  rw [State.setPort_raise_att, hmain, hoverlay, hcam, hblank, hfill, hcut, hline rfl, hpixels, hdriven, hahead, hgen, hlast]
  refine ⟨rfl, fun k hk => ?overlay, rfl, rfl, rfl, rfl, rfl, rfl, rfl, OutPort.framed_cam .., hshadow, hseen, hpresented,
    hqueue, fun v hv hne => ?mainChange, fun k v hk hv hne => ?overlayChange, fun hsame => ?mainSame,
    State.setPort_link s p _, State.setPort_sched s p _, State.setPort_view s p _, State.setPort_svc s p _,
    State.setPort_node s p _⟩
  case overlay =>
    obtain ⟨hshadow, hseen, hpresented, hqueue⟩ := Sink.framed_presented s.view.table .overlay Sink.isPresent k
    refine ⟨_, OutPort.framed_overlay _ hk, hshadow, hseen, fun hsame => ?_, hpresented, hqueue,
      fun v hv => Sink.takenOver_overlay_placed hv, fun hnone => ?_⟩
    · obtain ⟨-, -, hkept, hsilent⟩ := Sink.framed_same s.view.table .overlay Sink.isPresent hsame
      refine ⟨hkept, hsilent.trans ?_⟩
      rw [Sink.takenOver_same hsame]
      simp only [Sink.isPresent, beq_iff_eq]
    · rw [Sink.framed, Sink.takenOver_none hnone]
      exact ⟨rfl, rfl, rfl, rfl⟩
  case mainChange =>
    obtain ⟨hactive, hcur, hempty⟩ := Sink.framed_change s.view.table .main o.watchesMain hv hne
    have hfree := OutPort.framed_consult_free (t := s.view.table) hv hne
    have hacquire := OutPort.framed_consult_acquire (t := s.view.table) hv hne
    refine ⟨hactive, hcur, hempty, OutPort.framed_blank_change (k := o.main) _ (.inl (Sink.resubscribes_of hv hne)),
      fun hwanted => ?_, fun hnone => ?_, fun hsome ht => ?_⟩
    · by_cases hnone : v.sub = none
      · rw [(hfree hnone).1]
        exact ⟨rfl, rfl, rfl⟩
      · rw [(hacquire hnone (hwanted.resolve_left hnone)).1]
        exact ⟨rfl, rfl, rfl⟩
    · obtain ⟨hlock, hpos⟩ := hfree hnone
      rw [hlock]
      exact ⟨rfl, rfl, rfl, hpos⟩
    · obtain ⟨hlock, hpos⟩ := hacquire hsome ht
      rw [hlock]
      exact ⟨rfl, rfl, rfl, hpos⟩
  case overlayChange =>
    obtain ⟨-, hcur, hempty⟩ := Sink.framed_change s.view.table .overlay Sink.isPresent hv hne
    exact ⟨OutPort.framed_blank_change _ (.inr ⟨hk, Sink.resubscribes_of hv hne⟩), _, OutPort.framed_overlay _ hk, hcur,
      hempty⟩
  case mainSame =>
    obtain ⟨hactive, hcur, hkept, hsilent⟩ := Sink.framed_same s.view.table .main o.watchesMain hsame
    have hlock := OutPort.framed_lock (t := s.view.table) hsame
    have hended := OutPort.framed_endStretch (t := s.view.table) hsame hstretch
    have hstate : ∀ {x}, o.lock.state = x → (o.framed s.view.table).lock.state = x := fun h => (congrArg _ hlock).trans h
    refine ⟨hactive, hcur, hkept, hsilent.trans ?silence, fun hoverlaySame => ?blank, fun hfree => ?free,
      fun hholdover => ?holdover, fun hacquire hlead => ?reached, fun hacquire hlead => ?short,
      fun htrack hlost => ?lost, fun htrack hheard hlead => ?computed, fun htrack hheard hlead hmax => ?empty⟩
    case silence =>
      simp only [OutPort.watchesMain, OutPort.takenLock_same hsame, beq_iff_eq]
    case blank =>
      exact OutPort.framed_blank_same _ (Sink.resubscribes_eq_false hsame)
        fun k hk => Sink.resubscribes_eq_false fun v => hoverlaySame k v hk
    case free =>
      rw [OutPort.consult_free (hstate hfree)]
      exact ⟨hended, rfl, hatt⟩
    case holdover =>
      rw [OutPort.consult_holdover (hstate hholdover), hended]
      exact ⟨rfl, rfl, hatt⟩
    case reached =>
      rw [OutPort.consult_acquire_reached (hstate hacquire) hlead, OutPort.acquireTrack, OutPort.compute, hended]
      exact ⟨rfl, (FrameLock.compute_frame _ _ _).1, rfl, rfl⟩
    case short =>
      rw [OutPort.consult_acquire_short (hstate hacquire) hlead, OutPort.beginStretch, hlock]
      exact ⟨rfl, rfl, hatt⟩
    case lost =>
      rw [OutPort.consult_track_silent (hstate htrack) hlost]
      exact ⟨hended, rfl, hatt⟩
    case computed =>
      rw [OutPort.consult_track_compute (hstate htrack) hheard hlead, OutPort.compute, hended]
      exact ⟨rfl, rfl, rfl⟩
    case empty =>
      rw [OutPort.consult_track_empty (hstate htrack) hheard hlead hmax, OutPort.beginStretch, hlock]
      exact ⟨rfl, rfl, hatt⟩

end Sys2Proof.Machine
end

section
/-! PROOFS. The frames of the service port, and a message in flight that runs out (R163, R164, R169, R170, R183). -/

namespace Sys2Proof.Machine

/-! ### A frame at the service port -/

/-- A request on a running part is carried out when its arguments fit the length byte of a frame (12.5). -/
theorem live_request {s : State} (hrun : s.running) {args : List Byte} (hlen : args.length ≤ 255) (f : State → State) :
    live (fun s => if argsFit args then f s else s) s = .next (f s) := by
  rw [live_running _ _ hrun, if_pos (by simpa [argsFit] using hlen)]

theorem exec_unknownRequest {s : State} (hrun : s.running) {k : Byte} {args : List Byte} (hread : k ≠ 0)
    (hkind : 13 < k.toNat) (hlen : args.length ≤ 255) :
    exec (.unknownRequest k args) s = .next (s.respond .unknown []) := by
  have hwf : Instr.wf (.unknownRequest k args) = true := by
    simpa [Instr.wf, definedKind, argsFit, hkind, hlen] using hread
  change live (fun s => if Instr.wf (.unknownRequest k args) then s.respond .unknown [] else s) s = _
  rw [live_running _ _ hrun, if_pos hwf]

theorem exec_requestFrameDiscarded {s : State} (hrun : s.running) {frame : List Byte} (h : frameMismatch frame = true) :
    exec (.requestFrameDiscarded frame) s = .next s.discardFrame := by
  change live (fun s => if frameMismatch frame then s.discardFrame else s) s = _
  rw [live_running _ _ hrun, if_pos h]

theorem exec_readFrame {s : State} (hrun : s.running) {n : Nat} (hn : 1 ≤ n) :
    exec (.readFrame n) s = .next (s.readFrame n) := by
  change live (fun s => if 1 ≤ n then s.readFrame n else s) s = _
  rw [live_running _ _ hrun, if_pos hn]

/-! ### The bytes of a read frame -/

theorem drivenBytes_length (r : Option Response) (n : Nat) : (drivenBytes r n).length = n - 1 := by
  rw [drivenBytes, List.length_append, List.length_take, List.length_replicate]
  omega

/-- From its second byte on a read frame drives the response, and 0 beyond its end (R183). -/
theorem drivenBytes_getElem? (r : Option Response) {n i : Nat} (hi : i < n - 1) :
    (drivenBytes r n)[i]? = some ((responseBytes r).getD i 0) := by
  rw [drivenBytes]
  by_cases hin : i < (responseBytes r).length
  · rw [List.getElem?_append_left (by rw [List.length_take]; omega), List.getElem?_take_of_lt hi,
      List.getD_eq_getElem?_getD, List.getElem?_eq_getElem hin, Option.getD_some]
  · have hend : (responseBytes r).length ≤ i := Nat.le_of_not_lt hin
    have hzeros : i - ((responseBytes r).take (n - 1)).length < n - 1 - (responseBytes r).length := by
      rw [List.length_take]; omega
    rw [List.getElem?_append_right (by rw [List.length_take]; omega), List.getElem?_replicate_of_lt hzeros,
      List.getD_eq_default _ _ hend]
    rfl

/-- Settles O51: a frame that is discarded, a read frame, and a frame of an undefined kind. -/
theorem framesWithoutRequest : Obligations.FramesWithoutRequest := by
  refine ⟨rfl, fun s hrun => ⟨fun frame hbad => exec_requestFrameDiscarded hrun hbad, fun n hn => ?_,
    fun k args hread hkind hlen => exec_unknownRequest hrun hread hkind hlen⟩⟩
  refine ⟨s.readFrame n, exec_readFrame hrun hn, rfl, drivenBytes_length _ _, fun i hi => ?_⟩
  refine (drivenBytes_getElem? _ hi).trans ?_
  cases s.svc.response <;> rfl

/-! ### A message that is LOST -/

theorem OutMessage.timedOut_of {now t0 : Word} {m : OutMessage} (hsent : m.sent = some t0)
    (hold : 3000 ≤ elapsed now t0) : m.timedOut now = true := by
  simpa [OutMessage.timedOut, hsent] using hold

/-- The result of a LOST broadcast, and of no other LOST message, carries counts (R169, log 7). -/
theorem lostCounts_isSome (n : Nat) (m : OutMessage) : (lostCounts n m).isSome = m.target.isNone := by
  cases h : m.target <;> simp [lostCounts, h]

/-- The result of a message that has run out (R169). -/
def State.lostResult (s : State) (m : OutMessage) : MessageResult :=
  { tag := m.tag, outcome := .lost, counts := lostCounts s.free m }

/-- The state with the free values of a LOST message's result used (log 7). -/
def State.countsUsed (s : State) (m : OutMessage) : State :=
  { s with free := if m.target.isNone then s.free + 2 else s.free }

/-- A message in flight that has run out leaves with a LOST result (R169). -/
theorem exec_messageTimeout_lost {s : State} (hrun : s.running) {tag : Byte} {m : OutMessage} {t0 : Word}
    (hin : inFlight s.svc.outbox tag = some m) (hsent : m.sent = some t0) (hold : 3000 ≤ elapsed s.tick t0) :
    exec (.messageTimeout tag) s = .next ((s.countsUsed m).giveResult (s.lostResult m)) := by
  change live (fun s => s.messageTimeout tag) s = _
  obtain ⟨-, rfl, -⟩ := inFlight_some hin
  rw [live_running _ _ hrun, State.messageTimeout, hin]
  exact congrArg _ (if_pos (OutMessage.timedOut_of hsent hold))

/-- Settles O41: the message in flight leaves with its result. -/
theorem messageLost : Obligations.MessageLost := by
  intro s tag m t0 hrun hin hsent hold
  obtain ⟨-, rfl, -⟩ := inFlight_some hin
  exact ⟨_, s.lostResult m, exec_messageTimeout_lost hrun hin hsent hold, rfl, rfl, rfl, lostCounts_isSome _ _,
    State.isPending_raise _ _, rfl, rfl, rfl, rfl, rfl, rfl, rfl⟩

end Sys2Proof.Machine
end

section
/-! PROOFS. The message requests SEND, TAKE and RESULT (R164, R168, R170, R171), with the bytes of their answers (12.5). -/

namespace Sys2Proof.Machine

/-! ### Bytes -/

theorem byte1_eq (n : Nat) : byte1 n = [BitVec.ofNat 8 n] := by simp [byte1, beBytes]

theorem flagByte_eq (b : Bool) : flagByte b = [if b = true then 1 else 0] := rfl

theorem wordsOfBytes_length (l : List Byte) : (wordsOfBytes l).length = l.length / 4 := by
  induction l using wordsOfBytes.induct with
  | case1 a b c d rest ih => simp only [wordsOfBytes, List.length_cons, ih]; omega
  | case2 l hshort =>
    match l with
    | [] | [_] | [_, _] | [_, _, _] => simp [wordsOfBytes]
    | a :: b :: c :: d :: rest => exact absurd rfl (hshort a b c d rest)

/-- The words of a byte sequence, the first byte of each in bits 31 to 24 (12.3, R176). -/
theorem wordsOfBytes_getElem? (l : List Byte) {j : Nat} (hj : j < l.length / 4) : (wordsOfBytes l)[j]? = some
    (l.getD (4 * j) 0 ++ l.getD (4 * j + 1) 0 ++ l.getD (4 * j + 2) 0 ++ l.getD (4 * j + 3) 0) := by
  induction l using wordsOfBytes.induct generalizing j with
  | case1 a b c d rest ih =>
    cases j with
    | zero => rfl
    | succ j =>
      have hrest : j < rest.length / 4 := by simp only [List.length_cons] at hj; omega
      exact ih hrest
  | case2 l hshort =>
    match l with
    | [] | [_] | [_, _] | [_, _, _] => simp at hj
    | a :: b :: c :: d :: rest => exact absurd rfl (hshort a b c d rest)

/-! ### The requests on a running part -/

section Requests

variable {s : State} (hrun : s.running) {args : List Byte} (hlen : args.length ≤ 255)
include hrun hlen

theorem exec_send : exec (.send args) s = .next (s.send args) := live_request hrun hlen (State.send · args)

theorem exec_take : exec (.take args) s = .next (s.take args) := live_request hrun hlen (State.take · args)

theorem exec_result : exec (.result args) s = .next (s.result args) := live_request hrun hlen (State.result · args)

end Requests

/-! ### The arguments of SEND -/

/-- The codes of 12.6 for the kind of a message. -/
theorem MessageKind.ofCode_defined {n : Nat} (h : n < 4) : ∃ k, MessageKind.ofCode n = some k ∧ k.code.toNat = n := by
  match n, h with
  | 0, _ => exact ⟨.user, rfl, rfl⟩
  | 1, _ => exact ⟨.cameraOn, rfl, rfl⟩
  | 2, _ => exact ⟨.cameraOff, rfl, rfl⟩
  | 3, _ => exact ⟨.wake, rfl, rfl⟩

theorem MessageKind.ofCode_undefined {n : Nat} (h : 4 ≤ n) : MessageKind.ofCode n = none := by
  match n, h with
  | n + 4, _ => rfl

/-- Broadcast and every other station are targets of SEND (R168). -/
theorem targetArg_some {own : StationNo} {b : Byte} (h : b.toNat = 255 ∨ (b.toNat ≤ 15 ∧ b.toNat ≠ own.toNat)) :
    targetArg own b = some (if b.toNat = 255 then none else some (BitVec.ofNat 4 b.toNat)) := by
  by_cases hall : b.toNat = 255
  · rw [targetArg, if_pos (BitVec.eq_of_toNat_eq hall), if_pos hall]
  · have hne : b ≠ 0xFF#8 := fun hb => hall (by rw [hb]; rfl)
    rw [targetArg, if_neg hne, if_pos (h.resolve_left hall), if_neg hall]

/-- An undefined station and this one are no targets of SEND (R168). -/
theorem targetArg_none {own : StationNo} {b : Byte} (h : (16 ≤ b.toNat ∧ b.toNat ≠ 255) ∨ b.toNat = own.toNat) :
    targetArg own b = none := by
  have hown : own.toNat < 16 := own.isLt
  have hne : b ≠ 0xFF#8 := by
    rintro rfl
    have hff : (0xFF#8).toNat = 255 := rfl
    omega
  rw [targetArg, if_neg hne, if_neg (by omega)]

/-- SEND takes a target, a kind and at most 16 whole words (R168). -/
theorem sendArgs_eq {own : StationNo} {tb kb : Byte} {words : List Byte} {t : Option StationNo} {k : MessageKind}
    (ht : targetArg own tb = some t) (hk : MessageKind.ofCode kb.toNat = some k) (hwhole : words.length % 4 = 0)
    (hmax : words.length ≤ 64) :
    sendArgs own (tb :: kb :: words) = some { target := t, kind := k, user := wordsOfBytes words } := by
  simp only [sendArgs, ht, hk, hwhole, hmax, and_self, if_true]

theorem sendArgs_short {own : StationNo} {args : List Byte} (h : args.length < 2) : sendArgs own args = none := by
  match args, h with
  | [], _ | [_], _ => rfl

/-- What SEND does not take (R168). -/
theorem sendArgs_none {own : StationNo} {tb kb : Byte} {words : List Byte}
    (h : (16 ≤ tb.toNat ∧ tb.toNat ≠ 255) ∨ tb.toNat = own.toNat ∨ 4 ≤ kb.toNat ∨ words.length % 4 ≠ 0 ∨
      64 < words.length) : sendArgs own (tb :: kb :: words) = none := by
  rw [← or_assoc] at h
  rcases h with htarget | hkind | hwords
  · simp only [sendArgs, targetArg_none htarget]
  · simp only [sendArgs, MessageKind.ofCode_undefined hkind]
    cases targetArg own tb <;> rfl
  · have hfit : ¬(words.length % 4 = 0 ∧ words.length ≤ 64) := by omega
    simp only [sendArgs, if_neg hfit]
    split <;> rfl

/-! ### SEND -/

theorem State.send_refused {s : State} (hfull : s.node.state.full = true) {args : List Byte}
    (h : sendArgs s.node.station args = none) : s.send args = s.respond .badArg [] :=
  State.serve_refused hfull (by rw [h]; rfl) _ _

theorem State.send_taken {s : State} (hfull : s.node.state.full = true) {args : List Byte} {a : SendArgs}
    (h : sendArgs s.node.station args = some a) : s.send args = s.sendMessage a := by
  rw [State.send, State.serve_taken hfull (by rw [h]; rfl), h]

/-! ### TAKE and RESULT -/

theorem InMessage.bytes_eq (m : InMessage) : m.bytes =
    [BitVec.ofNat 8 m.source.toNat, BitVec.ofNat 8 m.kind.code.toNat, m.tag, BitVec.ofNat 8 m.words.length] ++
      m.words.flatMap wordBytes ++ [if m.broadcast = true then 1 else 0] := by
  simp only [InMessage.bytes, byte1_eq, listBytes, flagByte_eq, List.cons_append, List.nil_append]

/-- TAKE answers the oldest complete entry and removes it (R171). -/
theorem State.take_complete {s : State} (hfull : s.node.state.full = true) {before after : List InMessage} {m : InMessage}
    (hbox : s.svc.inbox = before ++ m :: after) (hbefore : ∀ x ∈ before, x.complete = false) (hm : m.complete = true) :
    s.take [] = ({ s with svc := { s.svc with inbox := before ++ after } } : State).respond .done m.bytes := by
  have hno : ∀ x ∈ before, ¬x.complete = true := by simpa using hbefore
  have hfind : s.svc.inbox.find? InMessage.complete = some m := by
    rw [hbox, List.find?_append, List.find?_eq_none.mpr hno, Option.none_or, List.find?_cons_of_pos hm]
  have herase : s.svc.inbox.eraseP InMessage.complete = before ++ after := by
    rw [hbox, List.eraseP_append_right _ hno, List.eraseP_cons_of_pos hm]
  rw [State.take, State.serve_taken hfull (ok := ([] : List Byte).isEmpty) rfl, hfind, herase]

theorem State.take_empty {s : State} (hfull : s.node.state.full = true) (h : ∀ x ∈ s.svc.inbox, x.complete = false) :
    s.take [] = s.respond .empty [] := by
  have hfind : s.svc.inbox.find? InMessage.complete = none := List.find?_eq_none.mpr (by simpa using h)
  rw [State.take, State.serve_taken hfull (ok := ([] : List Byte).isEmpty) rfl, hfind]

theorem State.result_oldest {s : State} (hfull : s.node.state.full = true) {r : MessageResult} {rest : List MessageResult}
    (h : s.svc.results = r :: rest) :
    s.result [] = ({ s with svc := { s.svc with results := rest } } : State).respond .done r.bytes := by
  rw [State.result, State.serve_taken hfull (ok := ([] : List Byte).isEmpty) rfl, h]

theorem State.result_empty {s : State} (hfull : s.node.state.full = true) (h : s.svc.results = []) :
    s.result [] = s.respond .empty [] := by
  rw [State.result, State.serve_taken hfull (ok := ([] : List Byte).isEmpty) rfl, h]

/-! ### The statement -/

/-- LOADING and FALLBACK are not among the states of a full station (R20, R164). -/
theorem NodeState.full_eq_false {st : NodeState} (h : st = .loading ∨ st = .fallback) : st.full = false := by
  rcases h with rfl | rfl <;> rfl

/-- Settles O54: SEND, TAKE and RESULT. -/
theorem messagesRequested : Obligations.MessagesRequested := by
  refine ⟨fun s hrun => ⟨fun hstate args hlen => ?unready, fun hfull => ⟨fun args a hlen ha => ⟨fun hbox => ?busy,
    fun hbox => ?sent⟩, fun tb kb words ht hk hwhole hmax => ?args, fun args hlen => ?short, fun tb kb words hlen h => ?badArgs,
    fun args hne hlen => ?argsOfNone, fun before m after hbox hbefore hm => ?take, fun h => ?takeEmpty,
    fun r rest h => ?result, fun h => ?resultEmpty⟩⟩, rfl, rfl⟩
  case unready =>
    have hready := NodeState.full_eq_false hstate
    rw [exec_send hrun hlen, exec_take hrun hlen, exec_result hrun hlen]
    exact ⟨congrArg _ (State.serve_unready hready _ _), congrArg _ (State.serve_unready hready _ _),
      congrArg _ (State.serve_unready hready _ _)⟩
  case busy => rw [exec_send hrun hlen, State.send_taken hfull ha, State.sendMessage, if_pos hbox]
  case sent =>
    rw [exec_send hrun hlen, State.send_taken hfull ha, State.sendMessage, if_neg (Nat.not_le.mpr hbox)]
    refine ⟨_, nextTag s.svc.outbox Config.outboxCap s.svc.tag, rfl, nextTag_fresh _ _ _ (exists_free_tag _ _ hbox),
      nextTag_first _ _ _, rfl, rfl, rfl, rfl, rfl⟩
  case args =>
    obtain ⟨k, hkind, hcode⟩ := MessageKind.ofCode_defined hk
    exact ⟨_, sendArgs_eq (targetArg_some ht) hkind hwhole hmax, rfl, hcode, wordsOfBytes_length _,
      fun j hj => wordsOfBytes_getElem? _ hj⟩
  case short => rw [exec_send hrun (by omega), State.send_refused hfull (sendArgs_short hlen)]
  case badArgs =>
    rw [exec_send hrun (by simp only [List.length_cons]; omega), State.send_refused hfull (sendArgs_none h)]
  case argsOfNone =>
    rw [exec_take hrun hlen, exec_result hrun hlen]
    have hsome : args.isEmpty = false := by simpa using hne
    exact ⟨congrArg _ (State.serve_refused hfull hsome _ _), congrArg _ (State.serve_refused hfull hsome _ _)⟩
  case take =>
    rw [exec_take hrun (by simp), State.take_complete hfull hbox hbefore hm, InMessage.bytes_eq]
    rfl
  case takeEmpty => rw [exec_take hrun (by simp), State.take_empty hfull h]
  case result =>
    rw [exec_result hrun (by simp), State.result_oldest hfull h, MessageResult.bytes]
    cases r.counts <;> simp only [byte1_eq] <;> rfl
  case resultEmpty => rw [exec_result hrun (by simp), State.result_empty hfull h]

end Sys2Proof.Machine
end

section
/-! PROOFS. The requests SHOW and INSET: their arguments, and what they write at the record or leave to Camera Priority (R96,
R158, R164, R165). -/

namespace Sys2Proof.Machine

/-! ### A value written at a record -/

theorem Sink.writeShadow_eq (role : Role) (v : Placed) (k : Sink) :
    k.writeShadow role v = if k.writeIdle role v then k else { k with shadow := some v } := by
  rw [Sink.writeShadow, Sink.writeIdle, Bool.and_assoc]

/-- A MAIN record already has a stream as its value (R96). -/
theorem Sink.writeIdle_main (k : Sink) (v : Placed) : k.writeIdle .main v = true ↔ k.shadow = none ∧ k.active = v.sub := by
  simp [Sink.writeIdle, eq_comm (a := v.sub)]

/-- An OVERLAY record already has a stream and a position as its value (R96). -/
theorem Sink.writeIdle_overlay (k : Sink) (v : Placed) :
    k.writeIdle .overlay v = true ↔ k.shadow = none ∧ k.active = v.sub ∧ k.x = v.x ∧ k.y = v.y := by
  simp [Sink.writeIdle, eq_comm (a := v.sub), eq_comm (a := v.x), eq_comm (a := v.y), and_assoc]

theorem OutPort.holds_iff (m : CameraMode) (o : OutPort) : o.holds m = true ↔ o.cfg.camMode = m ∧ o.cam.state ≠ .idle := by
  simp [OutPort.holds]

section Place

variable {s : State} {p : PortId} {o : OutPort} (hp : s.port p = .output o) {m : CameraMode} (v : Placed)
include hp

/-- What a request leaves at its port, and its answer (R158, R165). -/
theorem State.placeRequest_output (role : Role) : s.placeRequest p m role v =
    (s.setPort p (.output (o.request m role v))).respond (o.requestCode m role v) [] := by
  rw [State.placeRequest, State.onOut_output _ _ _ _ hp, State.raise_noCause, State.codeAt, hp]

/-- A record that Camera Priority holds takes the value into its keeping (R158). -/
theorem State.placeRequest_held (role : Role) (h : o.holds m = true) : s.placeRequest p m role v =
    (s.setPort p (.output { o with cam := { o.cam with resume := some v } })).respond .held [] := by
  rw [State.placeRequest_output hp, OutPort.request, OutPort.requestCode, if_pos h, if_pos h]
  rfl

theorem State.placeRequest_free (role : Role) (h : ¬o.holds m = true) : s.placeRequest p m role v =
    (s.setPort p (.output (o.mapSink role (Sink.writeShadow role v)))).respond
      (if (o.sink role).any (Sink.writeIdle role v) then .done else .accepted) [] := by
  rw [State.placeRequest_output hp, OutPort.request, OutPort.requestCode, if_neg h, if_neg h]

/-- A request at the MAIN record (R96, R165). -/
theorem State.placeRequest_main : s.placeRequest p m .main v =
    if o.holds m then (s.setPort p (.output { o with cam := { o.cam with resume := some v } })).respond .held []
    else if o.main.writeIdle .main v then s.respond .done []
    else (s.setPort p (.output { o with main := { o.main with shadow := some v } })).respond .accepted [] := by
  split_ifs with hheld hidle
  · exact State.placeRequest_held hp v .main hheld
  · rw [State.placeRequest_free hp v .main hheld, OutPort.mapSink, OutPort.sink, Option.any_some, Sink.writeShadow_eq,
      if_pos hidle, if_pos hidle, ← hp, State.setPort_self]
  · rw [State.placeRequest_free hp v .main hheld, OutPort.mapSink, OutPort.sink, Option.any_some, Sink.writeShadow_eq,
      if_neg hidle, if_neg hidle]

/-- A request at the OVERLAY record (R96, R165). -/
theorem State.placeRequest_overlay {k : Sink} (hk : o.overlay = some k) : s.placeRequest p m .overlay v =
    if o.holds m then (s.setPort p (.output { o with cam := { o.cam with resume := some v } })).respond .held []
    else if k.writeIdle .overlay v then s.respond .done []
    else (s.setPort p (.output { o with overlay := some { k with shadow := some v } })).respond .accepted [] := by
  split_ifs with hheld hidle
  · exact State.placeRequest_held hp v .overlay hheld
  · rw [State.placeRequest_free hp v .overlay hheld, OutPort.mapSink, OutPort.sink, hk, Option.map_some, Option.any_some,
      Sink.writeShadow_eq, if_pos hidle, if_pos hidle, ← hk, ← hp, State.setPort_self]
  · rw [State.placeRequest_free hp v .overlay hheld, OutPort.mapSink, OutPort.sink, hk, Option.map_some, Option.any_some,
      Sink.writeShadow_eq, if_neg hidle, if_neg hidle]

end Place

/-! ### Arguments -/

theorem ofBytes_pair (h l : Byte) : ofBytes [h, l] = 256 * h.toNat + l.toNat := by simp [ofBytes]

theorem portArg_none {b : Byte} (h : 2 ≤ b.toNat) : portArg b = none := by
  have h0 : b ≠ 0 := by rintro rfl; simp at h
  have h1 : b ≠ 1 := by rintro rfl; simp at h
  rw [portArg, if_neg h0, if_neg h1]

theorem streamArg_id {b : Byte} (h : b.toNat < 128) : streamArg b = some (some (BitVec.ofNat 7 b.toNat)) :=
  if_pos (by omega)

theorem streamArg_none {b : Byte} (h : 128 ≤ b.toNat ∧ b.toNat ≤ 254) : streamArg b = none := by
  have hff : b ≠ 0xFF#8 := by rintro rfl; exact absurd h.2 (by decide)
  rw [streamArg, if_neg (by omega), if_neg hff]

/-- A request names an undefined port or stream, or a port that is no output (R165). -/
def State.NoPlace (s : State) (pb tb : Byte) : Prop :=
  portArg pb = none ∨ streamArg tb = none ∨ ∃ p, portArg pb = some p ∧ ∀ o, s.port p ≠ .output o

theorem State.noPlace_of {s : State} {pb tb : Byte}
    (h : 2 ≤ pb.toNat ∨ (128 ≤ tb.toNat ∧ tb.toNat ≤ 254) ∨ (pb.toNat = 0 ∧ ∀ o, s.portA ≠ .output o) ∨
      (pb.toNat = 1 ∧ ∀ o, s.portB ≠ .output o)) : s.NoPlace pb tb := by
  rcases h with hport | hstream | ⟨hb, hout⟩ | ⟨hb, hout⟩
  · exact .inl (portArg_none hport)
  · exact .inr (.inl (streamArg_none hstream))
  · obtain rfl : pb = 0 := BitVec.eq_of_toNat_eq hb
    exact .inr (.inr ⟨.a, rfl, hout⟩)
  · obtain rfl : pb = 1 := BitVec.eq_of_toNat_eq hb
    exact .inr (.inr ⟨.b, rfl, hout⟩)

theorem State.outIs_output {s : State} {p : PortId} {o : OutPort} (hp : s.port p = .output o) (f : OutPort → Bool) :
    s.outIs p f = f o := by
  rw [State.outIs, hp]; rfl

theorem State.outIs_other {s : State} {p : PortId} (hp : ∀ o, s.port p ≠ .output o) (f : OutPort → Bool) :
    s.outIs p f = false := by
  unfold State.outIs
  cases h : s.port p with
  | output o => exact absurd h (hp o)
  | input q => rfl
  | unused k => rfl

theorem OutPort.insetOk_iff (x y : Nat) (o : OutPort) :
    o.insetOk x y = true ↔ o.overlay ≠ none ∧ x < o.cfg.ha ∧ y < o.cfg.va := by
  simp [OutPort.insetOk, and_assoc, Option.isSome_iff_ne_none]

section Args

variable {s : State} {pb tb xh xl yh yl : Byte}

theorem State.showArgs_length {args : List Byte} (h : args.length ≠ 2) : s.showArgs args = none := by
  unfold State.showArgs
  split
  next => exact absurd rfl h
  next => rfl

theorem State.insetArgs_length {args : List Byte} (h : args.length ≠ 6) : s.insetArgs args = none := by
  unfold State.insetArgs
  split
  next => exact absurd rfl h
  next => rfl

/-- Arguments without a place give no request (R165). -/
theorem State.noPlace_none {α : Type} (h : s.NoPlace pb tb) (f : OutPort → Bool) (g : PortId → Option StreamId → α) :
    (match portArg pb, streamArg tb with
      | some p, some t => if s.outIs p f then some (g p t) else none
      | _, _ => none) = none := by
  rcases h with hport | hstream | ⟨p, hport, hout⟩
  · rw [hport]
  · rw [hstream]
    cases portArg pb <;> rfl
  · rw [hport]
    cases streamArg tb with
    | none => rfl
    | some t => exact if_neg (by rw [State.outIs_other hout]; exact Bool.false_ne_true)

theorem State.showArgs_noPlace (h : s.NoPlace pb tb) : s.showArgs [pb, tb] = none :=
  State.noPlace_none h (fun _ => true) Prod.mk

theorem State.insetArgs_noPlace (h : s.NoPlace pb tb) : s.insetArgs [pb, tb, xh, xl, yh, yl] = none :=
  State.noPlace_none h (OutPort.insetOk (ofBytes [xh, xl]) (ofBytes [yh, yl]))
    (fun p t => (p, ({ sub := t, x := ofBytes [xh, xl], y := ofBytes [yh, yl] } : Placed)))

variable {p : PortId} {sub : Option StreamId} (hport : portArg pb = some p) (hstream : streamArg tb = some sub)
  {o : OutPort} (hp : s.port p = .output o)
include hport hstream hp

theorem State.showArgs_some : s.showArgs [pb, tb] = some (p, sub) := by
  simp only [State.showArgs, hport, hstream, State.outIs_output hp, if_true]

theorem State.insetArgs_eq : s.insetArgs [pb, tb, xh, xl, yh, yl] =
    if o.insetOk (256 * xh.toNat + xl.toNat) (256 * yh.toNat + yl.toNat) then
      some (p, { sub := sub, x := 256 * xh.toNat + xl.toNat, y := 256 * yh.toNat + yl.toNat })
    else none := by
  simp only [State.insetArgs, hport, hstream, State.outIs_output hp, ofBytes_pair]

end Args

/-! ### The requests -/

section Requests

variable {s : State}

section Running

variable (hrun : s.running) {args : List Byte} (hlen : args.length ≤ 255)
include hrun hlen

theorem exec_showStream : exec (.showStream args) s = .next (s.showStream args) :=
  live_request hrun hlen (State.showStream · args)

theorem exec_inset : exec (.inset args) s = .next (s.inset args) := live_request hrun hlen (State.inset · args)

end Running

variable (hfull : s.node.state.full = true) {args : List Byte}
include hfull

theorem State.showStream_refused (h : s.showArgs args = none) : s.showStream args = s.respond .badArg [] :=
  State.serve_refused hfull (by rw [h]; rfl) _ _

theorem State.inset_refused (h : s.insetArgs args = none) : s.inset args = s.respond .badArg [] :=
  State.serve_refused hfull (by rw [h]; rfl) _ _

theorem State.showStream_taken {p : PortId} {sub : Option StreamId} (h : s.showArgs args = some (p, sub)) :
    s.showStream args = s.placeRequest p .full .main { sub := sub, x := 0, y := 0 } := by
  rw [State.showStream, State.serve_taken hfull (by rw [h]; rfl), h]

theorem State.inset_taken {p : PortId} {v : Placed} (h : s.insetArgs args = some (p, v)) :
    s.inset args = s.placeRequest p .inset .overlay v := by
  rw [State.inset, State.serve_taken hfull (by rw [h]; rfl), h]

end Requests

/-- Settles O52: SHOW and INSET. -/
theorem showAndInset : Obligations.ShowAndInset := by
  refine ⟨fun s o p pb tb sub hrun hport hstream hp hfull => ⟨?main, fun xh xl yh yl k hk hx hy => ?overlay,
    fun xh xl yh yl hbad => ?outside⟩, ⟨rfl, rfl, rfl, fun b hb => streamArg_id hb⟩, fun s hrun => ⟨fun hfull =>
    ⟨fun args hlen h => ?showLength, fun args hlen h => ?insetLength, fun pb tb xh xl yh yl h => ?noPlace⟩,
    fun hstate args hlen => ?unready⟩⟩
  case main =>
    rw [exec_showStream hrun (by simp), State.showStream_taken hfull (State.showArgs_some hport hstream hp),
      State.placeRequest_main hp]
    simp only [OutPort.holds_iff, Sink.writeIdle_main, apply_ite Host.Outcome.next]
  case overlay =>
    have hargs := State.insetArgs_eq (xh := xh) (xl := xl) (yh := yh) (yl := yl) hport hstream hp
    rw [if_pos ((OutPort.insetOk_iff _ _ _).mpr ⟨by simp [hk], hx, hy⟩)] at hargs
    rw [exec_inset hrun (by simp), State.inset_taken hfull hargs, State.placeRequest_overlay hp _ hk]
    simp only [OutPort.holds_iff, Sink.writeIdle_overlay, apply_ite Host.Outcome.next]
  case outside =>
    have hargs := State.insetArgs_eq (xh := xh) (xl := xl) (yh := yh) (yl := yl) hport hstream hp
    have hnot : ¬o.insetOk (256 * xh.toNat + xl.toNat) (256 * yh.toNat + yl.toNat) = true := by
      rw [OutPort.insetOk_iff]
      rintro ⟨hk, hx, hy⟩
      exact hbad.elim hk (fun h => by omega)
    rw [if_neg hnot] at hargs
    rw [exec_inset hrun (by simp), State.inset_refused hfull hargs]
  case showLength => rw [exec_showStream hrun hlen, State.showStream_refused hfull (State.showArgs_length h)]
  case insetLength => rw [exec_inset hrun hlen, State.inset_refused hfull (State.insetArgs_length h)]
  case noPlace =>
    have hno := State.noPlace_of h
    rw [exec_showStream hrun (by simp), State.showStream_refused hfull (State.showArgs_noPlace hno),
      exec_inset hrun (by simp), State.inset_refused hfull (State.insetArgs_noPlace hno)]
    exact ⟨rfl, rfl⟩
  case unready =>
    have hready := NodeState.full_eq_false hstate
    rw [exec_showStream hrun hlen, exec_inset hrun hlen]
    exact ⟨congrArg _ (State.serve_unready hready _ _), congrArg _ (State.serve_unready hready _ _)⟩

end Sys2Proof.Machine
end

section
/-! PROOFS. The queries STATUS, PROBE, ATTENTION and CLEAR, and the ATN and FAULT pins (R91, R113, R132, R150, R160, R162, R164,
R166, R167, R172, R173). -/

namespace Sys2Proof.Machine

/-! ### Bytes -/

theorem byte2_eq (n : Nat) : byte2 n = [BitVec.ofNat 8 (n / 256), BitVec.ofNat 8 n] := by simp [byte2, beBytes]

theorem beBytes_four (n : Nat) : beBytes 4 n =
    [BitVec.ofNat 8 (n / 16777216), BitVec.ofNat 8 (n / 65536), BitVec.ofNat 8 (n / 256), BitVec.ofNat 8 n] := by
  simp [beBytes]

/-- A signed field is in two's complement (12.5). -/
theorem beInt_eq {n w : Nat} (h : (256 : Int) ^ n = ((2 ^ w : Nat) : Int)) (i : Int) :
    beInt n i = beBytes n (BitVec.ofInt w i).toNat := by
  rw [beInt, BitVec.toNat_ofInt, h]

/-! ### The causes pending and enabled -/

theorem Cause.bit_eq (c : Cause) : c.bit = BitVec.twoPow 16 (c.code - 1) := (BitVec.twoPow_eq 16 _).symm

/-- Bit c − 1 of the pending set is cause code c (12.5). -/
theorem State.isPending_eq (s : State) (c : Cause) : s.isPending c = s.att.pending.getLsbD (c.code - 1) := by
  have hbit : BitVec.twoPow 16 (c.code - 1) ≠ 0#16 := by cases c <;> decide
  rw [State.isPending, Cause.bit_eq, BitVec.and_twoPow]
  cases s.att.pending.getLsbD (c.code - 1) with
  | false => rfl
  | true => exact bne_iff_ne.mpr hbit

/-- A cause that is pending and enabled; CAMERA_LATE always is enabled (R172). -/
def State.Stands (s : State) (i : Nat) : Prop :=
  s.att.pending.getLsbD i = true ∧ (s.att.enable.getLsbD i = true ∨ i = 0)

theorem State.stands_iff (s : State) (i : Nat) : (s.att.pending &&& s.att.enabled).getLsbD i = true ↔ s.Stands i := by
  simp [AttentionSet.enabled, Cause.bit, Cause.code, State.Stands]

/-- ATN is asserted exactly while a pending cause is enabled (R172). -/
theorem State.atn_iff (s : State) : s.atn = true ↔ ∃ i, s.Stands i := by
  rw [State.atn, bne_iff_ne]
  constructor
  · intro hne
    by_contra hnone
    refine hne (BitVec.eq_of_getLsbD_eq fun i _ => ?_)
    have hi : ¬s.Stands i := fun h => hnone ⟨i, h⟩
    rw [← s.stands_iff, Bool.not_eq_true] at hi
    exact hi.trans BitVec.getLsbD_zero.symm
  · rintro ⟨i, hi⟩ hzero
    rw [← s.stands_iff, hzero] at hi
    exact Bool.false_ne_true (BitVec.getLsbD_zero.symm.trans hi)

theorem lowestCode_zero {m : Half} (h : ∀ i, m.getLsbD i = false) : lowestCode m = 0 := by
  have hfind : (List.range 16).find? (fun i => m.getLsbD i) = none := List.find?_eq_none.mpr fun i _ => by simp [h i]
  rw [lowestCode, hfind]

theorem lowestCode_succ {m : Half} {i : Nat} (hi : m.getLsbD i = true) (hlow : ∀ j, j < i → m.getLsbD j = false) :
    lowestCode m = i + 1 := by
  have hfind : (List.range 16).find? (fun i => m.getLsbD i) = some i :=
    List.find?_range_eq_some.mpr ⟨hi, List.mem_range.mpr (BitVec.lt_of_getLsbD hi), fun j hj => by simp [hlow j hj]⟩
  rw [lowestCode, hfind]

/-- The first code is the lowest one of the causes that stand, or 0 (R173). -/
theorem State.firstCode_eq {s : State} {n : Nat}
    (h : (n = 0 ∧ ∀ i, ¬s.Stands i) ∨ (1 ≤ n ∧ s.Stands (n - 1) ∧ ∀ i, i < n - 1 → ¬s.Stands i)) : s.firstCode = n := by
  simp only [← s.stands_iff, Bool.not_eq_true] at h
  rcases h with ⟨rfl, hnone⟩ | ⟨hn, hstands, hlow⟩
  · exact lowestCode_zero hnone
  · exact (lowestCode_succ hstands hlow).trans (by omega)

/-- What a CLEAR removes: the named causes, but CAMERA_LATE only while no port is LATE (R160, R173). -/
theorem State.clearable_getLsbD (s : State) (m : Half) {i : Nat} (hi : i < 16) :
    (s.clearable m).getLsbD i = (s.att.pending.getLsbD i && m.getLsbD i && !(i == 0 && s.anyLate)) := by
  have hlate : (~~~Cause.cameraLate.bit).getLsbD i = !(i == 0) := by
    rw [BitVec.getLsbD_not, Cause.bit_eq, BitVec.getLsbD_twoPow]
    simp [Cause.code, hi, Bool.beq_eq_decide_eq, eq_comm]
  have hall : (0xFFFF#16).getLsbD i = true := (BitVec.getLsbD_allOnes (v := 16)).trans (decide_eq_true hi)
  rw [State.clearable, BitVec.getLsbD_and, BitVec.getLsbD_and]
  cases s.anyLate with
  | true => rw [if_pos rfl, hlate, Bool.and_true]
  | false => rw [if_neg Bool.false_ne_true, hall, Bool.and_false, Bool.not_false]

/-- The pending set after a CLEAR, bit by bit. -/
theorem State.cleared_getLsbD (s : State) (m : Half) {i : Nat} (hi : i < 16) :
    (s.att.pending &&& ~~~s.clearable m).getLsbD i =
      (s.att.pending.getLsbD i && !(m.getLsbD i && !(i == 0 && s.anyLate))) := by
  rw [BitVec.getLsbD_and, BitVec.getLsbD_not, s.clearable_getLsbD m hi, decide_eq_true hi]
  cases s.att.pending.getLsbD i <;> rfl

/-- The causes a CLEAR removed are those that are no longer pending. -/
theorem State.clearable_eq (s : State) (m : Half) :
    s.clearable m = s.att.pending &&& ~~~(s.att.pending &&& ~~~s.clearable m) := by
  refine BitVec.eq_of_getLsbD_eq fun i hi => ?_
  rw [BitVec.getLsbD_and, BitVec.getLsbD_not, s.cleared_getLsbD m hi, s.clearable_getLsbD m hi, decide_eq_true hi]
  cases s.att.pending.getLsbD i <;> simp

/-! ### The checks of requests that LOADING or FALLBACK allow -/

section Early

variable {s : State} {ok : Bool} (f : State → State)

theorem State.serve_always : s.serve true ok f = if ok then f s else s.respond .badArg [] := by
  simp [State.serve]

theorem State.serve_attention (h : s.node.state ≠ .loading) :
    s.serve (s.node.state == .fallback) ok f = if ok then f s else s.respond .badArg [] := by
  cases hst : s.node.state with
  | loading => exact absurd hst h
  | run | mute | standby | fallback => simp [State.serve, NodeState.full, hst]

theorem State.serve_attention_loading (h : s.node.state = .loading) :
    s.serve (s.node.state == .fallback) ok f = s.respond .state [] := by
  simp [State.serve, NodeState.full, h]

end Early

/-! ### STATUS -/

theorem selectorOf_entry (n : StationNo) : selectorOf (BitVec.ofNat 8 (16 + n.toNat)).toNat = some (.entry n) := by
  have hlt : n.toNat < 16 := n.isLt
  have hval : (BitVec.ofNat 8 (16 + n.toNat)).toNat = 16 + n.toNat := Nat.mod_eq_of_lt (by omega)
  rw [hval, selectorOf, if_neg (by omega), if_neg (by omega), if_pos (by omega), Nat.add_sub_cancel_left,
    BitVec.ofNat_toNat, BitVec.setWidth_eq]

theorem selectorOf_none {b : Nat} (h1 : 1 < b) (h : b < 16 ∨ 33 < b) : selectorOf b = none := by
  rw [selectorOf, if_neg (by omega), if_neg (by omega), if_neg (by omega), if_neg (by omega), if_neg (by omega)]

theorem statusArg_length {args : List Byte} (h : args.length ≠ 1) : statusArg args = none := by
  unfold statusArg
  split
  next => exact absurd rfl h
  next => rfl

/-- The time left to a camera switch's deadline is reported in SWITCHING alone (R162). -/
theorem OutPort.timeLeft_bytes (now : Word) (o : OutPort) : optBytes (beBytes 4) (o.timeLeft now) =
    match o.cam.state, o.cam.deadline with
    | .switching, some d => 1 :: beBytes 4 (if laterTime d now then (d - now).toNat else 0)
    | _, _ => [0] := by
  unfold OutPort.timeLeft
  cases o.cam.state with
  | switching => cases o.cam.deadline <;> rfl
  | idle | showing | late => rfl

/-- The added line in progress is that of its stretch, where one counts it (12.5, log 46). -/
theorem OutPort.lineNumber_eq (o : OutPort) : o.lineNumber =
    match o.pres.pos with
    | .active => o.pres.line
    | .added => (match o.lock.stretch with | some x => x.added + 1 | none => o.pres.line)
    | _ => 0 := by
  unfold OutPort.lineNumber
  cases o.pres.pos with
  | added => unfold OutPort.addedNumber; cases o.lock.stretch <;> rfl
  | stopped | active | blanking => rfl

/-! ### PROBE -/

theorem probeArg_id (x : StreamId) : probeArg [BitVec.ofNat 8 x.toNat] = some x := by
  have hlt : x.toNat < 128 := x.isLt
  have hval : (BitVec.ofNat 8 x.toNat).toNat = x.toNat := Nat.mod_eq_of_lt (by omega)
  rw [probeArg, hval, if_pos (by omega), BitVec.ofNat_toNat, BitVec.setWidth_eq]

theorem probeArg_large {b : Byte} (h : 128 ≤ b.toNat) : probeArg [b] = none := if_neg (by omega)

theorem probeArg_length {args : List Byte} (h : args.length ≠ 1) : probeArg args = none := by
  unfold probeArg
  split
  next => exact absurd rfl h
  next => rfl

theorem sourceOf_eq (x : StreamId) : sourceOf x = BitVec.ofNat 4 (x.toNat / 8) := by
  refine BitVec.eq_of_toNat_eq ?_
  rw [sourceOf, BitVec.extractLsb'_toNat, BitVec.toNat_ofNat, Nat.shiftRight_eq_div_pow]

/-- A stream's index is the low three bits of its id (2.5). -/
theorem index_eq_iff (x : StreamId) (i : BitVec 3) : (i == indexOf x) = true ↔ i.toNat = x.toNat % 8 := by
  rw [beq_iff_eq, ← BitVec.toNat_inj, indexOf, BitVec.extractLsb'_toNat, Nat.shiftRight_zero]

/-- A stream that the table does not show is not offered (R166). -/
theorem State.probeAnswer_absent {s : State} {x : StreamId}
    (h : ∀ e, entryFor s.view.table (sourceOf x) = some e → ∀ y ∈ e.offers, y.index.toNat ≠ x.toNat % 8) :
    s.probeAnswer x = [0] := by
  have hitem : probeItem s.view.table x = none := by
    cases he : entryFor s.view.table (sourceOf x) with
    | none => rw [probeItem, he]
    | some e =>
      have hfind : e.offers.find? (fun o => o.index == indexOf x) = none :=
        List.find?_eq_none.mpr fun y hy => (index_eq_iff x y.index).not.mpr (h e he y hy)
      simp only [probeItem, he, hfind, Option.map_none]
  rw [State.probeAnswer, hitem]
  rfl

/-- The table's item for a stream is the first offer of its index (R166). -/
theorem probeItem_some {t : List TableEntry} {x : StreamId} {e : TableEntry} {before after : List Offer} {y : Offer}
    (he : entryFor t (sourceOf x) = some e) (hoffers : e.offers = before ++ y :: after)
    (hbefore : ∀ z ∈ before, z.index.toNat ≠ x.toNat % 8) (hy : y.index.toNat = x.toNat % 8) :
    probeItem t x = some (e, y) := by
  have hnone : before.find? (fun o => o.index == indexOf x) = none :=
    List.find?_eq_none.mpr fun z hz => (index_eq_iff x z.index).not.mpr (hbefore z hz)
  have hfind : e.offers.find? (fun o => o.index == indexOf x) = some y := by
    rw [hoffers, List.find?_append, hnone, Option.none_or]
    exact List.find?_cons_of_pos ((index_eq_iff x y.index).mpr hy)
  simp only [probeItem, he, hfind, Option.map_some]

theorem State.outPorts_eq (s : State) : s.outPorts =
    (match s.portA with | .output o => [o] | _ => []) ++ (match s.portB with | .output o => [o] | _ => []) := by
  unfold State.outPorts
  cases s.portA <;> cases s.portB <;> rfl

/-! ### The requests -/

section Requests

variable {s : State}

section Running

variable (hrun : s.running) {args : List Byte} (hlen : args.length ≤ 255)
include hrun hlen

theorem exec_status : exec (.status args) s = .next (s.status args) := live_request hrun hlen (State.status · args)

theorem exec_probe : exec (.probe args) s = .next (s.probe args) := live_request hrun hlen (State.probe · args)

theorem exec_attention : exec (.attention args) s = .next (s.attention args) :=
  live_request hrun hlen (State.attention · args)

theorem exec_clear : exec (.clear args) s = .next (s.clear args) := live_request hrun hlen (State.clear · args)

end Running

/-- STATUS answers the record of its selector, in every node state (R167). -/
theorem exec_status_selected (hrun : s.running) {b : Byte} {r : Selector} (h : selectorOf b.toNat = some r) :
    exec (.status [b]) s = .next (s.respond .done (s.record r)) :=
  execStatus_selected s b r hrun h

theorem State.status_refused {args : List Byte} (h : statusArg args = none) : s.status args = s.respond .badArg [] := by
  rw [State.status, State.serve_always, h]
  rfl

theorem State.probe_refused (hfull : s.node.state.full = true) {args : List Byte} (h : probeArg args = none) :
    s.probe args = s.respond .badArg [] :=
  State.serve_refused hfull (by rw [h]; rfl) _ _

theorem exec_probe_id (hrun : s.running) (hfull : s.node.state.full = true) (x : StreamId) :
    exec (.probe [BitVec.ofNat 8 x.toNat]) s = .next (s.respond .done (s.probeAnswer x)) := by
  rw [exec_probe hrun (by simp), State.probe, State.serve_taken hfull (by rw [probeArg_id]; rfl), probeArg_id]

theorem State.attention_eq (h : s.node.state ≠ .loading) (args : List Byte) : s.attention args =
    if args.isEmpty then
      s.respond .done (byte2 s.att.pending.toNat ++ byte2 s.att.enabled.toNat ++ byte1 s.firstCode)
    else s.respond .badArg [] :=
  State.serve_attention _ h

theorem setArg_length {args : List Byte} (h : args.length ≠ 2) : setArg args = none := by
  unfold setArg
  split
  next => exact absurd rfl h
  next => rfl

theorem State.clear_refused (h : s.node.state ≠ .loading) {args : List Byte} (hargs : setArg args = none) :
    s.clear args = s.respond .badArg [] := by
  rw [State.clear, State.serve_attention _ h, hargs]
  rfl

/-- The state with the causes of a CLEAR removed (R173). -/
def State.cleared (s : State) (m : Half) : State :=
  { s with att := { s.att with pending := s.att.pending &&& ~~~s.clearable m } }

theorem State.clear_pair (hst : s.node.state ≠ .loading) (h l : Byte) :
    s.clear [h, l] = (s.cleared (h ++ l)).respond .done (byte2 (s.clearable (h ++ l)).toNat) := by
  rw [State.clear, State.serve_attention _ hst]
  rfl

end Requests

/-! ### The statement -/

/-- Settles O53: STATUS, PROBE, ATTENTION and CLEAR, the ATN and FAULT pins, and the bytes and codes of 12.5 and 12.6. -/
theorem queriesAnswer : Obligations.QueriesAnswer := by
  refine ⟨fun s hrun => ⟨?node, ?link, fun n => ⟨fun he => ?noEntry, fun e he => ?entry⟩, fun p =>
    ⟨fun k hp => ?unused, fun q hp => ?input, fun o hp => ?output⟩, fun b h1 h => ?selector, fun args hlen h => ?statusLength,
    fun hstate args hlen => ?probeState, fun hfull => ⟨fun b hb => ?probeArg, fun args hlen h => ?probeLength, fun x =>
    ⟨fun h => ?notOffered, fun e before y after he hoffers hbefore hy => ?offered⟩⟩,
    ⟨s.atn_iff, ?fault, fun hstate n hn => ?first⟩, s.isPending_eq, fun hstate => ⟨fun args hlen h => ?attentionArgs,
    fun args hlen h => ?clearLength, fun h l => ?clear⟩, fun hstate args hlen => ?loading⟩,
    fun v => ⟨byte1_eq v, byte2_eq v, beBytes_four v⟩, fun i => ⟨beInt_eq (by norm_num) i, beInt_eq (by norm_num) i⟩,
    rfl, rfl, rfl, rfl, rfl, rfl, rfl, rfl, rfl, rfl, rfl, rfl, rfl, rfl, rfl⟩
  case node =>
    rw [← Scheduler.controlCount_eq]
    exact exec_status_selected hrun (r := .node) rfl
  case link => exact exec_status_selected hrun (r := .link) rfl
  case noEntry =>
    rw [exec_status_selected hrun (selectorOf_entry n), State.record, State.entryRecord, he]
    rfl
  case entry =>
    refine ⟨sortOffers e.offers, sortOffers_perm _, sortOffers_sorted _, ?_⟩
    rw [exec_status_selected hrun (selectorOf_entry n), State.record, State.entryRecord, he]
    rfl
  case unused =>
    rw [exec_status_selected hrun (r := .port p) (by cases p <;> rfl), State.record, State.portRecord, hp]
    rfl
  case input =>
    rw [exec_status_selected hrun (r := .port p) (by cases p <;> rfl), State.record, State.portRecord, hp]
    rfl
  case output =>
    rw [exec_status_selected hrun (r := .port p) (by cases p <;> rfl)]
    simp only [State.record, State.portRecord, hp, OutPort.bytes, OutPort.camBytes, OutPort.presBytes, o.timeLeft_bytes,
      o.lineNumber_eq]
    by_cases hcam : o.cfg.camMode = .none
    · rw [if_neg (by simpa using o.hasCamera_iff.not.mpr (not_not.mpr hcam)), if_pos hcam]
      rfl
    · rw [if_pos (o.hasCamera_iff.mpr hcam), if_neg hcam]
      rfl
  case selector => rw [exec_status hrun (by simp), State.status_refused (args := [b]) (selectorOf_none h1 h)]
  case statusLength => rw [exec_status hrun hlen, State.status_refused (statusArg_length h)]
  case probeState =>
    rw [exec_probe hrun hlen]
    exact congrArg _ (State.serve_unready (NodeState.full_eq_false hstate) _ _)
  case probeArg => rw [exec_probe hrun (by simp), State.probe_refused hfull (probeArg_large hb)]
  case probeLength => rw [exec_probe hrun hlen, State.probe_refused hfull (probeArg_length h)]
  case notOffered => rw [exec_probe_id hrun hfull, State.probeAnswer_absent (by rw [sourceOf_eq]; exact h)]
  case offered =>
    rw [← sourceOf_eq] at he
    rw [exec_probe_id hrun hfull, State.probeAnswer, probeItem_some he hoffers hbefore hy, State.outPorts_eq]
    rfl
  case fault => rw [State.fault, s.isPending_eq]; rfl
  case first =>
    rw [exec_attention hrun (by simp), State.attention_eq hstate, State.firstCode_eq hn]
    rfl
  case attentionArgs =>
    rw [exec_attention hrun hlen, State.attention_eq hstate, if_neg (by simpa using h)]
  case clearLength => rw [exec_clear hrun hlen, State.clear_refused hstate (setArg_length h)]
  case clear =>
    refine ⟨_, (exec_clear hrun (by simp)).trans (congrArg _ (State.clear_pair hstate h l)),
      fun i hi => s.cleared_getLsbD _ hi, ?_, rfl, rfl, rfl, rfl, rfl⟩
    exact congrArg (fun m : Half => some ({ code := .done, data := byte2 m.toNat } : Response)) (s.clearable_eq (h ++ l))
  case loading =>
    rw [exec_attention hrun hlen, exec_clear hrun hlen]
    exact ⟨congrArg _ (State.serve_attention_loading _ hstate), congrArg _ (State.serve_attention_loading _ hstate)⟩

end Sys2Proof.Machine
end

section
/-! PROOFS. The part in cold reset, what a held part ignores, and the release of reset (R16, R174, R175). -/

namespace Sys2Proof.Machine

/-! ### Reset -/

/-- Settles O57. -/
theorem resetSound : Obligations.ResetSound :=
  ⟨State.reset.bounded_iff.mpr State.reset_sound, ⟨trivial, trivial⟩, ⟨.nil, fun _ h => nomatch h⟩⟩

/-- While RESET_N is low a command that is neither a cold reset nor the release of reset does nothing (R175, log 1). -/
theorem exec_held {s : State} (h : s.node.held = true) (c : Instr) (hreset : c ≠ .coldReset)
    (hrelease : ∀ n, c ≠ .resetRelease n) : exec c s = .next s := by
  cases c
  case coldReset => exact absurd rfl hreset
  case resetRelease n => exact absurd rfl (hrelease n)
  all_goals exact congrArg Host.Outcome.next (if_pos h)

/-- Settles O3. -/
theorem coldResetSetsAll : Obligations.ColdResetSetsAll :=
  ⟨fun _ => rfl, fun c _ h => exec_held h c⟩

/-- Settles O4. -/
theorem resetReleaseLoads : Obligations.ResetReleaseLoads := by
  intro s straps h
  change Host.Outcome.next (s.resetRelease straps) = _
  rw [State.resetRelease, if_pos h]; rfl

end Sys2Proof.Machine
end

section
/-! PROOFS. The entry to MUTE: the picture queues emptied and the streams settled (R53, R54, R81, R83, R177). -/

namespace Sys2Proof.Machine

/-! ### The settling of the streams of a full station -/

/-- The state of R81 that a stream of an input port is moved to at a full station. -/
def InPort.goal (q : InPort) (node : NodeState) (demand : Bool) (k : Stream) : StreamState :=
  if k.win.enabled = false ∨ q.geometry = none then .idle
  else if node ≠ .run then .suspended
  else if k.win.shed = true ∧ demand = true then .suspended
  else .running

theorem InPort.settled_full {s : State} (hfull : s.node.state.full = true) (q : InPort) :
    q.settled s = { q with streams := q.streams.map (fun k => k.moveTo (q.goal s.node.state s.view.demand k)) } := by
  simp only [InPort.settled, InPort.goal, settledState_full hfull]

/-- In MUTE and STANDBY a stream is IDLE or SUSPENDED (R83). -/
theorem InPort.goal_quiet {node : NodeState} (h : node ≠ .run) (q : InPort) (demand : Bool) (k : Stream) :
    q.goal node demand k = if k.win.enabled = false ∨ q.geometry = none then .idle else .suspended := by
  rw [InPort.goal, if_pos h]

/-! ### Empty picture queues -/

/-- Both picture queues are empty and STARVED is clear (R53). -/
structure Scheduler.Idle (q : Scheduler) : Prop where
  safe : q.safeQ = []
  normal : q.normalQ = []
  starved : q.starved = false

/-- A purge finds nothing in empty queues. -/
theorem State.purge_idle {s : State} (h : s.sched.Idle) (kill : PicEntry → Bool) : s.purge kill = s := by
  obtain ⟨hsafe, hnormal, hstarved⟩ := h
  obtain ⟨⟩ := s
  rename_i sched _ _ _ _ _ _ _ _
  obtain ⟨⟩ := sched
  simp_all [State.purge_eq, slotsOf]

theorem purgeStreams_idle {s : State} (h : s.sched.Idle) (l : List (BitVec 3)) : l.foldl State.purgeStream s = s := by
  induction l with
  | nil => rfl
  | cons n l ih => rw [List.foldl_cons, State.purgeStream, State.purge_idle h, ih]

/-- With empty queues a settling moves streams alone. -/
theorem State.settlePort_idle {s : State} (h : s.sched.Idle) (p : PortId) :
    (s.settlePort p).sched = s.sched ∧ (s.settlePort p).store = s.store := by
  cases hp : s.port p with
  | input q =>
    have hidle : (s.setPort p (.input (q.settled s))).sched.Idle := by rw [State.setPort_sched]; exact h
    rw [State.settlePort_eq hp, purgeStreams_idle hidle, State.setPort_sched, State.setPort_store]
    exact ⟨rfl, rfl⟩
  | output o => unfold State.settlePort; rw [hp]; exact ⟨rfl, rfl⟩
  | unused k => unfold State.settlePort; rw [hp]; exact ⟨rfl, rfl⟩

theorem State.settleStreams_idle {s : State} (h : s.sched.Idle) :
    s.settleStreams.sched = s.sched ∧ s.settleStreams.store = s.store := by
  obtain ⟨hschedA, hstoreA⟩ := State.settlePort_idle h .a
  obtain ⟨hschedB, hstoreB⟩ := State.settlePort_idle (s := s.settlePort .a) (hschedA ▸ h) .b
  exact ⟨hschedB.trans hschedA, hstoreB.trans hstoreA⟩

/-- Both picture queues purged (R53). -/
theorem State.purgePictures_eq (s : State) : s.purgePictures = { s with
    sched := { s.sched with safeQ := [], normalQ := [], starved := false }, store := s.purgePictures.store } := by
  rw [State.purgePictures, State.purge_eq]
  cases s.sched.normalQ <;> simp

theorem State.mem_purgePictures_store (s : State) (x : SendSlot) : x ∈ s.purgePictures.store ↔
    x ∈ s.store ∧ ∀ e, e ∈ s.sched.safeQ ∨ e ∈ s.sched.normalQ → e.isMark = true ∨ e.slot ≠ x.slot := by
  rw [State.purgePictures, State.purge_store]
  simp only [slotsOf, List.mem_filter, List.contains_eq_mem, List.mem_append, List.mem_map, Bool.true_and,
    Bool.not_eq_true', decide_eq_false_iff_not, not_or, not_exists, not_and]
  refine and_congr_right fun _ => ⟨fun ⟨hsafe, hnormal⟩ e he => ?_, fun h => ⟨fun e he => ?_, fun e he => ?_⟩⟩
  · cases hmark : e.isMark with
    | true => exact .inl rfl
    | false => exact .inr (he.elim (fun h => hsafe e ⟨h, hmark⟩) (fun h => hnormal e ⟨h, hmark⟩))
  · exact (h e (.inl he.1)).resolve_left (by simp [he.2])
  · exact (h e (.inr he.1)).resolve_left (by simp [he.2])

/-! ### The entry to a state -/

section Entered

variable (s : State) (st : NodeState)

/-- An entry to MUTE or STANDBY empties both picture queues (R53). -/
theorem State.enterState_sched :
    (s.enterState st).sched = { s.sched with safeQ := [], normalQ := [], starved := false } := by
  have hpurged := ({ s with node := { s.node with state := st, waiting := none } } : State).purgePictures_eq
  have hsched := congrArg State.sched hpurged
  exact (State.settleStreams_idle (hsched ▸ ⟨rfl, rfl, rfl⟩)).1.trans hsched

theorem State.mem_enterState_store (x : SendSlot) : x ∈ (s.enterState st).store ↔
    x ∈ s.store ∧ ∀ e, e ∈ s.sched.safeQ ∨ e ∈ s.sched.normalQ → e.isMark = true ∨ e.slot ≠ x.slot := by
  have hpurged := ({ s with node := { s.node with state := st, waiting := none } } : State).purgePictures_eq
  have hsched := congrArg State.sched hpurged
  rw [State.enterState, (State.settleStreams_idle (hsched ▸ ⟨rfl, rfl, rfl⟩)).2]
  exact State.mem_purgePictures_store _ x

/-- Every stream is settled for the state entered (R81, R83). -/
theorem State.enterState_port_in {s : State} {st : NodeState} {p : PortId} {q : InPort} (hfull : st.full = true)
    (hrun : st ≠ .run) (hp : s.port p = .input q) : (s.enterState st).port p = .input { q with
      streams := q.streams.map (fun k =>
        k.moveTo (if k.win.enabled = false ∨ q.geometry = none then .idle else .suspended)) } := by
  have hpurged := ({ s with node := { s.node with state := st, waiting := none } } : State).purgePictures_eq
  generalize ht : ({ s with node := { s.node with state := st, waiting := none } } : State).purgePictures = t at hpurged
  have hport : t.port p = .input q := by rw [hpurged]; cases p <;> exact hp
  have hnode : t.node.state = st := by rw [hpurged]
  rw [State.enterState, ht, State.settleStreams_port _ _ q hport, InPort.settled_full (by rw [hnode]; exact hfull), hnode]
  simp only [InPort.goal_quiet hrun]

end Entered

/-- Settles O33: the picture queues and the streams at an entry to MUTE. -/
theorem enterMuteQuiets : Obligations.EnterMuteQuiets := by
  intro s hrun hstate hwait hsend
  have hdue := State.entryDue_eq_true hwait hstate (RingPort.sendingPicture_eq_false hsend)
  have hexec : exec .enterMute s = .next (s.enterState .mute) := by
    change live State.enterMute s = _
    rw [live_running _ _ hrun, State.enterMute, if_pos hdue]
  exact ⟨_, hexec, s.enterState_node _, s.enterState_sched _, s.mem_enterState_store _,
    fun p q hp => State.enterState_port_in rfl (by decide) hp, fun p o hp => State.enterState_port_out _ hp,
    s.enterState_link _, s.enterState_view _, s.enterState_svc _, s.enterState_camera _, s.enterState_tick _,
    s.enterState_att _⟩

end Sys2Proof.Machine
end

section
/-! PROOFS. The entry to STANDBY, what was due on the output ports being taken first, and the stop of a port (R30, R53, R54, R83,
R111, R122, R131, R134, R148, R158, R161, R178). -/

namespace Sys2Proof.Machine

/-! ### What was due on an output port -/

/-- What the work due on a port leaves of its oscillator, its camera part and, with no stretch in progress, its Presenter
(log 2). -/
structure OutPort.DueKept (o o' : OutPort) : Prop where
  acc : o'.lock.acc = o.lock.acc
  cam : o'.cam = { o.cam with state := o'.cam.state }
  unstretched : o.lock.stretch = none → o'.lock.stretch = none ∧ o'.pres = o.pres

theorem OutPort.DueKept.refl (o : OutPort) : o.DueKept o := ⟨rfl, rfl, fun h => ⟨h, rfl⟩⟩

theorem OutPort.DueKept.trans {a b c : OutPort} (h : a.DueKept b) (h' : b.DueKept c) : a.DueKept c := by
  refine ⟨h'.acc.trans h.acc, ?_, fun hnone => ?_⟩
  · rw [h'.cam, h.cam]
  · obtain ⟨hb, hpres⟩ := h.unstretched hnone
    obtain ⟨hc, hpres'⟩ := h'.unstretched hb
    exact ⟨hc, hpres'.trans hpres⟩

theorem FrameLock.onLoss_frame (l : FrameLock) : l.onLoss.acc = l.acc ∧ (l.stretch = none → l.onLoss.stretch = none) := by
  unfold FrameLock.onLoss
  cases l.state
  case track => exact ⟨rfl, fun h => by rw [FrameLock.enterHoldover, h]; rfl⟩
  all_goals exact ⟨rfl, id⟩

theorem FrameLock.compute_acc (c : OutCfg) (lead : Nat) (l : FrameLock) : (l.compute c lead).1.acc = l.acc := by
  unfold FrameLock.compute FrameLock.judge
  split_ifs <;> rfl

theorem OutPort.silentLoss_dueKept (role : Role) (o : OutPort) : o.DueKept (o.silentLoss role).1 := by
  unfold OutPort.silentLoss
  split
  next => exact .refl o
  next k hk =>
    split_ifs
    · rw [OutPort.loseSource_eq]
      obtain ⟨hacc, hstretch⟩ := o.lock.onLoss_frame
      refine ⟨?_, ?_, fun h => ⟨?_, OutPort.mapSink_pres o role _⟩⟩ <;> dsimp only
      · split_ifs
        · exact hacc
        · rfl
      · split_ifs <;> rfl
      · split_ifs
        · exact hstretch h
        · exact h
    · exact .refl o

theorem OutPort.holdoverEnd_dueKept (o : OutPort) : o.DueKept o.holdoverEnd.1 := by
  unfold OutPort.holdoverEnd
  split_ifs
  · exact ⟨rfl, rfl, fun h => ⟨by rw [FrameLock.enterFree, h]; rfl, rfl⟩⟩
  · exact .refl o

/-- Without a stretch no limit is reached. -/
theorem OutPort.limitReached_unstretched {o : OutPort} (h : o.lock.stretch = none) (st : LockState) :
    o.limitReached st = false := by
  rw [OutPort.limitReached, h]

theorem OutPort.holdGiveUp_dueKept (o : OutPort) : o.DueKept o.holdGiveUp.1 := by
  unfold OutPort.holdGiveUp
  split_ifs with hlimit
  · exact ⟨rfl, rfl, fun h => absurd hlimit (by simp [OutPort.limitReached_unstretched h])⟩
  · exact .refl o

theorem OutPort.stretchEnd_dueKept (o : OutPort) : o.DueKept o.stretchEnd.1 := by
  unfold OutPort.stretchEnd
  split_ifs with hlimit
  · exact ⟨FrameLock.compute_acc _ _ _, rfl, fun h => absurd hlimit (by simp [OutPort.limitReached_unstretched h])⟩
  · exact .refl o

theorem OutPort.settle_dueKept (o : OutPort) : o.DueKept o.settle.1 :=
  (o.silentLoss_dueKept .main).trans <| (OutPort.silentLoss_dueKept .overlay _).trans <|
    (OutPort.holdoverEnd_dueKept _).trans <| (OutPort.holdGiveUp_dueKept _).trans (OutPort.stretchEnd_dueKept _)

/-- The loss of a MAIN source that does not track leaves the Frame Lock (R119). -/
theorem OutPort.silentLoss_main_frame {o : OutPort} (h : o.lock.state ≠ .track) :
    (o.silentLoss .main).1.cfg = o.cfg ∧ (o.silentLoss .main).1.lock = o.lock ∧ (o.silentLoss .main).1.pres = o.pres := by
  obtain ⟨hcfg, hpres, -⟩ := o.loseSource_frame .main
  obtain ⟨-, hlock, -⟩ := OutPort.loseSource_own (o := o) (role := .main) rfl
  rw [OutPort.silentLoss_of (role := .main) (k := o.main) rfl]
  split_ifs
  · exact ⟨hcfg, (hlock rfl).trans (FrameLock.onLoss_of_ne_track h), hpres⟩
  · exact ⟨rfl, rfl, rfl⟩

/-- A hold at its limit gives up when what was due is taken: its frame is a fill frame (R122, log 2). -/
theorem OutPort.settle_hold {o : OutPort} {l : Stretch} (hl : o.lock.stretch = some l) (hlimit : l.limit = true)
    (hending : l.ending = false) (hstate : o.lock.state = .acquire) :
    o.settle.1.lock = { o.lock with stretch := none, linesAdded := l.added } ∧
      o.settle.1.pres = { o.pres.toActive with fillFrame := true } := by
  obtain ⟨hcfgM, hlockM, hpresM⟩ := OutPort.silentLoss_main_frame (o := o) (by rw [hstate]; decide)
  obtain ⟨-, hcfgV, hlockV, hpresV⟩ := (o.silentLoss .main).1.silentLoss_overlay_frame
  have hcfg := hcfgV.trans hcfgM
  have hlock := hlockV.trans hlockM
  have hpres := hpresV.trans hpresM
  rw [OutPort.settle]
  dsimp only
  generalize ((o.silentLoss .main).1.silentLoss .overlay).1 = a at hcfg hlock hpres ⊢
  have hend : a.holdoverEnd = (a, noCause) := if_neg (by simp [FrameLock.runOut, hlock, hstate])
  have hreached : a.limitReached .acquire = true := by simp [OutPort.limitReached, hlock, hl, hlimit, hending, hstate]
  have hadded : a.addedLines = l.added := by rw [OutPort.addedLines, hlock, hl]
  rw [hend, OutPort.holdGiveUp, if_pos hreached, hadded]
  dsimp only
  rw [OutPort.stretchEnd, if_neg (by simp [OutPort.limitReached, OutPort.endStretch])]
  dsimp only [OutPort.endStretch]
  rw [hlock, hpres]
  exact ⟨rfl, rfl⟩

/-- An operation that raises nothing on either port leaves the attention set. -/
theorem State.onOuts_att_of {s : State} {f : OutPort → OutPort × Half}
    (h : ∀ p o, s.port p = .output o → (f o).2 = noCause) : (s.onOuts f).att = s.att := by
  have honOut : ∀ (u : State) (p : PortId), (∀ o, u.port p = .output o → (f o).2 = noCause) →
      (u.onOut p f).att = u.att := fun u p hu => by
    unfold State.onOut
    split
    next o ho => rw [hu o ho, State.raise_noCause, State.setPort_att]
    next => rfl
    next => rfl
  have hb : (s.onOut .a f).port .b = s.port .b := s.onOut_port_ne .a .b f (by decide)
  exact (honOut _ .b fun o ho => h .b o (hb ▸ ho)).trans (honOut s .a (h .a))

/-! ### The entry to STANDBY -/

/-- What a sink record keeps at an entry to STANDBY, whether its silence was due or not (R109, R111). -/
theorem Sink.standby_frame (k : Sink) (due : Bool) :
    let k' := (if due then k.lose else k).standby
    k'.queue = [] ∧ k'.detached = [] ∧ k'.cur = none ∧ k'.active = k.active ∧ k'.shadow = k.shadow ∧
      k'.presented = k.presented := by
  cases due <;> exact ⟨rfl, rfl, rfl, rfl, rfl, rfl⟩

/-- The picture copies and the output ports at an entry to STANDBY, the node being there (R30, R111, R131, R148). -/
def State.standOutputsBy (u : State) : State :=
  ({ u with link.stage := u.link.stage.dropCopies } : State).onOuts (OutPort.dueFirst (fun o => (o.standby, noCause)))

theorem exec_enterStandby_due {s : State} (hrun : s.running) (hdue : s.entryDue .standby = true) :
    exec .enterStandby s = .next (s.enterState .standby).standOutputsBy := by
  change live State.enterStandby s = _
  rw [live_running _ _ hrun, State.enterStandby, if_pos hdue]
  rfl

/-- A last back-porch line that is over stops the port (R134, R148). -/
theorem exec_portStop {s : State} (hrun : s.running) {p : PortId} {o : OutPort} (hp : s.port p = .output o) :
    exec (.portStop p) s = .next (s.setPort p (.output o.stop)) := by
  change live (fun s => s.onOut p (fun o => (o.stop, noCause))) s = _
  rw [live_running _ _ hrun, s.onOut_output p o _ hp, State.raise_noCause]

theorem OutPort.frameOver_iff (o : OutPort) :
    o.frameOver = true ↔ o.pres.pos = .blanking ∧ o.cfg.blankPixels ≤ o.pres.pixel := by
  simp [OutPort.frameOver]

/-- A port that is no input stays as it was at an entry to a state (R83). -/
theorem State.enterState_port_kept {s : State} {p : PortId} (st : NodeState) (hp : ∀ q, s.port p ≠ .input q) :
    (s.enterState st).port p = s.port p := by
  have hpurged : ({ s with node := { s.node with state := st, waiting := none } } : State).purgePictures.port p = s.port p := by
    cases p <;> simp [State.port]
  rw [State.enterState, State.settleStreams_port_out _ _ (by simpa [hpurged] using hp), hpurged]

theorem Port.input_ne_output (q : InPort) (o : OutPort) : Port.input q ≠ .output o := nofun

section StandBy

variable {u : State} {p : PortId}

theorem State.standOutputsBy_port_out {o : OutPort} (hp : u.port p = .output o) :
    u.standOutputsBy.port p = .output o.settle.1.standby :=
  State.onOuts_port _ p o _ ((State.port_link u _ p).trans hp)

theorem State.standOutputsBy_port_in (hp : ∀ o, u.port p ≠ .output o) : u.standOutputsBy.port p = u.port p := by
  have hlink := State.port_link u { u.link with stage := u.link.stage.dropCopies } p
  exact (State.onOuts_port_in _ p _ (by rw [hlink]; exact hp)).trans hlink

/-- A station with nothing due on its ports raises nothing at the entry to STANDBY. -/
theorem State.standOutputsBy_att (h : ∀ p o, u.port p = .output o → o.quiet u.tick = true) : u.standOutputsBy.att = u.att := by
  refine State.onOuts_att_of fun p o hp => ?_
  rw [State.port_link] at hp
  rw [OutPort.dueFirst_quiet _ _ _ (h p o hp)]

theorem State.standOutputsBy_link : u.standOutputsBy.link = { u.link with stage := u.link.stage.dropCopies } := by
  simp [State.standOutputsBy]

theorem State.standOutputsBy_rest : u.standOutputsBy.node = u.node ∧ u.standOutputsBy.sched = u.sched ∧
    u.standOutputsBy.view = u.view ∧ u.standOutputsBy.svc = u.svc ∧ u.standOutputsBy.tick = u.tick := by
  simp [State.standOutputsBy]

end StandBy

/-- What an output port is once an entry to STANDBY has reached it, what was due there having been taken (R111, R122, R131,
R148, R161, log 2). -/
theorem OutPort.settle_standby (o : OutPort) (now : Word) :
    let o' := o.settle.1.standby
    o'.main = (if o.main.silenceDue then o.main.lose else o.main).standby ∧
      (∀ k, o.overlay = some k → o'.overlay = some (if k.silenceDue then k.lose else k).standby) ∧
      o'.cam = { state := .idle, deadline := none, resume := none, insetHold := o.cam.insetHold } ∧
      o'.lock.state = .free ∧ o'.lock.inc = BitVec.ofNat 32 o.cfg.incNom ∧ o'.lock.integ = 0 ∧ o'.lock.locked = false ∧
      (o.pres.pos ≠ .stopped → o'.pres.stopPending = true) ∧
      (o.quiet now = true → o'.pres.pos = o.pres.pos ∧ o'.pres.fillFrame = o.pres.fillFrame ∧
        o'.lock.stretch = o.lock.stretch.map Stretch.stop) ∧
      (∀ x, o.lock.stretch = some x → x.limit = true → x.ending = false → o.lock.state = .acquire →
        o'.lock.stretch = none ∧ o'.lock.linesAdded = x.added ∧ o'.pres.pos = .active ∧ o'.pres.nextLine = 0 ∧
          o'.pres.fillFrame = true) := by
  have hmain : o.settle.1.main = if o.main.silenceDue then o.main.lose else o.main :=
    Option.some.inj (OutPort.settle_sink (o := o) (role := .main) rfl)
  have hoverlay : ∀ k, o.overlay = some k → o.settle.1.overlay = some (if k.silenceDue then k.lose else k) :=
    fun k hk => OutPort.settle_sink (o := o) (role := .overlay) hk
  have hquiet : o.quiet now = true → o.settle.1 = o := fun h => by rw [o.settle_quiet now h]
  have hhold := fun x => OutPort.settle_hold (o := o) (l := x)
  have hpres := o.settle_settles.pres
  have hcfg := o.settle_settles.cfg
  have hcam := o.settle_dueKept.cam
  generalize o.settle.1 = r at hmain hoverlay hquiet hhold hpres hcfg hcam
  have hinc : r.standby.lock.inc = BitVec.ofNat 32 o.cfg.incNom := by rw [← hcfg]; rfl
  have hcam' : r.standby.cam = { state := .idle, deadline := none, resume := none, insetHold := r.cam.insetHold } := rfl
  refine ⟨congrArg Sink.standby hmain, fun k hk => ?_, ?_, rfl, hinc, rfl, rfl, fun hpos => ?_, fun h => ?_,
    fun x hx hlimit hending hstate => ?_⟩
  · exact congrArg (Option.map Sink.standby) (hoverlay k hk)
  · rw [hcam', hcam]
  · have hrunning : r.pres.pos ≠ .stopped := by
      rcases hpres with h | ⟨fill, h⟩
      · rw [h]; exact hpos
      · rw [h]; exact nofun
    simp [OutPort.standby, OutPort.mapSinks, hrunning]
  · rw [hquiet h]
    exact ⟨rfl, rfl, rfl⟩
  · obtain ⟨hlock, hp⟩ := hhold x hx hlimit hending hstate
    have hstretch : r.standby.lock.stretch = r.lock.stretch.map Stretch.stop := rfl
    have hadded : r.standby.lock.linesAdded = r.lock.linesAdded := rfl
    have hkept : r.standby.pres = { r.pres with stopPending := r.pres.stopPending || r.pres.pos != .stopped } := rfl
    rw [hstretch, hadded, hkept, hlock, hp]
    exact ⟨rfl, rfl, rfl, rfl, rfl⟩

/-- Settles O34: the entry to STANDBY, and the stop of a port at its frame end. -/
theorem enterStandbyStops : Obligations.EnterStandbyStops := by
  refine ⟨fun s hrun hstate hwait hsend => ?enter, fun s p o hrun hp hstop hstretch => ⟨fun hpos hover => ?stops, fun h => ?early⟩⟩
  case enter =>
    have hdue := State.entryDue_eq_true hwait hstate (RingPort.sendingPicture_eq_false hsend)
    refine ⟨_, exec_enterStandby_due hrun hdue, ?_⟩
    have hnode := s.enterState_node .standby
    have hsched := s.enterState_sched .standby
    have hin := fun p q hp => State.enterState_port_in (s := s) (st := .standby) (p := p) (q := q) rfl (by decide) hp
    have hkept := fun p => State.enterState_port_kept (s := s) (p := p) .standby
    have hlink := s.enterState_link .standby
    have hview := s.enterState_view .standby
    have hsvc := s.enterState_svc .standby
    have htick := s.enterState_tick .standby
    have hatt := s.enterState_att .standby
    generalize s.enterState .standby = u at hnode hsched hin hkept hlink hview hsvc htick hatt ⊢
    have hlink' := u.standOutputsBy_link
    obtain ⟨hnode', hsched', hview', hsvc', htick'⟩ := u.standOutputsBy_rest
    have hout : ∀ p o, u.port p = .output o → s.port p = .output o := fun p o hp => by
      cases hs : s.port p with
      | input q => exact nomatch hp.symm.trans (hin p q hs)
      | output o' => rw [← hs, ← hkept p (by rw [hs]; exact nofun), hp]
      | unused k => rw [← hs, ← hkept p (by rw [hs]; exact nofun), hp]
    refine ⟨hnode'.trans hnode, hsched'.trans hsched, fun p q hp => ?streams, fun p o hp => ?records, fun r hr => ?copies,
      by rw [hlink', hlink], by rw [hlink', hlink], hview'.trans hview, hsvc'.trans hsvc, htick'.trans htick,
      fun hquiet => (State.standOutputsBy_att fun p o hp => htick ▸ hquiet p o (hout p o hp)).trans hatt⟩
    case streams =>
      exact (State.standOutputsBy_port_in (by rw [hin p q hp]; exact Port.input_ne_output _)).trans (hin p q hp)
    case records =>
      have hport := (hkept p (by rw [hp]; exact nofun)).trans hp
      obtain ⟨hmain, hoverlay, hcam, hfree, hinc, hinteg, hlocked, hpending, hquiet, hhold⟩ := o.settle_standby s.tick
      refine ⟨_, State.standOutputsBy_port_out hport, ?_⟩
      obtain ⟨hq, hd, hc, ha, hs, hpr⟩ := o.main.standby_frame o.main.silenceDue
      rw [← hmain] at hq hd hc ha hs hpr
      exact ⟨hq, hd, hc, ha, hs, hpr, hcam, hfree, hinc, hinteg, hlocked, hpending, hquiet, hhold,
        fun k hk => ⟨_, hoverlay k hk, k.standby_frame k.silenceDue⟩⟩
    case copies => rw [hlink', hlink, hr]; rfl
  case stops =>
    refine ⟨o.stop, exec_portStop hrun hp, ?_, ?_⟩
    · rw [OutPort.stop, if_pos ⟨hstop, o.frameOver_iff.mpr ⟨hpos, hover⟩, hstretch⟩]; rfl
    · refine OutPort.pins_stopped _ ?_
      rw [OutPort.stop, if_pos ⟨hstop, o.frameOver_iff.mpr ⟨hpos, hover⟩, hstretch⟩]
  case early =>
    have hover : ¬(o.pres.pos = .blanking ∧ o.cfg.blankPixels ≤ o.pres.pixel) := fun ⟨hpos, hle⟩ =>
      h.elim (fun hne => hne hpos) (Nat.not_lt.mpr hle)
    rw [exec_portStop hrun hp, OutPort.stop, if_neg (fun hc => hover (o.frameOver_iff.mp hc.2.1)), ← hp, State.setPort_self]

end Sys2Proof.Machine
end

section
/-! PROOFS. The wake from STANDBY by the WAKE pin (R57, R67, R81, R83, R131, R148, R149, R179). -/

namespace Sys2Proof.Machine

/-! ### The wake -/

/-- A station in STANDBY once it is awake, before its streams are settled (R57, R67, R179). -/
def State.awake (s : State) : State :=
  { s with
    node := { s.node with state := s.wakeState, wakeFound := false }
    sched := { s.sched with credit := s.cap }
    view := { s.view with mutePending := false } }

theorem exec_wakePin_found {s : State} (hrun : s.running) (hstate : s.node.state = .standby)
    (hfound : s.node.wakeFound = true) :
    exec .wakePin s = .next (s.awake.settleStreams.onOuts (OutPort.wake s.awake.view.table)) := by
  have hdue : s.wakeDue = true := by simp [State.wakeDue, hfound, hstate]
  change live State.wakePin s = _
  rw [live_running _ _ hrun, State.wakePin, if_pos hdue, State.wakeNode, if_pos hstate]
  rfl

theorem State.awake_port (s : State) (p : PortId) : s.awake.port p = s.port p := by cases p <;> rfl

/-- The state of R81 that a stream is moved to at a wake: the node is in MUTE or in RUN (R67, R83, R179). -/
theorem State.awake_goal (s : State) (q : InPort) (k : Stream) : q.goal s.awake.node.state s.awake.view.demand k =
    if k.win.enabled = false ∨ q.geometry = none then .idle
    else if s.view.mutePending = true then .suspended
    else if k.win.shed = true ∧ s.view.demand = true then .suspended
    else .running := by
  have hstate : s.awake.node.state ≠ .run ↔ s.view.mutePending = true := by
    cases h : s.view.mutePending <;> simp [State.awake, State.wakeState, h]
  simp only [InPort.goal, hstate]
  rfl

theorem State.awake_port_in {s : State} {p : PortId} {q : InPort} (hp : s.port p = .input q) :
    s.awake.settleStreams.port p = .input (q.settled s.awake) :=
  s.awake.settleStreams_port p q ((s.awake_port p).trans hp)

theorem State.awake_port_out {s : State} {p : PortId} {o : OutPort} (hp : s.port p = .output o) :
    s.awake.settleStreams.port p = .output o := by
  have hport := (s.awake_port p).trans hp
  rw [s.awake.settleStreams_port_out p (by rw [hport]; exact nofun), hport]

/-- The lock of a running port at a wake: by its MAIN subscription, with no stretch (R131). -/
theorem FrameLock.dropStretch_freeOrAcquire (c : OutCfg) (sub : Option StreamId) (l : FrameLock) :
    let l' := l.dropStretch.freeOrAcquire c sub
    l'.state = (if sub.isSome then .acquire else .free) ∧ l'.inc = BitVec.ofNat 32 c.incNom ∧ l'.integ = 0 ∧
      l'.stretch = none ∧ l'.linesAdded = l.linesAdded ∧ l'.acc = l.acc := by
  cases sub <;> exact ⟨rfl, rfl, rfl, rfl, rfl, rfl⟩

/-- A running port at a wake goes on where it was (R131, R148, R149). -/
theorem OutPort.wake_running (t : List TableEntry) {o : OutPort} (h : o.pres.pos ≠ .stopped) : (o.wake t).1 = { o with
    lock := o.lock.dropStretch.freeOrAcquire o.cfg o.main.active
    pres := { o.pres with line := o.addedNumber, fillFrame := false, cutDone := false, stopPending := false } } := by
  rw [OutPort.wake, if_neg h]

theorem OutPort.addedNumber_stretched {o : OutPort} {x : Stretch} (h : o.lock.stretch = some x) :
    o.addedNumber = x.added + 1 := by
  rw [OutPort.addedNumber, h]

/-- Settles O35: the wake from STANDBY by the WAKE pin. -/
theorem wakesFromStandby : Obligations.WakesFromStandby := by
  intro s hrun hstate hfound
  obtain ⟨-, hcensus, hmsgs, hcredit, -⟩ := s.awake.settleStreams_sched
  refine ⟨_, exec_wakePin_found hrun hstate hfound, ?_⟩
  simp only [State.onOuts_node, State.onOuts_sched, State.onOuts_view, State.onOuts_link, State.onOuts_svc, State.onOuts_tick,
    State.onOuts_camera, State.settleStreams_node, State.settleStreams_view, State.settleStreams_link,
    State.settleStreams_svc, State.settleStreams_tick, State.settleStreams_camera]
  refine ⟨rfl, hcredit, hcensus, hmsgs, rfl, rfl, rfl, rfl, rfl, fun p q hp => ?streams, fun p o hp => ?port⟩
  case streams =>
    have hport := State.awake_port_in hp
    refine (State.onOuts_port_in _ p _ (by rw [hport]; exact Port.input_ne_output _)).trans (hport.trans ?_)
    have hfull : s.awake.node.state.full = true := by
      cases h : s.view.mutePending <;> simp [State.awake, State.wakeState, h, NodeState.full]
    rw [InPort.settled_full hfull]
    simp only [State.awake_goal]
    rfl
  case port =>
    refine ⟨_, State.onOuts_port _ p o _ (State.awake_port_out hp), ?_⟩
    obtain ⟨-, hpending, hstopped⟩ := o.wake_frame s.awake.view.table
    refine ⟨hpending, fun hpos => ?_, fun hpos => (hstopped hpos).2⟩
    obtain ⟨hlock, hinc, hinteg, hstretch, hadded, hacc⟩ := FrameLock.dropStretch_freeOrAcquire o.cfg o.main.active o.lock
    rw [OutPort.wake_running _ hpos]
    exact ⟨hlock, hinc, hinteg, hstretch, hadded, fun x hx => OutPort.addedNumber_stretched hx, hacc, rfl, rfl, rfl, rfl⟩

end Sys2Proof.Machine
end

section
/-! PROOFS. The entry to RUN with an accepted image: the configured pixel ports (R48, R59 to R61, R65, R92, R94, R131, R146, R149,
R174, R176). -/

namespace Sys2Proof.Machine

/-! ### The first output frame of a port -/

/-- The records of a port hold their initial subscriptions and positions, and nothing else (R94, R112). -/
structure OutPort.RecordsFresh (o : OutPort) (m : SinkCfg) (v : Option SinkCfg) : Prop where
  main : o.main = Sink.fresh m
  overlay : o.overlay = v.map Sink.fresh

/-- An output frame start of a port with fresh records before the Frame Lock is consulted (R135, R149). -/
def OutPort.firstFrame (o : OutPort) : OutPort :=
  { o with
    pres := { o.pres with
      fillFrame := false
      cutDone := false
      lastLine := o.cfg.fillLine
      gen := if o.cfg.dither = .fixed then o.cfg.seed else o.pres.gen
      line := 0
      nextLine := 0
      pixel := o.pres.pixel - o.cfg.blankPixels
      driven := []
      ahead := []
      blank := o.pres.blank - 1 }
    cam := { o.cam with insetHold := o.cam.insetHold && o.cam.state != .idle } }

/-- The first output frame under way: with a hold at its first added line, or at its active lines (R120, R131, R136). -/
def OutPort.started (holds : Bool) (o : OutPort) : OutPort :=
  { o.firstFrame with
    lock := { o.lock with
      stretch := if holds then some { added := 0, ending := false, limit := false } else none
      linesAdded := if holds then o.lock.linesAdded else 0 }
    pres := { o.firstFrame.pres with pos := if holds then .added else .active } }

theorem OutPort.started_eq (holds : Bool) (o : OutPort) :
    o.started holds = if holds then o.firstFrame.beginStretch else o.firstFrame.endStretch 0 := by
  cases holds <;> rfl

/-- A fresh record that is not watched for silence passes an output frame start unchanged. -/
theorem Sink.framed_fresh (t : List TableEntry) (role : Role) {watched : Sink → Bool} (c : SinkCfg)
    (h : watched (Sink.fresh c) = false) : (Sink.fresh c).framed t role watched = Sink.fresh c := by
  have hnone : (Sink.fresh c).shadow = none := rfl
  rw [Sink.framed, Sink.takenOver_none hnone, h]
  rfl

section FirstFrame

variable {o : OutPort} {m : SinkCfg} {v : Option SinkCfg} (h : o.RecordsFresh m v)
include h

theorem OutPort.RecordsFresh.framed (t : List TableEntry) (hlock : o.lock.state ≠ .track) : o.framed t = o.firstFrame := by
  have hmain : ∀ x, o.main.shadow = some x → x.sub = o.main.active := by rw [h.main]; exact nofun
  have hoverlay : ∀ k, o.overlay = some k → k.resubscribes = false := by
    rw [h.overlay]
    intro k hk
    obtain ⟨c, -, rfl⟩ := Option.map_eq_some_iff.mp hk
    rfl
  have htaken := OutPort.takenLock_same hmain
  have hunwatched : o.watchesMain (Sink.fresh m) = false := by rw [OutPort.watchesMain, htaken]; exact beq_false_of_ne hlock
  have hmain' : o.main.framed t .main o.watchesMain = o.main := by rw [h.main, Sink.framed_fresh t .main m hunwatched]
  have hoverlay' : o.overlay.map (Sink.framed t .overlay Sink.isPresent) = o.overlay := by
    rw [h.overlay, Option.map_map]
    exact congrArg (Option.map · v) (funext fun c => Sink.framed_fresh t .overlay c rfl)
  have hblank : blankAfter o.cfg.swb (o.main.resubscribes || o.overlay.any Sink.resubscribes) o.pres.blank =
      o.pres.blank - 1 := OutPort.framed_blank_same t (Sink.resubscribes_eq_false hmain) hoverlay
  rw [OutPort.framed, hmain', hoverlay', htaken, hblank]
  rfl

/-- The first output frame of a port with fresh records: a hold begins where MAIN has a stream, and else the active lines
(R120, R131, R135, R149). -/
theorem OutPort.RecordsFresh.frameStart (t : List TableEntry) (ht : 1 ≤ o.cfg.t)
    (hlock : o.lock.state = if m.initSub.isSome then .acquire else .free) :
    o.frameStart t = (o.started m.initSub.isSome, noCause) := by
  have htrack : o.lock.state ≠ .track := by rw [hlock]; split_ifs <;> decide
  have hlead : o.firstFrame.main.lead = 0 := by
    have hmain : o.firstFrame.main = Sink.fresh m := h.main
    rw [hmain]
    rfl
  rw [OutPort.frameStart_eq, h.framed t htrack, OutPort.started_eq]
  split_ifs at hlock ⊢
  · exact OutPort.consult_acquire_short hlock (hlead ▸ ht)
  · exact OutPort.consult_free hlock

end FirstFrame

/-! ### The ports of an accepted image -/

theorem OutPort.begin_fresh (k : AtRest) (c : OutCfg) (m : SinkCfg) (v : Option SinkCfg) :
    (OutPort.begin k c m v).RecordsFresh m v := ⟨rfl, rfl⟩

theorem OutPort.begin_lock (k : AtRest) (c : OutCfg) (m : SinkCfg) (v : Option SinkCfg) :
    let l := (OutPort.begin k c m v).lock
    l.inc = BitVec.ofNat 32 c.incNom ∧ l.acc = k.acc ∧ l.integ = 0 ∧ l.limited = .clear ∧ l.locked = false ∧
      l.state = if m.initSub.isSome then .acquire else .free := by
  dsimp only [OutPort.begin, OutPort.fresh]
  cases m.initSub <;> exact ⟨rfl, rfl, rfl, rfl, rfl, rfl⟩

theorem OutPort.begin_frameStart (t : List TableEntry) (k : AtRest) {c : OutCfg} (m : SinkCfg) (v : Option SinkCfg)
    (ht : 1 ≤ c.t) :
    (OutPort.begin k c m v).frameStart t = ((OutPort.begin k c m v).started m.initSub.isSome, noCause) :=
  have ⟨_, _, _, _, _, hstate⟩ := OutPort.begin_lock k c m v
  (OutPort.begin_fresh k c m v).frameStart t ht hstate

/-- Streams without a geometry stay IDLE (R81, R92). -/
theorem InPort.fresh_settled {s : State} (hfull : s.node.state.full = true) (c : InCfg) (ws : List Window) :
    (InPort.fresh c ws).settled s = InPort.fresh c ws := by
  have hgoal : ∀ k, (InPort.fresh c ws).goal s.node.state s.view.demand k = .idle := fun k => if_pos (.inr rfl)
  rw [InPort.settled_full hfull]
  simp only [hgoal]
  rw [show (InPort.fresh c ws).streams = ws.map Stream.fresh from rfl, List.map_map]
  rfl

/-- The node, the ports and the enable set as an accepted image gives them, before the streams are settled and the output
frames start (R176). -/
def State.imaged (s : State) (i : Image) : State :=
  { s with
    node := { s.node.endRead with state := .run, ring := some i.ring }
    sched := { s.sched with credit := i.ring.cap }
    view := StationView.start (seedFor i.ring.seed s.node.station) none false
    portA := i.portA.port s.portA.rest
    portB := i.portB.port s.portB.rest
    att := { s.att with enable := i.enable } }

theorem exec_imageAccepted {s : State} {bytes : List Byte} {i : Image} (hrun : s.running) (hstate : s.node.state = .loading)
    (hi : judgeFlash bytes = .accepted i) : exec (.imageAccepted bytes) s =
      .next ((s.imaged i).settleStreams.onOuts (OutPort.frameStart [])) := by
  change live (fun s => s.imageAccepted bytes) s = _
  rw [live_running _ _ hrun, State.imageAccepted, if_pos hstate, hi]
  rfl

section Imaged

variable {s : State} {i : Image} {p : PortId}

theorem State.imaged_port : (s.imaged i).port p = (i.port p).port (s.port p).rest := by cases p <;> rfl

/-- A configured input port with its windows IDLE (R92). -/
theorem State.imaged_settled_in {c : InCfg} {ws : List Window} (h : i.port p = .input c ws) :
    (s.imaged i).settleStreams.port p = .input (InPort.fresh c ws) := by
  have hport : (s.imaged i).port p = .input (InPort.fresh c ws) := by rw [State.imaged_port, h]; rfl
  rw [State.settleStreams_port _ p _ hport, InPort.fresh_settled rfl]

/-- A configured port that is no input. -/
theorem State.imaged_settled_kept (h : ∀ c ws, i.port p ≠ .input c ws) :
    (s.imaged i).settleStreams.port p = (i.port p).port (s.port p).rest := by
  refine (State.settleStreams_port_out _ p ?_).trans State.imaged_port
  rw [State.imaged_port]
  cases hi : i.port p with
  | unused => exact nofun
  | input c ws => exact absurd hi (h c ws)
  | output c m v => exact nofun

/-- The first frames of the output ports of a checked image raise nothing. -/
theorem State.imaged_att (h : ∀ p, (i.port p).Checked) :
    ((s.imaged i).settleStreams.onOuts (OutPort.frameStart [])).att = (s.imaged i).att := by
  refine (State.onOuts_att_of fun p o hp => ?_).trans (State.settleStreams_att _)
  cases hi : i.port p with
  | unused => rw [State.imaged_settled_kept (by rw [hi]; exact nofun), hi] at hp; exact nomatch hp
  | input c ws => rw [State.imaged_settled_in hi] at hp; exact nomatch hp
  | output c m v =>
    rw [State.imaged_settled_kept (by rw [hi]; exact nofun), hi] at hp
    cases hp
    have hchecked := hi ▸ h p
    obtain ⟨hcfg, -⟩ := hchecked
    rw [OutPort.begin_frameStart _ _ _ _ (Nat.le_of_succ_le hcfg.t.1)]

end Imaged

theorem firstPeriod_mem (v : Half) : 1 ≤ firstPeriod v ∧ firstPeriod v ≤ 64 := by
  have hle : (v &&& 63#16).toNat ≤ 63 := by rw [BitVec.toNat_and]; exact Nat.and_le_right
  unfold firstPeriod
  omega

/-- Settles O5: the entry to RUN with an accepted image. -/
theorem imageAcceptedRuns : Obligations.ImageAcceptedRuns := by
  intro s bytes i hrun hstate hi
  obtain ⟨ss, hss⟩ := judgeFlash_accepted hi
  obtain ⟨ha, hb, -⟩ := imageOf_ports hss
  have hatt := State.imaged_att (s := s) (i := i) (fun p => by cases p <;> assumption)
  obtain ⟨-, -, -, hcredit, -⟩ := (s.imaged i).settleStreams_sched
  refine ⟨_, exec_imageAccepted hrun hstate hi, ?_⟩
  have hin := fun p c ws => State.imaged_settled_in (s := s) (i := i) (p := p) (c := c) (ws := ws)
  have hkept := fun p => State.imaged_settled_kept (s := s) (i := i) (p := p)
  rw [hatt]
  simp only [State.onOuts_node, State.onOuts_sched, State.onOuts_view, State.onOuts_link, State.onOuts_svc, State.onOuts_tick,
    State.onOuts_camera, State.settleStreams_node, State.settleStreams_view, State.settleStreams_link,
    State.settleStreams_svc, State.settleStreams_tick, State.settleStreams_camera]
  generalize (s.imaged i).settleStreams = u at hcredit hin hkept ⊢
  refine ⟨rfl, rfl, rfl, hcredit, rfl, rfl, rfl, rfl, rfl, rfl, rfl, ⟨_, rfl, firstPeriod_mem _⟩, rfl, rfl, rfl, rfl,
    fun p => ⟨fun hp k hk => ?unused, fun c ws hp => ?input, fun c m v hp ht => ?output⟩⟩
  case unused =>
    have hport : u.port p = .unused k := by rw [hkept p (by rw [hp]; exact fun _ => nofun), hp, hk]; rfl
    exact (u.onOuts_port_in p _ (by rw [hport]; exact fun _ => nofun)).trans hport
  case input => exact (u.onOuts_port_in p _ (by rw [hin p c ws hp]; exact Port.input_ne_output _)).trans (hin p c ws hp)
  case output =>
    have hport : u.port p = .output (OutPort.begin (s.port p).rest c m v) := by
      rw [hkept p (by rw [hp]; exact fun _ => nofun), hp]; rfl
    refine ⟨_, u.onOuts_port p _ _ hport, ?_⟩
    have hoverlay : ∀ k, v.map Sink.fresh = some k → k.active = k.cfg.initSub ∧ k.x = k.cfg.initX ∧ k.y = k.cfg.initY ∧
        k.shadow = none ∧ k.cur = none ∧ k.presented = none ∧ k.queue = [] ∧ k.source = .absent := fun k hk => by
      obtain ⟨x, -, rfl⟩ := Option.map_eq_some_iff.mp hk
      exact ⟨rfl, rfl, rfl, rfl, rfl, rfl, rfl, rfl⟩
    have hcfg : (v.map Sink.fresh).map Sink.cfg = v := by cases v <;> rfl
    have hacc : ∀ k, s.port p = .unused k → (s.port p).rest.acc = k.acc := fun k hk => by rw [hk]; rfl
    have hgen : (if c.dither = .fixed then c.seed else c.seed) = if c.ditherSeed = 0 then 0xFFFF#16 else c.ditherSeed :=
      ite_self _
    rw [OutPort.begin_frameStart _ _ _ _ (Nat.le_of_succ_le ht)]
    obtain ⟨hinc, hacc', hinteg, hlimited, hlocked, hlock⟩ := OutPort.begin_lock (s.port p).rest c m v
    exact ⟨rfl, rfl, rfl, rfl, rfl, rfl, rfl, rfl, hcfg, hoverlay, hinc, fun k hk => hacc'.trans (hacc k hk), hinteg, hlimited,
      hlocked, hlock, rfl, rfl, rfl, rfl, rfl, rfl, rfl, hgen, rfl, rfl, rfl⟩

end Sys2Proof.Machine
end

section
/-! PROOFS. The image check at a camera mode that 12.7 does not give (R176, R184). -/

namespace Sys2Proof.Machine

/-! ### A camera mode that 12.7 does not give -/

/-- A port A that is an output, its camera mode code 3 in bits 23 to 16 of word 12. -/
def cameraCodeThree : Section :=
  { kind := 2, index := 0
    body := [0x02000000#32, 0x00040003#32, 0x00010001#32, 0x00010001#32, 0x00010001#32, 0x08000000#32, 1594506609#32, 1#32,
      0#32, 0#32, 0x02016410#32, 0x08080001#32, 0x00030005#32, 0#32] }

/-- The sections of an image: the ring, the port A above, and its MAIN record with no subscription. -/
def cameraCodeThreeSections : List Section :=
  [{ kind := 1, index := 0, body := [2053#32, 80#32, 35#32, 1#32] }, cameraCodeThree,
    { kind := 4, index := 0, body := [2#32, 255#32, 0#32] }]

/-- The word before a section's body (12.7). -/
def Section.head (x : Section) : Word :=
  BitVec.ofNat 8 x.kind ++ BitVec.ofNat 8 x.index ++ BitVec.ofNat 16 x.body.length

/-- The words of that image: the header, the sections, and the check word that makes the sum 0. -/
def cameraCodeThreeImage : List Word :=
  let ws := 0x0100001A#32 :: cameraCodeThreeSections.flatMap (fun x => x.head :: x.body)
  ws ++ [0 - wordSum ws]

theorem sectionsOf_cameraCodeThreeImage :
    sectionsOf cameraCodeThreeImage.length (cameraCodeThreeImage.drop 1).dropLast = some cameraCodeThreeSections := by
  decide

theorem judgeWords_cameraCodeThreeImage : ∃ i, judgeWords cameraCodeThreeImage = .accepted i := by
  have hsum : wordSum cameraCodeThreeImage = 0 := by decide
  have himage : (imageOf cameraCodeThreeSections).isSome = true := by decide
  obtain ⟨i, hi⟩ := Option.isSome_iff_exists.mp himage
  exact ⟨i, by rw [judgeWords, if_pos hsum, sectionsOf_cameraCodeThreeImage]; simp only [hi]⟩

/-- Refutes O6: an image whose output port section has the camera mode code 3, which 12.7 does not give, is accepted, where
`Section.Checked` admits the codes 0 to 2. The table of `CameraMode.ofCode` refuses no code: in its last case the name `none` is
`CameraMode.none`, lifted into `Option`, so every code above 2 is read as "no camera". -/
theorem not_imageRejectedFallsBack : ¬ Obligations.ImageRejectedFallsBack := by
  rintro ⟨-, -, -, -, -, -, hsections⟩
  obtain ⟨i, hi⟩ := judgeWords_cameraCodeThreeImage
  have hchecked : Section.Checked cameraCodeThreeSections cameraCodeThree :=
    hsections _ _ i sectionsOf_cameraCodeThreeImage hi cameraCodeThree (by decide)
  obtain ⟨-, -, hmode, -, -⟩ := hchecked.output rfl (by decide)
  exact absurd hmode (by decide)

end Sys2Proof.Machine
end

section
/-! PROOFS. A warm restart at an output port: what it gives, and what the steps after it leave (R112, R131, R146, R148, R149, R154,
R155, R161). -/

namespace Sys2Proof.Machine

/-! ### A port at which nothing is due -/

theorem noCause_or_noCause : noCause ||| noCause = noCause := by decide

/-- A record without a source, and with no silent frame counted. -/
structure Sink.Sourceless (k : Sink) : Prop where
  source : k.source = .absent
  silent : k.silent = 0

theorem Sink.Sourceless.silenceDue {k : Sink} (h : k.Sourceless) : k.silenceDue = false := by
  rw [Sink.silenceDue, h.silent]; rfl

theorem Sink.fresh_sourceless (c : SinkCfg) : (Sink.fresh c).Sourceless := ⟨rfl, rfl⟩

/-- Nothing is due on the port, and a table report finds nothing there to lose. -/
structure OutPort.Undue (o : OutPort) : Prop where
  main : o.main.Sourceless
  overlay : ∀ k, o.overlay = some k → k.Sourceless
  idle : o.cam.state = .idle
  lock : o.lock.state ≠ .holdover
  stretch : ∀ x, o.lock.stretch = some x → x.ending = false → x.limit = false

namespace OutPort.Undue

variable {o : OutPort} (h : o.Undue)
include h

theorem limitReached (st : LockState) : o.limitReached st = false := by
  rw [OutPort.limitReached]
  split
  next => rfl
  next x hx =>
    cases hending : x.ending with
    | true => simp
    | false => simp [h.stretch x hx hending]

theorem quiet (now : Word) : o.quiet now = true := by
  have hoverlay : o.overlay.any Sink.silenceDue = false := by
    cases hk : o.overlay with
    | none => rfl
    | some k => exact (h.overlay k hk).silenceDue
  have hrun : o.lock.runOut o.cfg = false := by simp [FrameLock.runOut, h.lock]
  simp [OutPort.quiet, OutPort.deadlineDue, h.idle, h.main.silenceDue, hoverlay, hrun, h.limitReached]

theorem presentFrom (role : Role) (st : StationNo) : o.presentFrom role st = false := by
  cases role with
  | main => simp [OutPort.presentFrom, OutPort.sink, h.main.source]
  | overlay =>
    cases hk : o.overlay with
    | none => simp [OutPort.presentFrom, OutPort.sink, hk]
    | some k => simp [OutPort.presentFrom, OutPort.sink, hk, (h.overlay k hk).source]

/-- The report that an entry is gone finds no record in PRESENT (R107). -/
theorem tableReport (st : StationNo) : o.dueFirst (OutPort.tableReport [] st) = (o, noCause) := by
  have hreport : ∀ role, o.tableReport1 [] st role = (o, noCause) := fun role => by
    rw [OutPort.tableReport1_removed rfl, h.presentFrom, if_neg Bool.false_ne_true]
  rw [OutPort.dueFirst_quiet 0 _ _ (h.quiet 0), OutPort.tableReport, hreport .main]
  dsimp only
  rw [hreport .overlay, noCause_or_noCause]

/-- An engage finds nothing to raise (R152). -/
theorem engage_noCause (t : List TableEntry) (now : Word) : (o.engage t now).2 = noCause := by
  rw [OutPort.engage]
  split_ifs
  · rw [OutPort.dueFirst_quiet now _ _ (h.quiet now), OutPort.engageMode]
    split <;> rfl
  · rfl

end OutPort.Undue

/-! ### The Frame Lock at a warm restart -/

/-- The Frame Lock that a warm restart gives, a hold or stretch in progress ending with its line (R131). -/
def FrameLock.restarted (c : OutCfg) (sub : Option StreamId) (l : FrameLock) : FrameLock :=
  { l.restart c sub with stretch := (l.restart c sub).stretch.map Stretch.stop }

/-- FREE or ACQUIRE, by the MAIN subscription (R131). -/
def LockState.begun (sub : Option StreamId) : LockState := if sub.isSome then .acquire else .free

theorem LockState.begun_ne (sub : Option StreamId) : LockState.begun sub ≠ .holdover ∧ LockState.begun sub ≠ .track := by
  unfold LockState.begun; split_ifs <;> decide

theorem FrameLock.restarted_state (c : OutCfg) (sub : Option StreamId) (l : FrameLock) :
    (l.restarted c sub).state = LockState.begun sub := by
  cases sub <;> rfl

/-- A hold or stretch in progress keeps its count of lines and is to end (R129, R131). -/
theorem FrameLock.restarted_stretch (c : OutCfg) (sub : Option StreamId) (l : FrameLock) :
    (l.stretch = none → (l.restarted c sub).stretch = none) ∧
      (∀ x, l.stretch = some x → ∃ x', (l.restarted c sub).stretch = some x' ∧ x'.added = x.added ∧ x'.ending = true) ∧
      ∀ x, (l.restarted c sub).stretch = some x → x.ending = true := by
  have hstretch : (l.restarted c sub).stretch = l.stretch.map (fun x =>
      if sub.isSome then { x with ending := true, limit := false } else { x with ending := true }) := by
    cases sub <;> cases h : l.stretch <;>
      simp [FrameLock.restarted, FrameLock.restart, FrameLock.freeOrAcquire, FrameLock.enterFree, FrameLock.enterAcquire,
        Stretch.stop, h]
  rw [hstretch]
  refine ⟨fun h => by rw [h]; rfl, fun x h => ⟨_, by rw [h]; rfl, ?_⟩, fun x h => ?_⟩
  · split_ifs <;> exact ⟨rfl, rfl⟩
  · obtain ⟨y, -, rfl⟩ := Option.map_eq_some_iff.mp h
    split_ifs <;> rfl

/-- Whatever it was doing, a restarted lock runs at INC_nom with every figure at 0, its accumulator kept (R131). -/
theorem FrameLock.restarted_figures (c : OutCfg) (sub : Option StreamId) (l : FrameLock) :
    let l' := l.restarted c sub
    l'.acc = l.acc ∧ l'.inc = BitVec.ofNat 32 c.incNom ∧ l'.integ = 0 ∧ l'.limited = .clear ∧ l'.locked = false ∧
      (l'.inWin = 0 ∧ l'.outWin = 0 ∧ l'.holdCount = 0) ∧ l'.lastLead = 0 ∧ l'.lastError = 0 ∧ l'.linesAdded = 0 := by
  cases sub <;> exact ⟨rfl, rfl, rfl, rfl, rfl, ⟨rfl, rfl, rfl⟩, rfl, rfl, rfl⟩

/-- What a warm restart and the engage that may follow leave of a port's Frame Lock and Presenter, whatever the port was
doing: the increment INC_nom, the figures 0, the flags clear, the accumulator kept (R131, R149). -/
structure OutPort.Figures (c : OutCfg) (acc : Word) (o : OutPort) : Prop where
  cfg : o.cfg = c
  acc : o.lock.acc = acc
  inc : o.lock.inc = BitVec.ofNat 32 c.incNom
  integ : o.lock.integ = 0
  limited : o.lock.limited = .clear
  unlocked : o.lock.locked = false
  counts : o.lock.inWin = 0 ∧ o.lock.outWin = 0 ∧ o.lock.holdCount = 0
  lastLine : o.pres.lastLine = List.replicate c.ha c.fill
  blank : o.pres.blank = 0
  flags : o.pres.fillFrame = false ∧ o.pres.stopPending = false
  presCounts : o.pres.repeated = 0 ∧ o.pres.underrun = 0
  computed : o.lock.lastLead = 0 ∧ o.lock.lastError = 0 ∧ o.lock.linesAdded = 0

/-! ### The restart of a port -/

/-- The port as a warm restart sets its records, Frame Lock, Presenter and camera part (R112, R131, R149, R161). -/
def OutPort.cleared (o : OutPort) : OutPort :=
  { o with
    main := Sink.fresh o.main.cfg
    overlay := o.overlay.map (fun k => Sink.fresh k.cfg)
    lock := o.lock.restarted o.cfg o.main.cfg.initSub
    pres := o.pres.restart o.cfg
    cam := CameraPort.fresh }

/-- A stopped port so set, about to start its first output frame (R148). -/
def OutPort.primed (o : OutPort) : OutPort :=
  { o.cleared with
    lock := { o.cleared.lock with stretch := none }
    pres := { o.cleared.pres with pos := .blanking } }

theorem OutPort.restart_running {o : OutPort} (h : o.pres.pos ≠ .stopped) : o.restart = (o.cleared, noCause) := by
  rw [OutPort.restart]
  exact if_neg h

theorem OutPort.restart_stopped {o : OutPort} (h : o.pres.pos = .stopped) : o.restart = o.primed.frameStart [] := by
  rw [OutPort.restart]
  exact if_pos h

theorem OutPort.cleared_fresh (o : OutPort) : o.cleared.RecordsFresh o.main.cfg (o.overlay.map Sink.cfg) :=
  ⟨rfl, (Option.map_map Sink.fresh Sink.cfg o.overlay).symm⟩

theorem OutPort.primed_fresh (o : OutPort) : o.primed.RecordsFresh o.main.cfg (o.overlay.map Sink.cfg) :=
  ⟨o.cleared_fresh.main, o.cleared_fresh.overlay⟩

theorem OutPort.primed_lock (o : OutPort) : o.primed.lock.state = LockState.begun o.main.cfg.initSub :=
  o.lock.restarted_state o.cfg o.main.cfg.initSub

theorem OutPort.primed_frameStart {o : OutPort} (ht : 1 ≤ o.cfg.t) :
    o.primed.frameStart [] = (o.primed.started o.main.cfg.initSub.isSome, noCause) :=
  o.primed_fresh.frameStart [] ht o.primed_lock

theorem OutPort.cleared_overlay_sourceless {o : OutPort} {k : Sink} (hk : o.cleared.overlay = some k) : k.Sourceless := by
  obtain ⟨x, -, rfl⟩ := Option.map_eq_some_iff.mp hk
  exact Sink.fresh_sourceless _

theorem OutPort.cleared_undue (o : OutPort) : o.cleared.Undue where
  main := Sink.fresh_sourceless _
  overlay _ hk := OutPort.cleared_overlay_sourceless hk
  idle := rfl
  lock := by rw [show o.cleared.lock.state = _ from o.lock.restarted_state _ _]; exact (LockState.begun_ne _).1
  stretch x hx hending := by
    obtain ⟨-, -, hends⟩ := o.lock.restarted_stretch o.cfg o.main.cfg.initSub
    rw [hends x hx] at hending
    exact nomatch hending

/-- Causes without CAMERA_LATE. -/
def NoLate (m : Half) : Prop := m &&& Cause.cameraLate.bit = 0

theorem NoLate.none : NoLate noCause := by unfold NoLate; decide

/-- The lock judgement does not raise CAMERA_LATE (R126). -/
theorem FrameLock.judge_noLate (c : OutCfg) (e : Int) (l : FrameLock) : NoLate (l.judge c e).2 := by
  have hlost : NoLate Cause.lockLost.bit := by unfold NoLate; decide
  have hacquired : NoLate Cause.lockAcquired.bit := by unfold NoLate; decide
  unfold FrameLock.judge
  split_ifs
  · exact .none
  · exact hlost
  · exact .none
  · exact hacquired
  · exact .none
  · exact .none

/-- The consultation of a Frame Lock in FREE or ACQUIRE leaves no holdover and no limit reached, and does not raise CAMERA_LATE
(R120, R123). -/
theorem OutPort.consult_begun {o : OutPort} {sub : Option StreamId} (h : o.lock.state = LockState.begun sub) :
    o.consult.1.lock.state ≠ .holdover ∧ (∀ x, o.consult.1.lock.stretch = some x → x.limit = false) ∧ NoLate o.consult.2 := by
  obtain ⟨hholdover, htrack⟩ := LockState.begun_ne sub
  rw [← h] at hholdover htrack
  cases hst : o.lock.state with
  | holdover => exact absurd hst hholdover
  | track => exact absurd hst htrack
  | free =>
    rw [OutPort.consult_free hst]
    exact ⟨hholdover, nofun, .none⟩
  | acquire =>
    by_cases hlead : o.cfg.t ≤ o.main.lead
    · rw [OutPort.consult_acquire_reached hst hlead]
      obtain ⟨hstate, hstretch⟩ := FrameLock.compute_frame o.cfg o.main.lead (o.endStretch 0).lock.enterTrack
      exact ⟨fun h => (nomatch hstate.symm.trans h), fun x hx => (nomatch hstretch.symm.trans hx), FrameLock.judge_noLate _ _ _⟩
    · rw [OutPort.consult_acquire_short hst (Nat.not_le.mp hlead)]
      exact ⟨hholdover, fun x hx => by cases hx; rfl, .none⟩

/-- The first output frame of a restarted port leaves nothing due there, and does not raise CAMERA_LATE. -/
theorem OutPort.primed_frameStart_undue (o : OutPort) :
    (o.primed.frameStart []).1.Undue ∧ NoLate (o.primed.frameStart []).2 := by
  have hlock : o.primed.firstFrame.lock.state = LockState.begun o.main.cfg.initSub := o.primed_lock
  obtain ⟨hstate, hstretch, hlate⟩ := OutPort.consult_begun hlock
  obtain ⟨hmain, hoverlay, -, hcam, -⟩ := o.primed.firstFrame.consult_frame
  rw [OutPort.frameStart_eq, o.primed_fresh.framed [] (o.primed_lock ▸ (LockState.begun_ne _).2)]
  refine ⟨⟨?_, fun k hk => ?_, by rw [hcam]; rfl, hstate, fun x hx _ => hstretch x hx⟩, hlate⟩
  · rw [hmain]; exact Sink.fresh_sourceless o.main.cfg
  · exact OutPort.cleared_overlay_sourceless (hoverlay ▸ hk)

theorem OutPort.restart_undue (o : OutPort) : o.restart.1.Undue ∧ NoLate o.restart.2 := by
  by_cases h : o.pres.pos = .stopped
  · rw [OutPort.restart_stopped h]; exact o.primed_frameStart_undue
  · rw [OutPort.restart_running h]; exact ⟨o.cleared_undue, .none⟩

/-- What a warm restart gives at the port r that was o, apart from its timing (R112, R131, R149, R161). -/
structure OutPort.Restarted (o r : OutPort) : Prop where
  figures : r.Figures o.cfg o.lock.acc
  records : r.RecordsFresh o.main.cfg (o.overlay.map Sink.cfg)
  cam : r.cam = CameraPort.fresh
  uncut : r.pres.cutDone = false
  lock : r.lock.state = LockState.begun o.main.cfg.initSub

theorem OutPort.cleared_restarted (o : OutPort) : o.Restarted o.cleared := by
  obtain ⟨hacc, hinc, hinteg, hlimited, hlocked, hcounts, hcomputed⟩ := o.lock.restarted_figures o.cfg o.main.cfg.initSub
  exact ⟨⟨rfl, hacc, hinc, hinteg, hlimited, hlocked, hcounts, rfl, rfl, ⟨rfl, rfl⟩, ⟨rfl, rfl⟩, hcomputed⟩,
    o.cleared_fresh, rfl, rfl, o.lock.restarted_state _ _⟩

theorem OutPort.started_restarted (o : OutPort) (holds : Bool) : o.Restarted (o.primed.started holds) := by
  obtain ⟨hacc, hinc, hinteg, hlimited, hlocked, hcounts, hlead, herror, hadded⟩ :=
    o.lock.restarted_figures o.cfg o.main.cfg.initSub
  have hadded' : (o.primed.started holds).lock.linesAdded = 0 := by
    cases holds
    · rfl
    · exact hadded
  exact ⟨⟨rfl, hacc, hinc, hinteg, hlimited, hlocked, hcounts, rfl, rfl, ⟨rfl, rfl⟩, ⟨rfl, rfl⟩, hlead, herror, hadded'⟩,
    ⟨o.primed_fresh.main, o.primed_fresh.overlay⟩, rfl, rfl, o.primed_lock⟩

theorem OutPort.restart_restarted {o : OutPort} (ht : 1 ≤ o.cfg.t) : o.Restarted o.restart.1 := by
  by_cases h : o.pres.pos = .stopped
  · rw [OutPort.restart_stopped h, OutPort.primed_frameStart ht]; exact o.started_restarted _
  · rw [OutPort.restart_running h]; exact o.cleared_restarted

/-- The restart knows of the port that was there its configuration, its accumulator and its allotments alone. -/
theorem OutPort.Restarted.of_same {o a r : OutPort} (h : a.Restarted r) (hcfg : a.cfg = o.cfg)
    (hacc : a.lock.acc = o.lock.acc) (hmain : a.main.cfg = o.main.cfg)
    (hoverlay : a.overlay.map Sink.cfg = o.overlay.map Sink.cfg) : o.Restarted r := by
  obtain ⟨hfigures, hrecords, hcam, huncut, hlock⟩ := h
  rw [hcfg, hacc] at hfigures
  rw [hmain, hoverlay] at hrecords
  rw [hmain] at hlock
  exact ⟨hfigures, hrecords, hcam, huncut, hlock⟩

/-! ### What was due on the port taken first -/

/-- Related options look the same through a function that related values do not tell apart. -/
theorem map_eq_of_rel {α β : Type} {R : α → α → Prop} {f : α → β} (hR : ∀ a b, R a b → f b = f a) {x y : Option α}
    (h : Option.Rel R x y) : y.map f = x.map f := by
  cases h with
  | none => rfl
  | some h => exact congrArg some (hR _ _ h)

/-- The work due on a port leaves the allotments of its records. -/
theorem OutPort.settle_allotments (o : OutPort) :
    o.settle.1.main.cfg = o.main.cfg ∧ o.settle.1.overlay.map Sink.cfg = o.overlay.map Sink.cfg :=
  ⟨o.keeps_settle.main.cfg, map_eq_of_rel (fun _ _ h => h.cfg) o.keeps_settle.overlay⟩

theorem OutPort.settle_restarted {o : OutPort} (ht : 1 ≤ o.cfg.t) : o.Restarted o.settle.1.restart.1 := by
  obtain ⟨hmain, hoverlay⟩ := o.settle_allotments
  have hcfg := o.settle_settles.cfg
  exact (OutPort.restart_restarted (hcfg ▸ ht)).of_same hcfg o.settle_dueKept.acc hmain hoverlay

/-- What a warm restart leaves of a port's timing at the port r that was o: a stopped port starts its first frame, a running one
with nothing due goes on, and a hold or stretch at its limit gives way to the active lines (R122, R127, R131, R148, log 2). -/
structure OutPort.Resumed (now : Word) (o r : OutPort) : Prop where
  moving : r.pres.pos ≠ .stopped
  stopped : o.pres.pos = .stopped → o.lock.stretch = none →
    r.pres.nextLine = 0 ∧ r.pres.pos = (if o.main.cfg.initSub = none then .active else .added) ∧
      r.lock.stretch = (if o.main.cfg.initSub = none then none else some { added := 0, ending := false, limit := false })
  running : o.pres.pos ≠ .stopped → o.quiet now = true → r.pres = o.pres.restart o.cfg ∧
    (o.lock.stretch = none → r.lock.stretch = none) ∧
      ∀ x, o.lock.stretch = some x → ∃ x', r.lock.stretch = some x' ∧ x'.added = x.added ∧ x'.ending = true
  limit : ∀ x, o.pres.pos ≠ .stopped → o.lock.stretch = some x → x.limit = true → x.ending = false →
    (o.lock.state = .acquire ∨ (o.lock.state = .track ∧ o.main.silent < 3)) →
      r.pres.nextLine = 0 ∧ r.lock.stretch = none ∧ r.pres.pos = .active

theorem OutPort.started_timing (o : OutPort) (sub : Option StreamId) :
    let r := o.started sub.isSome
    r.pres.nextLine = 0 ∧ r.pres.pos = (if sub = none then .active else .added) ∧
      r.lock.stretch = (if sub = none then none else some { added := 0, ending := false, limit := false }) := by
  cases sub <;> exact ⟨rfl, rfl, rfl⟩

theorem OutPort.settle_resumed (now : Word) {o : OutPort} (ht : 1 ≤ o.cfg.t) : o.Resumed now o.settle.1.restart.1 := by
  obtain ⟨hmain, -⟩ := o.settle_allotments
  have hcfg := o.settle_settles.cfg
  refine ⟨?moving, fun hpos hnone => ?stopped, fun hpos hquiet => ?running, fun x hpos hx hlimit hending hstate => ?limit⟩
  case moving =>
    by_cases h : o.settle.1.pres.pos = .stopped
    · rw [OutPort.restart_stopped h, OutPort.primed_frameStart (hcfg ▸ ht)]
      obtain ⟨-, hpos, -⟩ := o.settle.1.primed.started_timing o.settle.1.main.cfg.initSub
      rw [hpos]; split_ifs <;> exact nofun
    · rw [OutPort.restart_running h]; exact h
  case stopped =>
    obtain ⟨-, hpres⟩ := o.settle_dueKept.unstretched hnone
    rw [OutPort.restart_stopped (by rw [hpres, hpos]), OutPort.primed_frameStart (hcfg ▸ ht), ← hmain]
    exact o.settle.1.primed.started_timing _
  case running =>
    rw [o.settle_quiet now hquiet, OutPort.restart_running hpos]
    obtain ⟨hnone, hsome, -⟩ := o.lock.restarted_stretch o.cfg o.main.cfg.initSub
    exact ⟨rfl, hnone, hsome⟩
  case limit =>
    have hsettled : o.settle.1.lock.stretch = none ∧ o.settle.1.pres.pos = .active ∧ o.settle.1.pres.nextLine = 0 := by
      rcases hstate with hstate | ⟨hstate, hsilent⟩
      · obtain ⟨hlock, hpres⟩ := OutPort.settle_hold hx hlimit hending hstate
        rw [hlock, hpres]
        exact ⟨rfl, rfl, rfl⟩
      · have hdue : o.main.silenceDue = false := by simpa [Sink.silenceDue, Config.silentFrames] using hsilent
        obtain ⟨-, hlock, hpres⟩ := OutPort.settle_limit hx hlimit hending hstate hdue
        rw [hlock, hpres]
        exact ⟨(FrameLock.compute_frame _ _ _).2, rfl, rfl⟩
    obtain ⟨hnone, hactive, hline⟩ := hsettled
    obtain ⟨hstretch, -⟩ := o.settle.1.lock.restarted_stretch o.settle.1.cfg o.settle.1.main.cfg.initSub
    rw [OutPort.restart_running (by rw [hactive]; exact nofun)]
    exact ⟨hline, hstretch hnone, hactive⟩

/-! ### Ports that differ in what their records hold -/

/-- What a warm restart looks at in a record: its allotment, and whether its silence is due. -/
structure Sink.Alike (k k' : Sink) : Prop where
  cfg : k'.cfg = k.cfg
  silent : k'.silent = k.silent

/-- Two ports that a warm restart does not tell apart. -/
structure OutPort.Alike (o o' : OutPort) : Prop where
  cfg : o'.cfg = o.cfg
  lock : o'.lock = o.lock
  pres : o'.pres = o.pres
  cam : o'.cam = o.cam
  main : o.main.Alike o'.main
  overlay : Option.Rel Sink.Alike o.overlay o'.overlay

theorem Sink.Alike.refl (k : Sink) : k.Alike k := ⟨rfl, rfl⟩

theorem Sink.Alike.trans {a b c : Sink} (h : a.Alike b) (h' : b.Alike c) : a.Alike c :=
  ⟨h'.cfg.trans h.cfg, h'.silent.trans h.silent⟩

theorem Sink.alike_rel_refl (k : Option Sink) : Option.Rel Sink.Alike k k := by
  cases k with
  | none => exact .none
  | some k => exact .some (.refl k)

theorem OutPort.Alike.refl (o : OutPort) : o.Alike o := ⟨rfl, rfl, rfl, rfl, .refl _, Sink.alike_rel_refl _⟩

theorem OutPort.Alike.trans {a b c : OutPort} (h : a.Alike b) (h' : b.Alike c) : a.Alike c := by
  refine ⟨h'.cfg.trans h.cfg, h'.lock.trans h.lock, h'.pres.trans h.pres, h'.cam.trans h.cam, h.main.trans h'.main, ?_⟩
  have hoverlay := h.overlay
  have hoverlay' := h'.overlay
  generalize a.overlay = x, b.overlay = y, c.overlay = z at hoverlay hoverlay'
  cases hoverlay with
  | none => exact hoverlay'
  | some hxy => cases hoverlay' with | some hyz => exact .some (hxy.trans hyz)

/-- The end of a line at a record of the port (R97, R102). -/
theorem OutPort.mapSink_alike (o : OutPort) (role : Role) {f : Sink → Sink} (hf : ∀ k : Sink, k.Alike (f k)) :
    o.Alike (o.mapSink role f) := by
  cases role with
  | main => exact ⟨rfl, rfl, rfl, rfl, hf _, Sink.alike_rel_refl _⟩
  | overlay =>
    refine ⟨rfl, rfl, rfl, rfl, .refl _, ?_⟩
    change Option.Rel Sink.Alike o.overlay (o.overlay.map f)
    cases o.overlay with
    | none => exact .none
    | some k => exact .some (hf k)

theorem Sink.finish_alike (good : Bool) (k : Sink) : k.Alike (k.finish good) := by
  cases good <;> exact ⟨rfl, rfl⟩

section Alike

variable {o o' : OutPort} (h : o.Alike o')
include h

theorem OutPort.Alike.quiet (now : Word) : o'.quiet now = o.quiet now := by
  have hdue : ∀ {k k' : Sink}, k.Alike k' → k'.silenceDue = k.silenceDue := fun h => by
    rw [Sink.silenceDue, Sink.silenceDue, h.silent]
  have hoverlay : o'.overlay.any Sink.silenceDue = o.overlay.any Sink.silenceDue := by
    have hmap := congrArg (Option.any id) (map_eq_of_rel (fun _ _ h => hdue h) h.overlay)
    rwa [Option.any_map, Option.any_map] at hmap
  simp only [OutPort.quiet, OutPort.deadlineDue, OutPort.hasCamera, OutPort.limitReached, h.cfg, h.lock, h.cam, hdue h.main,
    hoverlay]

theorem OutPort.Alike.restarted {r : OutPort} (hr : o'.Restarted r) : o.Restarted r :=
  hr.of_same h.cfg (congrArg FrameLock.acc h.lock) h.main.cfg (map_eq_of_rel (fun _ _ h => h.cfg) h.overlay)

theorem OutPort.Alike.resumed {now : Word} {r : OutPort} (hr : o'.Resumed now r) : o.Resumed now r := by
  obtain ⟨hmoving, hstopped, hrunning, hlimit⟩ := hr
  rw [h.pres, h.lock, h.main.cfg] at hstopped
  rw [h.pres, h.lock, h.quiet, h.cfg] at hrunning
  rw [h.pres, h.lock, h.main.silent] at hlimit
  exact ⟨hmoving, hstopped, hrunning, hlimit⟩

end Alike

/-! ### The engage of a restarted port -/

/-- A cut moves the timing alone (R138). -/
theorem OutPort.cut_settings (o : OutPort) :
    let p := o.cut.pres
    p.lastLine = o.pres.lastLine ∧ p.blank = o.pres.blank ∧ p.fillFrame = o.pres.fillFrame ∧
      p.stopPending = o.pres.stopPending ∧ p.repeated = o.pres.repeated ∧ p.underrun = o.pres.underrun := by
  unfold OutPort.cut
  split_ifs
  · exact ⟨rfl, rfl, rfl, rfl, rfl, rfl⟩
  · dsimp only
    unfold Presenter.roll
    split_ifs <;> exact ⟨rfl, rfl, rfl, rfl, rfl, rfl⟩
  · exact ⟨rfl, rfl, rfl, rfl, rfl, rfl⟩

/-- A fresh record directed to a stream, or on it already, holds no frame and no line. -/
theorem Sink.fresh_directed (t : List TableEntry) (sub : Option StreamId) (c : SinkCfg) :
    let k : Sink := if (Sink.fresh c).active = sub then { Sink.fresh c with shadow := none }
      else ({ Sink.fresh c with shadow := none } : Sink).change t sub
    k.cur = none ∧ k.queue = [] := by
  dsimp only
  split_ifs
  · exact ⟨rfl, rfl⟩
  · exact ⟨rfl, rfl⟩

section EngageFull

variable {o : OutPort} (t : List TableEntry) (now : Word)

theorem OutPort.engageFull_settings :
    let p := (o.engageFull t now).pres
    p.lastLine = o.pres.lastLine ∧ p.blank = 0 ∧ p.fillFrame = o.pres.fillFrame ∧
      p.stopPending = o.pres.stopPending ∧ p.repeated = o.pres.repeated ∧ p.underrun = o.pres.underrun := by
  by_cases ha : o.main.active = some o.cfg.camStream
  · rw [OutPort.engageFull_pres_same ha]; exact ⟨rfl, rfl, rfl, rfl, rfl, rfl⟩
  · rw [OutPort.engageFull_pres ha]; exact o.unblanked.cut_settings

/-- The Frame Lock of a FULL port that changes to the camera stream acquires it (R117, R154); the OVERLAY stays. -/
theorem OutPort.engageFull_lock : (o.engageFull t now).overlay = o.overlay ∧ (o.engageFull t now).lock =
    if o.main.active = some o.cfg.camStream then o.lock else o.lock.enterAcquire o.cfg 0 := by
  by_cases ha : o.main.active = some o.cfg.camStream
  · simp [OutPort.engageFull, OutPort.subscribe, OutPort.switching, ha]
  · simp only [OutPort.engageFull, OutPort.subscribe, OutPort.switching, if_neg ha, if_true]
    rw [OutPort.cut_rest]
    exact ⟨rfl, rfl⟩

theorem OutPort.engageFull_main : (o.engageFull t now).main =
    if o.main.active = some o.cfg.camStream then { o.main with shadow := none }
    else ({ o.main with shadow := none } : Sink).change t (some o.cfg.camStream) := by
  by_cases ha : o.main.active = some o.cfg.camStream
  · simp [OutPort.engageFull, OutPort.subscribe, OutPort.switching, ha]
  · simp only [OutPort.engageFull, OutPort.subscribe, OutPort.switching, if_neg ha, if_true]
    rw [OutPort.cut_rest]

theorem OutPort.engageInset_overlay {k : Sink} (hk : o.overlay = some k) : (o.engageInset t now).overlay = some
    { (if k.active = some o.cfg.camStream then { k with shadow := none }
      else ({ k with shadow := none } : Sink).change t (some o.cfg.camStream)) with x := o.cfg.camX, y := o.cfg.camY } := by
  unfold OutPort.engageInset
  rw [hk]
  by_cases ha : k.active = some o.cfg.camStream <;>
    simp [OutPort.mapSink, hk, OutPort.subscribe, ha, OutPort.switching]

theorem OutPort.Figures.engageFull {c : OutCfg} {acc : Word} (h : o.Figures c acc) : (o.engageFull t now).Figures c acc := by
  obtain ⟨hcfg, hacc, hinc, hinteg, hlimited, hlocked, hcounts, hlast, -, hflags, hpres, hcomputed⟩ := h
  obtain ⟨hlast', hblank', hfill', hstop', hrepeated', hunderrun'⟩ := OutPort.engageFull_settings (o := o) t now
  obtain ⟨-, hlock⟩ := OutPort.engageFull_lock (o := o) t now
  obtain ⟨hcfg', -⟩ := OutPort.engageFull_spec t now o
  have hlockFigures : (o.engageFull t now).lock.acc = acc ∧ (o.engageFull t now).lock.inc = BitVec.ofNat 32 c.incNom ∧
      (o.engageFull t now).lock.integ = 0 ∧ (o.engageFull t now).lock.limited = .clear ∧
      (o.engageFull t now).lock.locked = false ∧ ((o.engageFull t now).lock.inWin = 0 ∧
      (o.engageFull t now).lock.outWin = 0 ∧ (o.engageFull t now).lock.holdCount = 0) ∧
      (o.engageFull t now).lock.lastLead = 0 ∧ (o.engageFull t now).lock.lastError = 0 ∧
      (o.engageFull t now).lock.linesAdded = 0 := by
    rw [hlock]
    split_ifs
    · exact ⟨hacc, hinc, hinteg, hlimited, hlocked, hcounts, hcomputed⟩
    · exact ⟨hacc, by rw [← hcfg]; rfl, rfl, rfl, rfl, ⟨rfl, rfl, rfl⟩, hcomputed⟩
  obtain ⟨hacc', hinc', hinteg', hlimited', hlocked', hcounts', hcomputed'⟩ := hlockFigures
  rw [← hfill', ← hstop'] at hflags
  rw [← hrepeated', ← hunderrun'] at hpres
  exact ⟨hcfg'.trans hcfg, hacc', hinc', hinteg', hlimited', hlocked', hcounts', hlast'.trans hlast, hblank', hflags, hpres,
    hcomputed'⟩

/-- The figures of a port lie in its configuration, its Frame Lock and its Presenter. -/
theorem OutPort.Figures.of_same {c : OutCfg} {acc : Word} (h : o.Figures c acc) {e : OutPort} (hcfg : e.cfg = o.cfg)
    (hlock : e.lock = o.lock) (hpres : e.pres = o.pres) : e.Figures c acc := by
  obtain ⟨hcfg', hacc, hinc, hinteg, hlimited, hlocked, hcounts, hlast, hblank, hflags, hpresCounts, hcomputed⟩ := h
  rw [← hcfg] at hcfg'
  rw [← hlock] at hacc hinc hinteg hlimited hlocked hcounts hcomputed
  rw [← hpres] at hlast hblank hflags hpresCounts
  exact ⟨hcfg', hacc, hinc, hinteg, hlimited, hlocked, hcounts, hlast, hblank, hflags, hpresCounts, hcomputed⟩

/-- An INSET engage reaches the OVERLAY record and the camera part alone (R155). -/
theorem OutPort.engageInset_frame : (o.engageInset t now).cfg = o.cfg ∧ (o.engageInset t now).lock = o.lock ∧
    (o.engageInset t now).pres = o.pres := by
  cases hk : o.overlay with
  | none => rw [OutPort.engageInset, hk]; exact ⟨rfl, rfl, rfl⟩
  | some k =>
    obtain ⟨-, -, -, -, -, -, -, hlock, hpres, hcfg, -⟩ := OutPort.engageInset_spec (t := t) (now := now) hk
    exact ⟨hcfg, hlock, hpres⟩

/-- Where the active line in progress is not over, an engage leaves the timing where it is (R138, R154). -/
theorem OutPort.engageFull_timing (hrunning : o.pres.pos ≠ .stopped) (huncut : o.pres.cutDone = false)
    (h : o.main.active ≠ some o.cfg.camStream → o.pres.pos = .active → 0 < o.pres.nextLine → o.pres.pixel < o.cfg.ht) :
    let p := (o.engageFull t now).pres
    p.pos = o.pres.pos ∧ p.line = o.pres.line ∧ p.pixel = o.pres.pixel ∧ p.driven = o.pres.driven ∧
      p.ahead = o.pres.ahead ∧ p.gen = o.pres.gen := by
  by_cases ha : o.main.active = some o.cfg.camStream
  · rw [OutPort.engageFull_pres_same ha]; exact ⟨rfl, rfl, rfl, rfl, rfl, rfl⟩
  · rw [OutPort.engageFull_pres ha, OutPort.cut_pres o.unblanked hrunning huncut]
    split_ifs with hline hover
    · obtain ⟨hpos, hnext⟩ := hline
      exact absurd hover (Nat.not_le.mpr (h ha hpos hnext))
    · exact ⟨rfl, rfl, rfl, rfl, rfl, rfl⟩
    · exact ⟨rfl, rfl, rfl, rfl, rfl, rfl⟩

/-- A hold or stretch goes on as it was, its limit not yet reached (R129). -/
theorem OutPort.engageFull_stretch : (o.engageFull t now).lock.stretch = o.lock.stretch ∨
    (o.engageFull t now).lock.stretch = o.lock.stretch.map (fun x => { x with limit := false }) := by
  obtain ⟨-, hlock⟩ := OutPort.engageFull_lock (o := o) t now
  rw [hlock]
  split_ifs
  · exact .inl rfl
  · exact .inr rfl

end EngageFull

/-- The timing at the port e that was o, after a warm restart and the engage that may have followed it: as of `OutPort.Resumed`,
where the frame was not cut (R122, R127, R131, R138, R148, log 2). -/
structure OutPort.GoesOn (now : Word) (uncut : Prop) (o e : OutPort) : Prop where
  stopped : o.pres.pos = .stopped → o.lock.stretch = none →
    e.pres.pos = (if o.main.cfg.initSub = none then .active else .added) ∧
      e.lock.stretch = (if o.main.cfg.initSub = none then none else some { added := 0, ending := false, limit := false })
  running : o.pres.pos ≠ .stopped → o.quiet now = true → uncut →
    e.pres.pos = o.pres.pos ∧ e.pres.line = o.pres.line ∧ e.pres.pixel = o.pres.pixel ∧ e.pres.driven = o.pres.driven ∧
      e.pres.ahead = List.replicate o.pres.ahead.length o.cfg.fill ∧
      e.pres.gen =
        (if o.cfg.dither = .temporal then (if o.cfg.ditherSeed = 0 then 0xFFFF#16 else o.cfg.ditherSeed) else o.pres.gen) ∧
      (o.lock.stretch = none → e.lock.stretch = none) ∧
      ∀ x, o.lock.stretch = some x → ∃ x', e.lock.stretch = some x' ∧ x'.added = x.added ∧ x'.ending = true
  limit : ∀ x, o.pres.pos ≠ .stopped → o.lock.stretch = some x → x.limit = true → x.ending = false →
    (o.lock.state = .acquire ∨ (o.lock.state = .track ∧ o.main.silent < 3)) → e.lock.stretch = none ∧ e.pres.pos = .active

/-- A port that a restart has reached and no engage, or one that leaves its timing. -/
theorem OutPort.Resumed.goesOn {now : Word} {o r e : OutPort} (h : o.Resumed now r) (hpres : e.pres = r.pres)
    (hlock : e.lock = r.lock) (uncut : Prop) : o.GoesOn now uncut e := by
  obtain ⟨-, hstopped, hrunning, hlimit⟩ := h
  refine ⟨fun hpos hnone => ?_, fun hpos hquiet _ => ?_, fun x hpos hx hl he hs => ?_⟩ <;> rw [hpres, hlock]
  · exact (hstopped hpos hnone).2
  · obtain ⟨hr, hnone, hsome⟩ := hrunning hpos hquiet
    rw [hr]
    exact ⟨rfl, rfl, rfl, rfl, rfl, rfl, hnone, hsome⟩
  · exact (hlimit x hpos hx hl he hs).2

/-- A FULL port that the restart and then the engage have reached. -/
theorem OutPort.Restarted.goesOn_full {now : Word} {o r : OutPort} (h : o.Restarted r) (hr : o.Resumed now r)
    (t : List TableEntry) : o.GoesOn now (o.main.cfg.initSub ≠ some o.cfg.camStream ∧ o.pres.pos = .active ∧
      0 < o.pres.nextLine → o.pres.pixel < o.cfg.ht) (r.engageFull t now) := by
  obtain ⟨hmoving, hstopped, hrunning, hlimit⟩ := hr
  have hactive : r.main.active = o.main.cfg.initSub := by rw [h.records.main]; rfl
  have hstretch := OutPort.engageFull_stretch (o := r) t now
  have hnone : r.lock.stretch = none → (r.engageFull t now).lock.stretch = none := fun hn => by
    rcases hstretch with hs | hs <;> rw [hs, hn]
    rfl
  refine ⟨fun hpos hn => ?_, fun hpos hquiet huncut => ?_, fun x hpos hx hl he hs => ?_⟩
  · obtain ⟨hline, hpos', hs'⟩ := hstopped hpos hn
    refine ⟨(OutPort.engageFull_pos hline).trans hpos', ?_⟩
    rcases hstretch with hs | hs <;> rw [hs, hs']
    split_ifs <;> rfl
  · obtain ⟨hpres, hn, hsome⟩ := hrunning hpos hquiet
    have hguard : r.main.active ≠ some r.cfg.camStream → r.pres.pos = .active → 0 < r.pres.nextLine →
        r.pres.pixel < r.cfg.ht := by
      rw [hpres, hactive, h.figures.cfg]
      exact fun hsub hpos hline => huncut ⟨hsub, hpos, hline⟩
    have htiming := OutPort.engageFull_timing t now hmoving h.uncut hguard
    rw [hpres] at htiming
    obtain ⟨hpos', hline', hpixel', hdriven', hahead', hgen'⟩ := htiming
    refine ⟨hpos', hline', hpixel', hdriven', hahead', hgen', fun h => hnone (hn h), fun x hx => ?_⟩
    obtain ⟨x', hx', hadded, hending⟩ := hsome x hx
    rcases hstretch with hs | hs <;> rw [hs, hx']
    · exact ⟨_, rfl, hadded, hending⟩
    · exact ⟨_, rfl, hadded, hending⟩
  · obtain ⟨hline, hn, hpos'⟩ := hlimit x hpos hx hl he hs
    exact ⟨hnone hn, (OutPort.engageFull_pos hline).trans hpos'⟩

section Engaged

variable {now : Word} {o r : OutPort} (h : o.Restarted r) (hundue : r.Undue) (t : List TableEntry)
include h

theorem OutPort.Restarted.engage_none (hm : o.cfg.camMode = .none) : (r.engage t now).1 = r := by
  rw [OutPort.engage_none (by rw [h.figures.cfg, hm])]

include hundue

theorem OutPort.Restarted.engage_full (hm : o.cfg.camMode = .full) : (r.engage t now).1 = r.engageFull t now := by
  rw [OutPort.engage_full (by rw [h.figures.cfg, hm]), r.settle_quiet now (hundue.quiet now)]

theorem OutPort.Restarted.engage_inset (hm : o.cfg.camMode = .inset) : (r.engage t now).1 = r.engageInset t now := by
  rw [OutPort.engage_inset (by rw [h.figures.cfg, hm]), r.settle_quiet now (hundue.quiet now)]

end Engaged

section Engaged

variable {now : Word} {o r : OutPort} (h : o.Restarted r) (hr : o.Resumed now r) (t : List TableEntry)
include h

theorem OutPort.Restarted.overlay : r.overlay = o.overlay.map (fun k => Sink.fresh k.cfg) :=
  h.records.overlay.trans (Option.map_map _ _ _)

theorem OutPort.Restarted.lock_state : (o.main.cfg.initSub = none → r.lock.state = .free) ∧
    (o.main.cfg.initSub ≠ none → r.lock.state = .acquire) := by
  rw [h.lock, LockState.begun]
  exact ⟨fun hnone => by rw [hnone]; rfl, fun hsome => if_pos (Option.isSome_iff_ne_none.mpr hsome)⟩

/-- A FULL port that a restart leaves SWITCHING to the camera stream, to return to its initial value (R137, R138, R154, R161). -/
theorem OutPort.Restarted.full :
    let e := r.engageFull t now
    e.main.active = some o.cfg.camStream ∧ e.main.shadow = none ∧ e.main.cur = none ∧ e.main.queue = [] ∧
      e.overlay = o.overlay.map (fun k => Sink.fresh k.cfg) ∧
      e.cam = { state := .switching, deadline := some (o.cfg.deadline now), insetHold := false
                resume := some { sub := o.main.cfg.initSub, x := o.main.cfg.initX, y := o.main.cfg.initY } } := by
  obtain ⟨-, hactive, hshadow, -, -, -, -, hcam, -⟩ := OutPort.engageFull_spec t now r
  obtain ⟨hoverlay, -⟩ := OutPort.engageFull_lock (o := r) t now
  rw [h.figures.cfg] at hactive hcam
  have hrecord : (r.engageFull t now).main.cur = none ∧ (r.engageFull t now).main.queue = [] := by
    rw [OutPort.engageFull_main, h.records.main]
    exact Sink.fresh_directed t (some r.cfg.camStream) o.main.cfg
  rw [h.cam, h.records.main] at hcam
  exact ⟨hactive, hshadow, hrecord.1, hrecord.2, hoverlay.trans h.overlay, hcam⟩

include hr in
/-- Where its record changes to the camera stream, the lock acquires it and the frame is cut (R117, R138, R154). -/
theorem OutPort.Restarted.full_changed (hsub : o.main.cfg.initSub ≠ some o.cfg.camStream) :
    let e := r.engageFull t now
    e.lock.state = .acquire ∧ e.pres.cutDone = true ∧
      (o.pres.pos = .active → o.quiet now = true → 0 < o.pres.nextLine → o.cfg.ht ≤ o.pres.pixel →
        e.pres.pos = .blanking ∧ e.pres.pixel = o.pres.pixel - o.cfg.ht ∧ e.pres.nextLine = o.cfg.va ∧
        e.pres.driven = [] ∧ e.pres.ahead = []) := by
  obtain ⟨-, -, -, -, -, -, -, -, -, hchange⟩ := OutPort.engageFull_spec t now r
  have hactive : r.main.active ≠ some r.cfg.camStream := by rw [h.records.main, h.figures.cfg]; exact hsub
  obtain ⟨hstate, -, -, -, hcut⟩ := hchange hactive
  refine ⟨hstate, hcut hr.moving, fun hpos hquiet hline hover => ?_⟩
  obtain ⟨hpres, -⟩ := hr.running (by rw [hpos]; exact nofun) hquiet
  obtain ⟨hnext, -, hblanking⟩ := OutPort.engageFull_cut (t := t) (now := now) hactive h.uncut (by rw [hpres]; exact hpos)
    (by rw [hpres]; exact hline)
  rw [h.figures.cfg] at hnext hblanking
  rw [hpres] at hblanking
  obtain ⟨hpos', hpixel', hdriven', hahead'⟩ := hblanking hover
  exact ⟨hpos', hpixel', hnext, hdriven', hahead'⟩

/-- An INSET port that a restart leaves SWITCHING to the camera stream at the inset position (R155, R161). -/
theorem OutPort.Restarted.inset {k : Sink} (hk : o.overlay = some k) :
    let e := r.engageInset t now
    e.main = Sink.fresh o.main.cfg ∧ (∃ k', e.overlay = some k' ∧ k'.active = some o.cfg.camStream ∧ k'.shadow = none ∧
      k'.x = o.cfg.camX ∧ k'.y = o.cfg.camY ∧ k'.cur = none ∧ k'.queue = []) ∧ e.lock = r.lock ∧ e.pres = r.pres ∧
      e.cam = { state := .switching, deadline := some (o.cfg.deadline now), insetHold := true
                resume := some { sub := k.cfg.initSub, x := k.cfg.initX, y := k.cfg.initY } } := by
  have hoverlay : r.overlay = some (Sink.fresh k.cfg) := by rw [h.records.overlay, hk]; rfl
  obtain ⟨k', hk', hactive, hshadow, hx, hy, hmain, hlock, hpres, -, hcam⟩ :=
    OutPort.engageInset_spec (t := t) (now := now) hoverlay
  have hrecord : k'.cur = none ∧ k'.queue = [] := by
    rw [OutPort.engageInset_overlay t now hoverlay] at hk'
    cases hk'
    exact Sink.fresh_directed t (some r.cfg.camStream) k.cfg
  rw [h.figures.cfg] at hactive hx hy hcam
  exact ⟨hmain.trans h.records.main, ⟨k', hk', hactive, hshadow, hx, hy, hrecord.1, hrecord.2⟩, hlock, hpres, hcam⟩

end Engaged

end Sys2Proof.Machine
end

section
/-! PROOFS. A warm restart of the station, step by step (R15, R55, R60, R65, R72, R92, R160, R161, R164, R165, R174, R180). -/

namespace Sys2Proof.Machine

/-! ### Step 1: the parcel in reception ends bad -/

/-- What the bad end of the parcel in reception leaves, for the steps of a restart after it: the records may lose what they were
being given, and the service port its reservation or a message in flight (R5, R8, R15). -/
structure State.Ended (s t : State) : Prop where
  outs : ∀ p o, s.port p = .output o → ∃ o', t.port p = .output o' ∧ o.Alike o'
  others : ∀ p, (∀ o, s.port p ≠ .output o) → t.port p = s.port p
  tag : t.svc.tag = s.svc.tag
  enable : t.att.enable = s.att.enable
  late : t.att.pending &&& Cause.cameraLate.bit = s.att.pending &&& Cause.cameraLate.bit

theorem State.Ended.of_ports {s t : State} (hport : ∀ p, t.port p = s.port p) (htag : t.svc.tag = s.svc.tag)
    (henable : t.att.enable = s.att.enable)
    (hlate : t.att.pending &&& Cause.cameraLate.bit = s.att.pending &&& Cause.cameraLate.bit) : s.Ended t :=
  ⟨fun p o hp => ⟨o, (hport p).trans hp, .refl o⟩, fun p _ => hport p, htag, henable, hlate⟩

theorem State.Ended.trans {a b c : State} (h : a.Ended b) (h' : b.Ended c) : a.Ended c := by
  refine ⟨fun p o hp => ?_, fun p hp => ?_, h'.tag.trans h.tag, h'.enable.trans h.enable, h'.late.trans h.late⟩
  · obtain ⟨o1, hp1, ho1⟩ := h.outs p o hp
    obtain ⟨o2, hp2, ho2⟩ := h'.outs p o1 hp1
    exact ⟨o2, hp2, ho1.trans ho2⟩
  · exact (h'.others p (by rw [h.others p hp]; exact hp)).trans (h.others p hp)

theorem State.Ended.refl (s : State) : s.Ended s := .of_ports (fun _ => rfl) rfl rfl rfl

/-- An operation on the records of one port that keeps their allotments and silent counts. -/
theorem State.onOut_ended (s : State) (p : PortId) (role : Role) {f : Sink → Sink} (hf : ∀ k : Sink, k.Alike (f k)) :
    s.Ended (s.onOut p (fun o => (o.mapSink role f, noCause))) := by
  have hatt := s.onOut_att p (fun o => (o.mapSink role f, noCause)) (fun _ => rfl)
  refine ⟨fun q o hq => ?_, fun q hq => ?_, by rw [State.onOut_svc], by rw [hatt], by rw [hatt]⟩
  · by_cases hpq : p = q
    · subst hpq
      exact ⟨_, s.onOut_port p o _ hq, o.mapSink_alike role hf⟩
    · exact ⟨o, (s.onOut_port_ne p q _ hpq).trans hq, .refl o⟩
  · exact s.onOut_port_in p q _ hq

theorem State.finishLine_ended (l : List SinkId) (good : Bool) (s : State) : s.Ended (s.finishLine l good) := by
  induction l generalizing s with
  | nil => exact .refl s
  | cons k l ih => exact (s.onOut_ended k.port k.role (Sink.finish_alike good)).trans (ih _)

theorem State.giveResult_ended (s : State) (r : MessageResult) : s.Ended (s.giveResult r) := by
  refine .of_ports (fun p => by cases p <;> rfl) rfl rfl ?_
  change (s.att.pending ||| Cause.messageResult.bit) &&& Cause.cameraLate.bit = _
  rw [BitVec.and_or_distrib_right, show Cause.messageResult.bit &&& Cause.cameraLate.bit = 0#16 by decide, BitVec.or_zero]

theorem State.filterEnd_ended (s : State) (r : Reception) : s.Ended (s.filterEnd r false) := by
  rw [s.filterEnd_bad]
  by_cases hr : r.repeater = true
  · rw [if_pos hr]; exact .refl s
  rw [if_neg hr]
  split
  · exact s.finishLine_ended _ _
  · split_ifs
    · exact .of_ports (fun p => by cases p <;> rfl) rfl rfl rfl
    · exact .refl s
  · unfold State.returnReport
    split
    · exact .refl s
    · split
      · exact .refl s
      · exact s.giveResult_ended _
  · exact .refl s

theorem State.withLink_ended (s : State) (l : RingPort) : s.Ended { s with link := l } :=
  .of_ports (s.port_link l) rfl rfl rfl

theorem State.endParcel_ended (s : State) (r : Reception) : s.Ended (s.endParcel r false) := by
  unfold State.endParcel
  split_ifs
  · exact (s.withLink_ended _).trans (State.filterEnd_ended _ r)
  · exact (s.withLink_ended _).trans (State.filterEnd_ended _ r)

/-- The parcel in reception at a restart ends bad (R15). -/
def State.receptionEnded (s : State) : State :=
  match s.link.stage with
  | .outside => s
  | .header _ => s.toStage .outside
  | .body r => s.endParcel r false

/-- The link cleared at a restart (R15). -/
def RingPort.cleared (l : RingPort) : RingPort := { l.abort with transit := [], hdrErr := 0, payErr := 0, ovf := 0 }

theorem State.restartRing_eq (s : State) :
    s.restartRing = { s.receptionEnded with link := s.receptionEnded.link.cleared } := rfl

theorem State.receptionEnded_ended (s : State) : s.Ended s.receptionEnded := by
  unfold State.receptionEnded
  split
  · exact .refl s
  · exact s.withLink_ended _
  · exact s.endParcel_ended _

theorem State.receptionEnded_link (s : State) :
    ∃ transit, s.receptionEnded.link = { s.link with stage := .outside, transit := transit } := by
  unfold State.receptionEnded
  split
  next h => exact ⟨s.link.transit, by rw [← h]⟩
  next => exact ⟨s.link.transit, rfl⟩
  next r _ => exact ⟨_, s.endParcel_link r false⟩

theorem State.receptionEnded_rest (s : State) : s.receptionEnded.node = s.node ∧ s.receptionEnded.camera = s.camera ∧
    s.receptionEnded.view = s.view ∧ s.receptionEnded.sched = s.sched ∧ s.receptionEnded.store = s.store ∧
    s.receptionEnded.tick = s.tick := by
  unfold State.receptionEnded
  split
  · exact ⟨rfl, rfl, rfl, rfl, rfl, rfl⟩
  · exact ⟨rfl, rfl, rfl, rfl, rfl, rfl⟩
  · exact (s.endParcel_endsBad _).rest

theorem State.restartRing_ended (s : State) : s.Ended s.restartRing :=
  s.receptionEnded_ended.trans (State.withLink_ended _ _)

/-- The ring link after a restart: outside a parcel, nothing in transit, the counts 0, and a parcel in transmission ended with
EOPX (R15, R180). -/
theorem State.restartRing_link (s : State) :
    let l := s.restartRing.link
    l.transit = [] ∧ l.stage = .outside ∧ l.hdrErr = 0 ∧ l.payErr = 0 ∧ l.ovf = 0 ∧ l.state = s.link.state ∧
      l.tx = (match s.link.tx with | .between g => .between g | _ => .between 0) ∧
      l.out = (match s.link.tx with | .between _ => s.link.out | _ => .eopx) := by
  obtain ⟨transit, hlink⟩ := s.receptionEnded_link
  rw [State.restartRing_eq, hlink]
  cases htx : s.link.tx <;> simp [RingPort.cleared, RingPort.abort, RingPort.ended, htx]

/-! ### Step 2: queues, credit, send store and streams -/

theorem Stream.moveTo_restart (st : StreamState) (k : Stream) {a : StreamState} :
    ({ k.restart with state := a } : Stream).moveTo st = { k.restart with state := st } := by
  unfold Stream.moveTo
  split_ifs with h
  · rw [h]
  · rfl
  · rfl

/-- An input port after a restart: its geometry, measurement and counter kept, its streams settled with no frame and counts 0
(R81, R92). -/
def InPort.restored (demand : Bool) (q : InPort) : InPort :=
  { q with streams := q.streams.map (fun k => { k.restart with state := q.goal .run demand k }) }

theorem InPort.restart_settled {u : State} (hrun : u.node.state = .run) (q : InPort) :
    ({ q with streams := q.streams.map Stream.restart } : InPort).settled u = q.restored u.view.demand := by
  have hmove : ∀ k : Stream, k.restart.moveTo (q.goal .run u.view.demand k) =
      { k.restart with state := q.goal .run u.view.demand k } := fun k => Stream.moveTo_restart _ k
  rw [InPort.settled_full (by rw [hrun]; rfl), hrun]
  simp only [List.map_map, InPort.restored, ← hmove]
  rfl

/-- A later settling moves restored streams to the states of the new demand (R82). -/
theorem InPort.restored_settled {u : State} (hrun : u.node.state = .run) (q : InPort) (demand : Bool) :
    (q.restored demand).settled u = q.restored u.view.demand := by
  rw [InPort.settled_full (by rw [hrun]; rfl), hrun]
  simp only [InPort.restored, List.map_map, InPort.mk.injEq, true_and]
  exact List.map_congr_left fun k _ => Stream.moveTo_restart _ k

/-- The node, the queues, the credit, the send store and the pixel ports that are no output, as the state s has them after a
restart with the configuration c (R55, R92, R180). -/
structure State.Rebuilt (s : State) (c : RingCfg) (t : State) : Prop where
  node : t.node = { s.node with state := .run, waiting := none, wakeFound := false }
  sched : t.sched = { safeQ := [], normalQ := [], census := none, msgs := [], credit := c.cap, starved := false
                      yield := false, yieldTime := 0 }
  store : t.store = []
  inputs : ∀ p q, s.port p = .input q → t.port p = .input (q.restored t.view.demand)
  unused : ∀ p k, s.port p = .unused k → t.port p = .unused k

theorem State.recomputeDemand_idle {s : State} (h : s.sched.Idle) :
    s.recomputeDemand.sched = s.sched ∧ s.recomputeDemand.store = s.store := by
  unfold State.recomputeDemand
  split_ifs
  · exact ⟨rfl, rfl⟩
  · exact State.settleStreams_idle (s := { s with view := { s.view with demand := s.demandOf } }) h

theorem State.recomputeDemand_port_kept {s : State} {p : PortId} (h : ∀ q, s.port p ≠ .input q) :
    s.recomputeDemand.port p = s.port p := by
  have hview : ({ s with view := { s.view with demand := s.demandOf } } : State).port p = s.port p := by cases p <;> rfl
  unfold State.recomputeDemand
  split_ifs
  · rfl
  · rw [State.settleStreams_port_out _ p (by rw [hview]; exact h), hview]

namespace State.Rebuilt

variable {s t : State} {c : RingCfg} (h : s.Rebuilt c t)
include h

theorem idle : t.sched.Idle := by rw [h.sched]; exact ⟨rfl, rfl, rfl⟩

theorem state : t.node.state = .run := by rw [h.node]

theorem onOuts (f : OutPort → OutPort × Half) : s.Rebuilt c (t.onOuts f) where
  node := by rw [State.onOuts_node, h.node]
  sched := by rw [State.onOuts_sched, h.sched]
  store := by rw [State.onOuts_store, h.store]
  inputs p q hp := by
    rw [State.onOuts_view, State.onOuts_port_in _ p _ (by rw [h.inputs p q hp]; exact Port.input_ne_output _), h.inputs p q hp]
  unused p k hp := by
    rw [State.onOuts_port_in _ p _ (by rw [h.unused p k hp]; exact fun _ => nofun), h.unused p k hp]

theorem recomputeDemand : s.Rebuilt c t.recomputeDemand where
  node := by rw [State.recomputeDemand_node, h.node]
  sched := by rw [(State.recomputeDemand_idle h.idle).1, h.sched]
  store := by rw [(State.recomputeDemand_idle h.idle).2, h.store]
  inputs p q hp := by
    obtain ⟨hsame, hchanged⟩ := State.recomputeDemand_port_in (h.inputs p q hp)
    rw [State.recomputeDemand_demand]
    by_cases hd : t.demandOf = t.view.demand
    · rw [hsame hd, hd]
    · exact (hchanged hd).1.trans (congrArg Port.input (InPort.restored_settled
        (u := { t with view := { t.view with demand := t.demandOf } }) h.state q _))
  unused p k hp := by
    rw [State.recomputeDemand_port_kept (by rw [h.unused p k hp]; exact fun _ => nofun), h.unused p k hp]

/-- Steps that leave the node, the queues, the ports and the published demand. -/
theorem of_same {t' : State} (hnode : t'.node = t.node) (hsched : t'.sched = t.sched) (hstore : t'.store = t.store)
    (hport : ∀ p, t'.port p = t.port p) (hdemand : t'.view.demand = t.view.demand) : s.Rebuilt c t' where
  node := hnode.trans h.node
  sched := hsched.trans h.sched
  store := hstore.trans h.store
  inputs p q hp := by rw [hport, hdemand, h.inputs p q hp]
  unused p k hp := by rw [hport, h.unused p k hp]

end State.Rebuilt

/-- The second step of a restart before its streams are settled (R55, R92). -/
def State.sourcesCleared (s : State) : State :=
  { s with
    node := { s.node with state := .run, waiting := none, wakeFound := false }
    sched := { safeQ := [], normalQ := [], census := none, msgs := [], credit := s.cap, starved := false
               yield := false, yieldTime := 0 }
    store := []
    portA := s.portA.restartStreams
    portB := s.portB.restartStreams }

theorem State.sourcesCleared_port (s : State) (p : PortId) : s.sourcesCleared.port p = (s.port p).restartStreams := by
  cases p <;> rfl

theorem State.restartSources_rebuilt {s u : State} {c : RingCfg} (hc : s.node.ring = some c) (hnode : u.node = s.node)
    (hport : ∀ p, (∀ o, s.port p ≠ .output o) → u.port p = s.port p) : s.Rebuilt c u.restartSources := by
  have hcap : u.cap = c.cap := by rw [State.cap, hnode, hc]; rfl
  obtain ⟨hsched, hstore⟩ := State.settleStreams_idle (s := u.sourcesCleared) ⟨rfl, rfl, rfl⟩
  rw [show u.restartSources = u.sourcesCleared.settleStreams from rfl]
  refine ⟨?_, ?_, hstore, fun p q hp => ?_, fun p k hp => ?_⟩
  · rw [State.settleStreams_node, ← hnode]; rfl
  · rw [hsched, ← hcap]; rfl
  · have hu : u.sourcesCleared.port p = .input { q with streams := q.streams.map Stream.restart } := by
      rw [State.sourcesCleared_port, hport p (by rw [hp]; exact Port.input_ne_output _), hp]; rfl
    rw [State.settleStreams_port _ p _ hu, State.settleStreams_view, InPort.restart_settled rfl]
  · have hu : u.sourcesCleared.port p = .unused k := by
      rw [State.sourcesCleared_port, hport p (by rw [hp]; exact fun _ => nofun), hp]; rfl
    rw [State.settleStreams_port_out _ p (by rw [hu]; exact fun _ => nofun), hu]

theorem State.restartSources_port_out {u : State} {p : PortId} {o : OutPort} (hp : u.port p = .output o) :
    u.restartSources.port p = .output o := by
  have hu : u.sourcesCleared.port p = .output o := by rw [State.sourcesCleared_port, hp]; rfl
  rw [show u.restartSources = u.sourcesCleared.settleStreams from rfl,
    State.settleStreams_port_out _ p (by rw [hu]; exact fun _ => nofun), hu]

/-! ### Step 3: the output ports -/

theorem State.mem_outs (s : State) (o : OutPort) : o ∈ s.outs ↔ ∃ p, s.port p = .output o := by
  have hport : ∀ q : Port, o ∈ q.outs ↔ q = .output o := fun q => by cases q <;> simp [Port.outs, eq_comm]
  rw [State.outs, List.mem_append, hport, hport]
  exact ⟨fun h => h.elim (fun h => ⟨.a, h⟩) (fun h => ⟨.b, h⟩), fun ⟨p, hp⟩ => by cases p; exacts [.inl hp, .inr hp]⟩

theorem State.restartOuts_port {u : State} {p : PortId} {o : OutPort} (hp : u.port p = .output o) :
    u.restartOuts.port p = .output o.settle.1.restart.1 :=
  State.onOuts_port u p o _ hp

theorem State.restartOuts_undue (u : State) : ∀ o ∈ u.restartOuts.outs, o.Undue := by
  intro o ho
  obtain ⟨p, hp⟩ := (State.mem_outs _ o).mp ho
  cases hu : u.port p with
  | output a =>
    rw [State.restartOuts_port hu] at hp
    cases hp
    exact a.settle.1.restart_undue.1
  | input q =>
    have hkept := u.onOuts_port_in p (OutPort.dueFirst OutPort.restart) (by rw [hu]; exact Port.input_ne_output _)
    exact nomatch hp.symm.trans (hkept.trans hu)
  | unused k =>
    have hkept := u.onOuts_port_in p (OutPort.dueFirst OutPort.restart) (by rw [hu]; exact fun _ => nofun)
    exact nomatch hp.symm.trans (hkept.trans hu)

/-- The enables stay, and operations that do not raise CAMERA_LATE leave it as it is. -/
theorem State.onOuts_late (s : State) (f : OutPort → OutPort × Half) : (s.onOuts f).att.enable = s.att.enable ∧
    ((∀ p o, s.port p = .output o → NoLate (f o).2) →
      (s.onOuts f).att.pending &&& Cause.cameraLate.bit = s.att.pending &&& Cause.cameraLate.bit) := by
  have honOut : ∀ (u : State) (p : PortId), (u.onOut p f).att.enable = u.att.enable ∧
      ((∀ o, u.port p = .output o → NoLate (f o).2) →
        (u.onOut p f).att.pending &&& Cause.cameraLate.bit = u.att.pending &&& Cause.cameraLate.bit) := fun u p => by
    unfold State.onOut
    split
    next o ho =>
      refine ⟨by rw [State.raise_enable_set, State.setPort_att], fun h => ?_⟩
      have hlate : (f o).2 &&& Cause.cameraLate.bit = 0#16 := h o ho
      rw [State.raise_pending_set, State.setPort_att, BitVec.and_or_distrib_right, hlate, BitVec.or_zero]
    next => exact ⟨rfl, fun _ => rfl⟩
    next => exact ⟨rfl, fun _ => rfl⟩
  have hb : (s.onOut .a f).port .b = s.port .b := s.onOut_port_ne .a .b f (by decide)
  obtain ⟨hea, hla⟩ := honOut s .a
  obtain ⟨heb, hlb⟩ := honOut (s.onOut .a f) .b
  exact ⟨heb.trans hea, fun h => (hlb fun o ho => h .b o (hb ▸ ho)).trans (hla (h .a))⟩

theorem State.restartOuts_late {u : State} (h : ∀ p o, u.port p = .output o → o.quiet u.tick = true) :
    u.restartOuts.att.pending &&& Cause.cameraLate.bit = u.att.pending &&& Cause.cameraLate.bit := by
  refine (u.onOuts_late _).2 fun p o hp => ?_
  rw [OutPort.dueFirst_quiet u.tick _ _ (h p o hp)]
  exact o.restart_undue.2

/-! ### Step 4: the Station View -/

/-- The Station View begun anew, its published demand not yet judged (R59, R60, R61, R65). -/
def State.viewRestarted (s : State) : State :=
  { s with view :=
      StationView.start (seedFor ((s.node.ring.map RingCfg.seed).getD 0) s.node.station) s.view.nonce s.view.demand }

theorem State.demandOf_recomputeDemand (s : State) : s.recomputeDemand.demandOf = s.demandOf := by
  have hport : ∀ p, (s.recomputeDemand.port p).outAnd OutPort.engaged = (s.port p).outAnd OutPort.engaged :=
    fun p => s.recomputeDemand_outAnd p _
  have hown : s.recomputeDemand.ownDemand = s.ownDemand := congrArg₂ (· || ·) (hport .a) (hport .b)
  rw [State.demandOf, hown, State.recomputeDemand_view, State.demandOf]

/-- The reports of the removed entries change nothing on ports without a source, and the demand is judged once (R71, R72). -/
theorem State.tableReports_undue (l : List StationNo) {u : State} (htable : u.view.table = [])
    (hu : ∀ o ∈ u.outs, o.Undue) : (l.foldl State.tableReport u).recomputeDemand = u.recomputeDemand := by
  induction l generalizing u with
  | nil => rfl
  | cons st l ih =>
    have hreport : u.tableReport st = u.recomputeDemand := by
      rw [State.tableReport, htable, State.onOuts_id _ _ fun p o hp => (hu o ((u.mem_outs o).mpr ⟨p, hp⟩)).tableReport st]
    rw [List.foldl_cons, hreport, ih (by rw [State.recomputeDemand_view]; exact htable)
      (by rw [State.recomputeDemand_outs]; exact hu)]
    exact State.recomputeDemand_same (by rw [State.demandOf_recomputeDemand, State.recomputeDemand_demand])

theorem State.restartView_eq {s : State} (h : ∀ o ∈ s.outs, o.Undue) : s.restartView = s.viewRestarted.recomputeDemand :=
  State.tableReports_undue s.tableStations (u := s.viewRestarted) rfl h

/-! ### Step 6: Camera Priority -/

/-- Camera Priority with the level of the REVERSE pin as the debounced one (R161). -/
def State.cameraRestarted (s : State) : State :=
  { s with camera := { debounced := s.pins.reverse, stability := 0, ringLatch := false, localLatch := false } }

theorem State.restartCamera_eq (s : State) : s.restartCamera =
    if s.cameraRestarted.camera.engaged then s.cameraRestarted.judgeLate.engage else s.cameraRestarted.judgeLate := rfl

theorem State.restartCamera_released {s : State} (h : s.pins.reverse = false) :
    s.restartCamera = { s.cameraRestarted with
      att := { s.att with pending := s.att.pending &&& ~~~Cause.cameraLate.bit } } := by
  have hoff : s.cameraRestarted.camera.engaged = false := by simp [State.cameraRestarted, CameraControl.engaged, h]
  rw [State.restartCamera_eq, hoff, State.judgeLate, hoff]
  rfl

/-- While REVERSE is high a station that runs engages (R161). -/
theorem State.restartCamera_engaged {s : State} (h : s.pins.reverse = true) (hrun : s.node.state = .run)
    (hwait : s.node.waiting = none) :
    s.restartCamera = if s.hasCamera then s.cameraRestarted.engagedFrom else s.cameraRestarted := by
  have hon : s.cameraRestarted.camera.engaged = true := by simp [State.cameraRestarted, CameraControl.engaged, h]
  have hlate : s.cameraRestarted.judgeLate = s.cameraRestarted := by rw [State.judgeLate, hon]; rfl
  have hentry : s.cameraRestarted.takeEntry = s.cameraRestarted :=
    State.takeEntry_none _ (State.entryDue_false (.inr (.inl hwait)))
  have hwake : s.cameraRestarted.wakeNode = s.cameraRestarted :=
    State.wakeNode_awake (by rw [show s.cameraRestarted.node.state = .run from hrun]; exact nofun)
  have hdrop : s.cameraRestarted.dropStandby = s.cameraRestarted :=
    if_neg (by rw [show s.cameraRestarted.node.waiting = none from hwait]; exact nofun)
  rw [State.restartCamera_eq, if_pos hon, hlate, State.engage, hentry, hwake, hdrop]
  rfl

/-! ### The steps together -/

/-- With an empty station table the published demand is the own one (R71). -/
theorem State.recomputeDemand_own {u : State} (h : u.view.table = []) :
    u.recomputeDemand.view = { u.view with demand := u.recomputeDemand.ownDemand } := by
  have hdemand : u.demandOf = u.recomputeDemand.ownDemand := by
    rw [← State.demandOf_recomputeDemand, State.demandOf, State.recomputeDemand_view, h, List.any_nil, Bool.or_false]
  rw [State.recomputeDemand_view, hdemand]

theorem OutPort.restart_cfg (o : OutPort) : o.restart.1.cfg = o.cfg := by
  by_cases h : o.pres.pos = .stopped
  · rw [OutPort.restart_stopped h]
    exact (o.primed.frameStart_frame []).1
  · rw [OutPort.restart_running h]
    rfl

/-- The state y is s after a restart with the configuration c, where f is what the engage that may follow does to a restarted
output port (R180). -/
structure State.RestartedBy (s : State) (c : RingCfg) (f : OutPort → OutPort) (y : State) : Prop where
  rebuilt : s.Rebuilt c y
  outs : ∀ p o, s.port p = .output o → ∃ r, y.port p = .output (f r) ∧ r.cfg = o.cfg ∧ r.Undue ∧
    (1 ≤ o.cfg.t → o.Restarted r ∧ o.Resumed s.tick r)
  link : y.link = s.restartRing.link
  view : y.view =
    { StationView.start (seedFor c.seed s.node.station) s.view.nonce s.view.demand with demand := y.ownDemand }
  svc : y.svc.outbox = [] ∧ y.svc.results = [] ∧ y.svc.inbox = [] ∧ y.svc.tag = s.svc.tag
  pins : y.pins = s.pins
  tick : y.tick = s.tick
  enable : y.att.enable = s.att.enable

/-- The first five steps (R15, R55, R65, R92, R112, R131, R148, R149, R174). -/
def State.restartedBlocks (s : State) : State := s.restartRing.restartSources.restartOuts.restartView.restartService

theorem State.warmRestart_eq (s : State) : s.warmRestart = s.restartedBlocks.restartCamera := rfl

section Blocks

variable (s : State)

theorem State.restartedBlocks_port_out {p : PortId} {o : OutPort} (hp : s.port p = .output o) :
    ∃ a, o.Alike a ∧ s.restartRing.restartSources.restartOuts.port p = .output a.settle.1.restart.1 := by
  obtain ⟨a, ha, halike⟩ := s.restartRing_ended.outs p o hp
  exact ⟨a, halike, State.restartOuts_port (State.restartSources_port_out ha)⟩

section Configured

variable {s} {c : RingCfg} (hc : s.node.ring = some c)
include hc

theorem State.restartedBlocks_sources : s.Rebuilt c s.restartRing.restartSources :=
  State.restartSources_rebuilt hc s.receptionEnded_rest.1 s.restartRing_ended.others

theorem State.restartedBlocks_quiet (h : ∀ p o, s.port p = .output o → o.quiet s.tick = true) (p : PortId) (o : OutPort)
    (hp : s.restartRing.restartSources.port p = .output o) : o.quiet s.tick = true := by
  have hrebuilt := State.restartedBlocks_sources hc
  cases hs : s.port p with
  | output a =>
    obtain ⟨a', ha', halike⟩ := s.restartRing_ended.outs p a hs
    rw [State.restartSources_port_out ha'] at hp
    cases hp
    rw [halike.quiet, h p a hs]
  | input q => rw [hrebuilt.inputs p q hs] at hp; exact nomatch hp
  | unused k => rw [hrebuilt.unused p k hs] at hp; exact nomatch hp

/-- Of the pending causes the steps leave CAMERA_LATE alone, and with nothing due on a port as it was (R174). -/
theorem State.restartedBlocks_pending :
    s.restartedBlocks.att.pending &&& Cause.cameraLate.bit = s.restartedBlocks.att.pending ∧
      ((∀ p o, s.port p = .output o → o.quiet s.tick = true) →
        s.restartedBlocks.att.pending = s.att.pending &&& Cause.cameraLate.bit) := by
  have hatt : s.restartedBlocks.att.pending =
      s.restartRing.restartSources.restartOuts.att.pending &&& Cause.cameraLate.bit := by
    rw [State.restartedBlocks, State.restartView_eq (State.restartOuts_undue _)]
    exact congrArg (fun a : AttentionSet => a.pending &&& Cause.cameraLate.bit) (State.recomputeDemand_att _)
  have htick : s.restartRing.restartSources.tick = s.tick := by simp
  refine ⟨?_, fun h => ?_⟩
  · rw [hatt, BitVec.and_assoc, BitVec.and_self]
  · rw [hatt, State.restartOuts_late fun p o hp => htick ▸ State.restartedBlocks_quiet hc h p o hp, State.restartSources_att,
      s.restartRing_ended.late]

theorem State.restartedBlocks_by : s.RestartedBy c id s.restartedBlocks := by
  have hended := s.restartRing_ended
  have hrebuilt : s.Rebuilt c s.restartRing.restartSources.restartOuts := (State.restartedBlocks_sources hc).onOuts _
  have hundue := s.restartRing.restartSources.restartOuts_undue
  have hport := fun p o => s.restartedBlocks_port_out (p := p) (o := o)
  have hrest : s.restartRing.restartSources.restartOuts.svc.tag = s.svc.tag ∧
      s.restartRing.restartSources.restartOuts.att.enable = s.att.enable ∧
      s.restartRing.restartSources.restartOuts.link = s.restartRing.link ∧
      s.restartRing.restartSources.restartOuts.pins = s.pins ∧ s.restartRing.restartSources.restartOuts.tick = s.tick ∧
      s.restartRing.restartSources.restartOuts.view = s.view := by
    refine ⟨by simp [hended.tag], ?_, by simp, by simp, by simp, ?_⟩
    · rw [State.restartOuts, (State.onOuts_late _ _).1, State.restartSources_att, hended.enable]
    · obtain ⟨-, -, hview, -⟩ := s.receptionEnded_rest
      rw [State.restartOuts_view, State.restartSources_view]
      exact hview
  obtain ⟨htag, henable, hlink, hpins, htick, hview⟩ := hrest
  rw [State.restartedBlocks, State.restartView_eq hundue]
  generalize s.restartRing.restartSources.restartOuts = w at *
  have hviewed : w.viewRestarted.view =
      StationView.start (seedFor c.seed s.node.station) s.view.nonce s.view.demand := by
    rw [State.viewRestarted, hrebuilt.node, hc, hview]; rfl
  have hrebuilt' : s.Rebuilt c w.viewRestarted := hrebuilt.of_same rfl rfl rfl (fun p => by cases p <;> rfl) rfl
  have hview' := State.recomputeDemand_own (u := w.viewRestarted) rfl
  rw [hviewed] at hview'
  have hservice : ∀ u : State, ∀ p, u.restartService.port p = u.port p := fun u p => by cases p <;> rfl
  refine ⟨hrebuilt'.recomputeDemand.of_same rfl rfl rfl (hservice _) rfl, fun p o hp => ?_, ?_, hview', ⟨rfl, rfl, rfl, ?_⟩,
    ?_, ?_, ?_⟩
  · obtain ⟨a, halike, ha⟩ := hport p o hp
    have hw : w.viewRestarted.port p = .output a.settle.1.restart.1 := by cases p <;> exact ha
    refine ⟨a.settle.1.restart.1, ?_, ?_, a.settle.1.restart_undue.1, fun ht => ?_⟩
    · rw [hservice, State.recomputeDemand_port_out _ p _ hw]; rfl
    · rw [OutPort.restart_cfg, a.settle_settles.cfg, halike.cfg]
    · have ht' : 1 ≤ a.cfg.t := halike.cfg ▸ ht
      exact ⟨halike.restarted (OutPort.settle_restarted ht'), halike.resumed (OutPort.settle_resumed s.tick ht')⟩
  · exact (State.recomputeDemand_link _).trans hlink
  · exact (congrArg Service.tag (State.recomputeDemand_svc _)).trans htag
  · exact (State.recomputeDemand_pins _).trans hpins
  · exact (State.recomputeDemand_tick _).trans htick
  · exact (congrArg AttentionSet.enable (State.recomputeDemand_att _)).trans henable

end Configured

end Blocks

/-! ### The engage that may follow -/

section Camera

variable {s y : State} {c : RingCfg} (h : s.RestartedBy c id y)
include h

theorem State.RestartedBy.hasCamera : y.hasCamera = s.hasCamera := by
  have hport : ∀ p, (y.port p).outAnd OutPort.hasCamera = (s.port p).outAnd OutPort.hasCamera := fun p => by
    cases hp : s.port p with
    | output o =>
      obtain ⟨r, hr, hcfg, -⟩ := h.outs p o hp
      rw [hr]
      exact congrArg (fun c : OutCfg => c.camMode != .none) hcfg
    | input q => rw [h.rebuilt.inputs p q hp]; rfl
    | unused k => rw [h.rebuilt.unused p k hp]
  exact congrArg₂ (· || ·) (hport .a) (hport .b)

theorem State.RestartedBy.undue {p : PortId} {r : OutPort} (hp : y.port p = .output r) : r.Undue := by
  cases hs : s.port p with
  | output o =>
    obtain ⟨r', hr', -, hundue, -⟩ := h.outs p o hs
    rw [hr'] at hp
    cases hp
    exact hundue
  | input q => rw [h.rebuilt.inputs p q hs] at hp; exact nomatch hp
  | unused k => rw [h.rebuilt.unused p k hs] at hp; exact nomatch hp

theorem State.RestartedBy.waiting : y.node.waiting = none := by rw [h.rebuilt.node]

theorem State.RestartedBy.released (hr : s.pins.reverse = false) : s.RestartedBy c id y.restartCamera := by
  have hz := State.restartCamera_released (s := y) (h.pins ▸ hr)
  have hport : ∀ p, y.restartCamera.port p = y.port p := fun p => by rw [hz]; cases p <;> rfl
  refine ⟨h.rebuilt.of_same (by rw [hz]; rfl) (by rw [hz]; rfl) (by rw [hz]; rfl) hport (by rw [hz]; rfl), fun p o hp => ?_,
    (y.restartCamera_link h.waiting).trans h.link, ?_, by rw [State.restartCamera_svc]; exact h.svc,
    (y.restartCamera_pins).trans h.pins, (y.restartCamera_tick).trans h.tick, by rw [hz]; exact h.enable⟩
  · rw [hport p]; exact h.outs p o hp
  · rw [hz]; exact h.view

/-- What the engage of a restart does: the ports engaged, the demand following, CAMERA_CHANGE raised (R152, R159, R161). -/
theorem State.RestartedBy.engaged (hr : s.pins.reverse = true) :
    s.RestartedBy c (fun r => (r.engage [] s.tick).1) y.restartCamera ∧
      y.restartCamera.att.pending = y.att.pending ||| (if s.hasCamera then 0x0010#16 else 0) := by
  have hz := State.restartCamera_engaged (h.pins ▸ hr) h.rebuilt.state h.waiting
  have hport : ∀ p, y.cameraRestarted.port p = y.port p := fun p => by cases p <;> rfl
  have htable : y.cameraRestarted.view.table = [] := by rw [show y.cameraRestarted.view = y.view from rfl, h.view]; rfl
  have htick : y.cameraRestarted.tick = s.tick := h.tick
  have hlink := (y.restartCamera_link h.waiting).trans h.link
  have hsvc := h.svc
  rw [← y.restartCamera_svc] at hsvc
  have hpins := y.restartCamera_pins.trans h.pins
  have htick' := y.restartCamera_tick.trans h.tick
  have hview := h.view
  rw [h.hasCamera] at hz
  by_cases hcam : s.hasCamera = true
  · rw [if_pos hcam] at hz ⊢
    have hengaged : y.restartCamera =
        (y.cameraRestarted.onOuts (OutPort.engage [] s.tick)).recomputeDemand.raise Cause.cameraChange.bit := by
      rw [hz, State.engagedFrom, htable, htick]
    have hrebuilt : s.Rebuilt c (y.cameraRestarted.onOuts (OutPort.engage [] s.tick)).recomputeDemand :=
      ((h.rebuilt.of_same (t' := y.cameraRestarted) rfl rfl rfl hport rfl).onOuts _).recomputeDemand
    have hatt : (y.cameraRestarted.onOuts (OutPort.engage [] s.tick)).att = y.att :=
      State.onOuts_att_of fun p o hp => (h.undue ((hport p).symm.trans hp)).engage_noCause _ _
    have hview' := State.recomputeDemand_own (u := y.cameraRestarted.onOuts (OutPort.engage [] s.tick))
      (by rw [State.onOuts_view]; exact htable)
    rw [State.onOuts_view, show y.cameraRestarted.view = y.view from rfl] at hview'
    refine ⟨⟨hengaged ▸ hrebuilt.of_same rfl rfl rfl (fun p => State.port_raise _ _ p) rfl, fun p o hp => ?_, hlink, ?_, hsvc,
      hpins, htick', ?_⟩, ?_⟩
    · obtain ⟨r, hr, hrest⟩ := h.outs p o hp
      refine ⟨r, ?_, hrest⟩
      rw [hengaged, State.port_raise]
      exact State.recomputeDemand_port_out _ p _ (State.onOuts_port _ p r _ ((hport p).trans hr))
    · rw [hengaged]
      exact hview'.trans (by rw [hview]; rfl)
    · rw [hengaged, State.raise_enable_set, State.recomputeDemand_att, hatt, h.enable]
    · rw [hengaged, State.raise_pending_set, State.recomputeDemand_att, hatt]
      rfl
  · rw [if_neg hcam] at hz ⊢
    refine ⟨⟨hz ▸ h.rebuilt.of_same rfl rfl rfl hport rfl, fun p o hp => ?_, hlink, hz ▸ hview, hsvc, hpins, htick',
      hz ▸ h.enable⟩, ?_⟩
    · obtain ⟨r, hr, hcfg, hrest⟩ := h.outs p o hp
      have hmode : o.cfg.camMode = .none := by
        by_contra hmode
        exact hcam ((State.hasCamera_iff s).mpr ⟨p, o, hp, hmode⟩)
      refine ⟨r, ?_, hcfg, hrest⟩
      rw [hz, hport, hr, OutPort.engage_none (by rw [hcfg, hmode])]
      rfl
    · rw [hz]
      exact (BitVec.or_zero).symm

end Camera

/-! ### The warm restart -/

/-- What becomes of a restarted output port: while REVERSE is high it is engaged (R161). -/
def OutPort.reversed (reverse : Bool) (now : Word) (r : OutPort) : OutPort :=
  if reverse then (r.engage [] now).1 else r

section Warm

variable {s : State} {c : RingCfg} (hc : s.node.ring = some c)
include hc

theorem State.warmRestart_by : s.RestartedBy c (OutPort.reversed s.pins.reverse s.tick) s.warmRestart := by
  have h := State.restartedBlocks_by hc
  rw [State.warmRestart_eq]
  cases hr : s.pins.reverse with
  | false => exact h.released hr
  | true => exact (h.engaged hr).1

/-- With REVERSE low nothing is pending after a restart (R160, R174). -/
theorem State.warmRestart_released (hr : s.pins.reverse = false) : s.warmRestart.att.pending = 0 := by
  obtain ⟨hlate, -⟩ := State.restartedBlocks_pending hc
  have hpins : s.restartedBlocks.pins = s.pins := (State.restartedBlocks_by hc).pins
  rw [State.warmRestart_eq, State.restartCamera_released (hpins ▸ hr)]
  change s.restartedBlocks.att.pending &&& ~~~Cause.cameraLate.bit = 0#16
  rw [← hlate, BitVec.and_assoc, show Cause.cameraLate.bit &&& ~~~Cause.cameraLate.bit = 0#16 by decide, BitVec.and_zero]

/-- With REVERSE high and nothing due on the ports, CAMERA_LATE is kept and the engage raises CAMERA_CHANGE (R160, R161, R174). -/
theorem State.warmRestart_engaged (hr : s.pins.reverse = true)
    (hquiet : ∀ p o, s.port p = .output o → o.quiet s.tick = true) :
    s.warmRestart.att.pending = (s.att.pending &&& 0x0001#16) ||| (if s.hasCamera then 0x0010#16 else 0) := by
  obtain ⟨-, hkept⟩ := State.restartedBlocks_pending hc
  obtain ⟨-, hpending⟩ := (State.restartedBlocks_by hc).engaged hr
  rw [State.warmRestart_eq, hpending, hkept hquiet]
  rfl

end Warm

theorem State.warmRestart_camera (s : State) : s.warmRestart.camera =
    { debounced := s.pins.reverse, stability := 0, ringLatch := false, localLatch := false } := by
  have hcamera : ∀ u : State, u.restartCamera.camera = u.cameraRestarted.camera := fun u => by
    rw [State.restartCamera_eq]; split_ifs <;> simp
  have hpins : s.restartedBlocks.pins = s.pins := by simp [State.restartedBlocks]
  rw [State.warmRestart_eq, hcamera, State.cameraRestarted, hpins]

/-! ### The port that a restart and the REVERSE pin leave -/

section Reversed

variable {reverse : Bool} {now : Word} {o r : OutPort} (h : o.Restarted r) (hr : o.Resumed now r) (hundue : r.Undue)
include h

theorem OutPort.Restarted.reversed_none (hoff : reverse = false ∨ o.cfg.camMode = .none) : r.reversed reverse now = r := by
  unfold OutPort.reversed
  split_ifs with hon
  · exact h.engage_none [] (hoff.resolve_left (by rw [hon]; exact nofun))
  · rfl

include hundue

theorem OutPort.Restarted.reversed_full (hon : reverse = true) (hm : o.cfg.camMode = .full) :
    r.reversed reverse now = r.engageFull [] now := by
  rw [OutPort.reversed, if_pos hon, h.engage_full hundue [] hm]

theorem OutPort.Restarted.reversed_inset (hon : reverse = true) (hm : o.cfg.camMode = .inset) :
    r.reversed reverse now = r.engageInset [] now := by
  rw [OutPort.reversed, if_pos hon, h.engage_inset hundue [] hm]

include hr

/-- The figures and the timing, whatever the camera mode (R131, R148, R149). -/
theorem OutPort.Restarted.reversed_rest : (r.reversed reverse now).Figures o.cfg o.lock.acc ∧
    o.GoesOn now (reverse = true ∧ o.cfg.camMode = .full ∧ o.main.cfg.initSub ≠ some o.cfg.camStream ∧
      o.pres.pos = .active ∧ 0 < o.pres.nextLine → o.pres.pixel < o.cfg.ht) (r.reversed reverse now) := by
  cases reverse with
  | false => exact ⟨h.figures, hr.goesOn rfl rfl _⟩
  | true =>
    cases hm : o.cfg.camMode with
    | none =>
      rw [h.reversed_none (.inr hm)]
      exact ⟨h.figures, hr.goesOn rfl rfl _⟩
    | full =>
      rw [h.reversed_full hundue rfl hm]
      obtain ⟨hstopped, hrunning, hlimit⟩ := h.goesOn_full hr []
      exact ⟨h.figures.engageFull [] now, hstopped, fun hpos hquiet huncut =>
        hrunning hpos hquiet fun hguard => huncut ⟨rfl, rfl, hguard⟩, hlimit⟩
    | inset =>
      rw [h.reversed_inset hundue rfl hm]
      obtain ⟨hcfg, hlock, hpres⟩ := OutPort.engageInset_frame (o := r) [] now
      exact ⟨h.figures.of_same hcfg hlock hpres, hr.goesOn hpres hlock _⟩

end Reversed

theorem exec_restart {s : State} (hrun : s.running) {args : List Byte} (hlen : args.length ≤ 255) :
    exec (.restart args) s = .next (s.restartRequest args) :=
  live_request hrun hlen (fun s => s.restartRequest args)

/-- Settles O56: the warm restart of the request RESTART, block by block, with its refusals. -/
theorem restartRestarts : Obligations.RestartRestarts := by
  refine ⟨fun s hrun => ⟨fun hfull args hlen hargs => ?refused, fun hstate args hlen => ?unready⟩, fun s c hrun hfull hc => ?taken⟩
  case refused => rw [exec_restart hrun hlen, State.restartRequest, State.serve_refused hfull (by simpa using hargs)]
  case unready =>
    rw [exec_restart hrun hlen, State.restartRequest, State.serve_unready (NodeState.full_eq_false hstate)]
  case taken =>
    have hexec : exec (.restart []) s = .next (s.warmRestart.respond .done []) := by
      rw [exec_restart hrun (Nat.zero_le _), State.restartRequest, 
        State.serve_taken hfull (ok := ([] : List Byte).isEmpty) rfl]
    have hby := State.warmRestart_by hc
    have hcamera := s.warmRestart_camera
    have hreleased := State.warmRestart_released hc
    have hengaged := State.warmRestart_engaged hc
    obtain ⟨⟨hnode, hsched, hstore, hinputs, hunused⟩, houts, hlink, hview, ⟨houtbox, hresults, hinbox, htag⟩, -, htick,
      henable⟩ := hby
    obtain ⟨htransit, hstage, hhdr, hpay, hovf, hlstate, htx, hout⟩ := s.restartRing_link
    rw [← hlink] at htransit hstage hhdr hpay hovf hlstate htx hout
    refine ⟨_, hexec, ?_⟩
    generalize s.warmRestart = z at *
    have hport : ∀ p, (z.respond .done []).port p = z.port p := fun p => by cases p <;> rfl
    have hfields : z.view.ring = .forming ∧ z.view.outstanding = false ∧ z.view.missed = 0 ∧ z.view.table = [] ∧
        z.view.nonce = some (advance (seedFor c.seed s.node.station)) ∧ z.view.retired = s.view.nonce ∧
        z.view.retiredSends = 0 ∧ (∃ n, z.view.timer = some n ∧ 1 ≤ n ∧ n ≤ 64) ∧ z.view.mutePending = false ∧
        z.view.demand = z.ownDemand := by
      rw [hview]
      exact ⟨rfl, rfl, rfl, rfl, rfl, rfl, rfl, ⟨_, rfl, firstPeriod_mem _⟩, rfl, rfl⟩
    obtain ⟨hring, houtstanding, hmissed, htable, hnonce, hretired, hsends, htimer, hmute, hdemand⟩ := hfields
    refine ⟨hnode, hsched, hstore, htransit, hstage, hhdr, hpay, hovf, hlstate, htx, hout, hring, houtstanding, hmissed, htable,
      hnonce, hretired, hsends, htimer, hmute, hdemand, houtbox, hresults, hinbox, htag, rfl, htick, henable, hcamera,
      hreleased, hengaged, fun p => ⟨fun k hp => (hport p).trans (hunused p k hp), fun q hp => ?input,
        fun o hp ht => ?output⟩⟩
    case input =>
      refine (hport p).trans ((hinputs p q hp).trans ?_)
      simp only [InPort.restored, InPort.goal]
      rfl
    case output =>
      obtain ⟨r, hzp, -, hundue, hrest⟩ := houts p o hp
      obtain ⟨h, hr⟩ := hrest ht
      have hdemanded : (r.reversed s.pins.reverse s.tick).engaged = true → z.view.demand = true :=
        fun he => hdemand.trans (State.ownDemand_of_port z p _ hzp he)
      obtain ⟨hfigures, hstopped, hrunning, hlimit⟩ := h.reversed_rest (reverse := s.pins.reverse) hr hundue
      obtain ⟨hcfg, hacc, hinc, hinteg, hlimited, hlocked, ⟨hinWin, houtWin, hhold⟩, hlast, hblank, ⟨hfill, hstop⟩,
        ⟨hrepeated, hunderrun⟩, ⟨hlead, herror, hadded⟩⟩ := hfigures
      refine ⟨_, (hport p).trans hzp, hcfg, hacc, hinc, hinteg, hlimited, hlocked, hinWin, houtWin, hhold, hlast, hblank,
        hfill, hstop, hrepeated, hunderrun, hlead, herror, hadded, hstopped, hrunning, hlimit, fun hoff => ?unengaged,
        fun hon hm => ?full, fun k hon hm hk => ?inset⟩
      case unengaged =>
        rw [h.reversed_none hoff]
        obtain ⟨hfree, hacquire⟩ := h.lock_state
        exact ⟨h.records.main, h.overlay, h.cam, h.uncut, hfree, hacquire,
          fun hpos hquiet => by rw [(hr.running hpos hquiet).1]; rfl⟩
      case full =>
        have he := h.reversed_full (now := s.tick) hundue hon hm
        obtain ⟨hactive, hshadow, hcur, hqueue, hoverlay, hcam⟩ := h.full (now := s.tick) []
        have hchanged := h.full_changed hr []
        rw [← he] at hactive hshadow hcur hqueue hoverlay hcam hchanged
        have hengaged := OutPort.engaged_of_switching (by rw [hcfg, hm]; exact nofun) (congrArg CameraPort.state hcam)
        exact ⟨hdemanded hengaged, hactive, hshadow, hcur, hqueue, hoverlay, hchanged, hcam⟩
      case inset =>
        have he := h.reversed_inset (now := s.tick) hundue hon hm
        obtain ⟨hmain, hoverlay, -, -, hcam⟩ := h.inset (now := s.tick) [] hk
        rw [← he] at hmain hoverlay hcam
        have hengaged := OutPort.engaged_of_switching (by rw [hcfg, hm]; exact nofun) (congrArg CameraPort.state hcam)
        exact ⟨hdemanded hengaged, hmain, hoverlay, hcam⟩

end Sys2Proof.Machine
end

section
/-! PROOFS. When a header is bad, the header read back from its words, and the two check words bit by bit (R7, R181, 12.1,
12.4). -/

namespace Sys2Proof.Machine

/-! ### The fields that R181 lists -/

/-- Another class than SAFE or NORMAL fails a LINE or MARK, another than CONTROL a CENSUS or MESSAGE (R181). -/
theorem classFits_ofCode_eq_false_iff (k : ParcelKind) (n : Nat) :
    classFits k (ParcelClass.ofCode n) = false ↔ if k = .line ∨ k = .mark then 2 ≤ n else n ≠ 2 := by
  match n with
  | 0 | 1 | 2 | n + 3 => cases k <;> simp [classFits, ParcelClass.ofCode]

theorem pictureFieldsOk_eq_false_iff (h : Header) :
    pictureFieldsOk h = false ↔ h.fmtCode.toNat = 3 ∨ h.width.toNat = 0 ∨ 2048 < h.width.toNat := by
  rw [← Bool.not_eq_true]
  simp only [pictureFieldsOk, Bool.and_eq_true, decide_eq_true_eq, RingFormat.ofCode_isSome]
  omega

/-- A LINE of a defined format fails by its length where its format and width ask another (R181, 12.3). -/
theorem lengthOk_line_eq_false_iff {h : Header} (hfmt : h.fmtCode.toNat ≠ 3) :
    lengthOk .line h = false ↔
      ∃ f, RingFormat.ofCode h.fmtCode.toNat = some f ∧ h.len.toNat ≠ lineWords f h.width.toNat := by
  have hsome : (RingFormat.ofCode h.fmtCode.toNat).isSome = true := (RingFormat.ofCode_isSome _).mpr (by omega)
  obtain ⟨f, hf⟩ := Option.isSome_iff_exists.mp hsome
  simp [lengthOk, hf]

theorem lengthOk_message_eq_false_iff (h : Header) :
    lengthOk .message h = false ↔ h.len.toNat < 2 ∨ 18 < h.len.toNat := by
  simp only [lengthOk, Bool.and_eq_false_iff, decide_eq_false_iff_not, not_le]

/-- A header of a defined kind fails by its class, its pressure, its length or its picture fields (R181). -/
theorem Header.fieldsOk_eq_false_iff {h : Header} {k : ParcelKind} (hk : h.kind = some k) :
    h.fieldsOk = false ↔
      (if k = .line ∨ k = .mark then 2 ≤ h.clsCode.toNat else h.clsCode.toNat ≠ 2) ∨ 17 ≤ h.pressure.toNat ∨
        2048 < h.len.toNat ∨ ((k = .line ∨ k = .mark) ∧ pictureFieldsOk h = false) ∨ lengthOk k h = false := by
  rw [Header.fieldsOk, hk, ← classFits_ofCode_eq_false_iff]
  simp only [Bool.and_eq_false_iff, decide_eq_false_iff_not, not_le, Nat.lt_iff_add_one_le, or_assoc]
  cases k <;> simp

/-- The fields of a header fail exactly where R181 lists their values. -/
theorem Header.fieldsOk_eq_false_iff_listed (h : Header) :
    h.fieldsOk = false ↔
      (4 ≤ h.kindCode.toNat ∨ (h.kindCode.toNat ≤ 1 ∧ 2 ≤ h.clsCode.toNat) ∨
        ((h.kindCode.toNat = 2 ∨ h.kindCode.toNat = 3) ∧ h.clsCode.toNat ≠ 2) ∨
        17 ≤ h.pressure.toNat ∨ 2048 < h.len.toNat ∨
        (h.kindCode.toNat ≤ 1 ∧ (h.fmtCode.toNat = 3 ∨ h.width.toNat = 0 ∨ 2048 < h.width.toNat)) ∨
        (h.kindCode.toNat = 0 ∧ ∃ f, RingFormat.ofCode h.fmtCode.toNat = some f ∧
          h.len.toNat ≠ lineWords f h.width.toNat) ∨
        (h.kindCode.toNat = 1 ∧ h.len.toNat ≠ 1) ∨
        (h.kindCode.toNat = 3 ∧ (h.len.toNat < 2 ∨ 18 < h.len.toNat))) := by
  rw [← pictureFieldsOk_eq_false_iff, ← lengthOk_message_eq_false_iff]
  match hcode : h.kindCode.toNat with
  | 0 =>
    rw [Header.fieldsOk_eq_false_iff (k := .line) (by rw [Header.kind, hcode]; rfl)]
    by_cases hfmt : h.fmtCode.toNat = 3
    · simp [pictureFieldsOk_eq_false_iff, hfmt]
    · simp [lengthOk_line_eq_false_iff hfmt]
  | 1 =>
    rw [Header.fieldsOk_eq_false_iff (k := .mark) (by rw [Header.kind, hcode]; rfl)]
    simp [lengthOk]
  | 2 =>
    rw [Header.fieldsOk_eq_false_iff (k := .census) (by rw [Header.kind, hcode]; rfl)]
    simp [lengthOk]
  | 3 =>
    rw [Header.fieldsOk_eq_false_iff (k := .message) (by rw [Header.kind, hcode]; rfl)]
    simp
  | n + 4 =>
    have hkind : h.kind = none := by rw [Header.kind, hcode]; rfl
    simp [Header.fieldsOk, hkind]

/-! ### The bad header -/

theorem headerGood_eq_false_iff (w0 w1 w2 w3 : Word) :
    headerGood w0 w1 w2 w3 = false ↔
      (Header.ofWords w0 w1 w2 w3).crc ≠ arrivingCrc w0 w1 w2 w3 ∨ (Header.ofWords w0 w1 w2 w3).fieldsOk = false := by
  rw [headerGood, Bool.and_eq_false_iff, beq_eq_false_iff_ne]

/-- A bad fourth header word counts a header error and leaves the parcel (R7). -/
theorem exec_headerEvent_bad {s : State} {w0 w1 w2 w3 : Word} (hrun : s.running) (hup : s.link.state = .up)
    (hstage : s.link.stage = .header [w0, w1, w2]) (hbad : headerGood w0 w1 w2 w3 = false) :
    exec (.headerEvent w3) s = .next (s.counted.headerError.toStage .outside) := by
  change live (fun s => s.headerEvent w3) s = _
  rw [live_running _ _ hrun, State.headerEvent, hstage]
  dsimp only
  rw [State.unitUp_up _ _ hup, hbad, if_neg Bool.false_ne_true]

/-- Settles O13: a header is bad where its CRC or a field that R181 lists fails, and a bad one is discarded. -/
theorem headerBadExactly : Obligations.HeaderBadExactly := by
  refine ⟨fun w0 w1 w2 w3 => ?_, fun s w0 w1 w2 w3 hrun hup hstage hbad => exec_headerEvent_bad hrun hup hstage hbad⟩
  exact (headerGood_eq_false_iff w0 w1 w2 w3).trans (or_congr_right (Header.fieldsOk_eq_false_iff_listed _))

/-! ### The check words -/

theorem crc16Bit_eq (c : Half) (b : Bool) :
    crc16Bit c b = if c.getLsbD 15 ≠ b then (c <<< 1) ^^^ 0x1021#16 else c <<< 1 :=
  if_congr Bool.xor_iff_ne rfl rfl

theorem crc32Bit_eq (c : Word) (b : Bool) :
    crc32Bit c b = if c.getLsbD 31 ≠ b then (c <<< 1) ^^^ 0x04C11DB7#32 else c <<< 1 :=
  if_congr Bool.xor_iff_ne rfl rfl

/-- A further word goes into the header CRC bit by bit, from bit 31 down (12.4). -/
theorem crc16_concat (ws : List Word) (w : Word) :
    crc16 (ws ++ [w]) = (List.range 32).foldl (fun c i => crc16Bit c (w.getLsbD (31 - i))) (crc16 ws) :=
  List.foldl_concat ..

/-- A further word goes into the payload CRC bit by bit, from bit 31 down (12.4). -/
theorem crc32_concat (ws : List Word) (w : Word) :
    crc32 (ws ++ [w]) = (List.range 32).foldl (fun c i => crc32Bit c (w.getLsbD (31 - i))) (crc32 ws) :=
  List.foldl_concat ..

/-- Settles O14: a header is read back from its words, a sealed admissible one is good, and the check words are those of 12.4. -/
theorem headerRoundTrip : Obligations.HeaderRoundTrip := by
  refine ⟨fun h => ⟨h.ofWords_words, Header.sealed_good⟩, ⟨rfl, fun ws w => ?_⟩, rfl, fun ws w => ?_⟩
  · simp only [crc16_concat, crc16Bit_eq]
  · simp only [crc32_concat, crc32Bit_eq]

end Sys2Proof.Machine
end

section
/-! PROOFS. The queue: a step takes the command at its front, and every command answers and leaves what waits to the sender (R1,
R175, logs 3, 4, 34, 35). -/

namespace Sys2Proof.Machine

/-- Settles O1: a step runs the command at the front on the queue's rest, and idles on an empty queue. -/
theorem stepRunsFront : Obligations.StepRunsFront :=
  ⟨fun _ _ _ => rfl, fun s hempty => by rw [step, hempty]⟩

/-! ### The receive link -/

/-- A unit in UP leaves the queue where its effect does. -/
theorem State.unitUp_pending (s : State) {f : State → State} (hf : ∀ s : State, (f s).pending = s.pending) :
    (s.unitUp f).pending = s.pending := by
  unfold State.unitUp; split_ifs
  · exact hf _
  · rfl

@[simp] theorem State.signalPresent_pending (s : State) : s.signalPresent.pending = s.pending := by
  unfold State.signalPresent; split_ifs <;> rfl
@[simp] theorem State.alignUnit_pending (s : State) (u : RxUnit) : (s.alignUnit u).pending = s.pending := by
  unfold State.alignUnit; split_ifs <;> rfl
@[simp] theorem State.sopReceived_pending (s : State) : s.sopReceived.pending = s.pending :=
  s.unitUp_pending fun s => s.breakParcel_pending
@[simp] theorem State.strayUnit_pending (s : State) (u : RxUnit) : (s.strayUnit u).pending = s.pending := by
  unfold State.strayUnit; split_ifs
  · exact s.unitUp_pending fun _ => rfl
  · rfl
@[simp] theorem State.codingViolation_pending (s : State) : s.codingViolation.pending = s.pending := by
  refine s.unitUp_pending fun s => ?_
  split_ifs
  · exact State.leaveUp_pending _ _
  · exact State.breakParcel_pending _
@[simp] theorem State.headerWord_pending (s : State) (w : Word) : (s.headerWord w).pending = s.pending := by
  unfold State.headerWord; split
  · split_ifs
    · exact s.unitUp_pending fun _ => rfl
    · rfl
  · rfl
  · rfl
@[simp] theorem State.headerEvent_pending (s : State) (w : Word) : (s.headerEvent w).pending = s.pending := by
  unfold State.headerEvent; split
  · refine s.unitUp_pending fun s => ?_
    split_ifs
    · split
      · exact s.decideHeader_pending _ _
      · rfl
    · rfl
  · rfl
  · rfl
  · rfl
@[simp] theorem State.payloadWord_pending (s : State) (w : Word) : (s.payloadWord w).pending = s.pending := by
  unfold State.payloadWord; split
  · exact s.unitUp_pending fun s => s.bodyWord_pending _ _
  · rfl
  · rfl
@[simp] theorem State.endEvent_pending (s : State) (e : EndSymbol) : (s.endEvent e).pending = s.pending := by
  unfold State.endEvent; split
  · rfl
  · exact s.unitUp_pending fun _ => rfl
  · exact s.unitUp_pending fun s => s.bodyEnd_pending _ _

/-! ### Reset and the image -/

@[simp] theorem State.coldReset_pending (s : State) : s.coldReset.pending = s.pending := rfl
@[simp] theorem State.resetRelease_pending (s : State) (n : StationNo) : (s.resetRelease n).pending = s.pending := by
  unfold State.resetRelease; split_ifs <;> rfl
@[simp] theorem State.takeImage_pending (s : State) (i : Image) : (s.takeImage i).pending = s.pending := by
  simp [State.takeImage]
@[simp] theorem State.imageAccepted_pending (s : State) (f : List Byte) : (s.imageAccepted f).pending = s.pending := by
  unfold State.imageAccepted; split_ifs
  · split
    · exact s.takeImage_pending _
    · rfl
    · rfl
  · rfl
@[simp] theorem State.imageRejected_pending (s : State) (f : List Byte) : (s.imageRejected f).pending = s.pending := by
  unfold State.imageRejected; split_ifs <;> rfl

/-! ### The tick -/

/-- What was due and is taken at a tick leaves the queue (log 2). -/
@[simp] theorem State.takeDue_pending (s : State) : s.takeDue.pending = s.pending := by
  simp [State.takeDue, State.settleOuts, foldl_frame State.pending State.messageTimeout State.messageTimeout_pending,
    foldl_frame State.pending State.entryExpiry State.entryExpiry_pending]

@[simp] theorem State.microsecondTick_pending (s : State) (reverse wake : Bool) :
    (s.microsecondTick reverse wake).pending = s.pending := by
  rw [State.microsecondTick, State.countTick_pending, State.takeDue_pending]

/-! ### The service port -/

/-- A request leaves the queue where carrying it out does. -/
theorem State.serve_pending (s : State) (early ok : Bool) {f : State → State} (hf : (f s).pending = s.pending) :
    (s.serve early ok f).pending = s.pending := by
  unfold State.serve; split_ifs
  · rfl
  · exact hf
  · rfl

@[simp] theorem State.placeRequest_pending (s : State) (p : PortId) (m : CameraMode) (role : Role) (v : Placed) :
    (s.placeRequest p m role v).pending = s.pending := by
  rw [State.placeRequest, State.respond_pending, State.onOut_pending]
@[simp] theorem State.showStream_pending (s : State) (args : List Byte) : (s.showStream args).pending = s.pending := by
  refine s.serve_pending _ _ ?_
  split <;> simp
@[simp] theorem State.inset_pending (s : State) (args : List Byte) : (s.inset args).pending = s.pending := by
  refine s.serve_pending _ _ ?_
  split <;> simp
@[simp] theorem State.probe_pending (s : State) (args : List Byte) : (s.probe args).pending = s.pending := by
  refine s.serve_pending _ _ ?_
  split <;> rfl
@[simp] theorem State.status_pending (s : State) (args : List Byte) : (s.status args).pending = s.pending := by
  refine s.serve_pending _ _ ?_
  split <;> rfl
@[simp] theorem State.sendMessage_pending (s : State) (a : SendArgs) : (s.sendMessage a).pending = s.pending := by
  unfold State.sendMessage; split_ifs <;> simp
@[simp] theorem State.send_pending (s : State) (args : List Byte) : (s.send args).pending = s.pending := by
  refine s.serve_pending _ _ ?_
  split <;> simp
@[simp] theorem State.take_pending (s : State) (args : List Byte) : (s.take args).pending = s.pending := by
  refine s.serve_pending _ _ ?_
  split <;> rfl
@[simp] theorem State.result_pending (s : State) (args : List Byte) : (s.result args).pending = s.pending := by
  refine s.serve_pending _ _ ?_
  split <;> rfl
@[simp] theorem State.attention_pending (s : State) (args : List Byte) : (s.attention args).pending = s.pending :=
  s.serve_pending _ _ rfl
@[simp] theorem State.clear_pending (s : State) (args : List Byte) : (s.clear args).pending = s.pending := by
  refine s.serve_pending _ _ ?_
  split <;> rfl
@[simp] theorem State.cameraRequest_pending (s : State) (args : List Byte) :
    (s.cameraRequest args).pending = s.pending := by
  refine s.serve_pending _ _ ?_
  split <;> simp
@[simp] theorem State.standbyRequest_pending (s : State) (args : List Byte) :
    (s.standbyRequest args).pending = s.pending := by
  refine s.serve_pending _ _ ?_
  split_ifs <;> simp
@[simp] theorem State.wakeRequest_pending (s : State) (args : List Byte) : (s.wakeRequest args).pending = s.pending := by
  refine s.serve_pending _ _ ?_
  split
  · split_ifs <;> simp
  · rfl
@[simp] theorem State.restartRequest_pending (s : State) (args : List Byte) :
    (s.restartRequest args).pending = s.pending :=
  s.serve_pending _ _ s.warmRestart_pending

/-! ### The commands -/

/-- A command of a running part answers its effect, and one of a held part the part itself (log 1): where the effect leaves the
queue, so does the command. -/
theorem live_pending {s u : State} (hu : u.pending = s.pending) :
    ∃ t, (.next (if s.node.held then s else u) : Answer) = .next t ∧ t.pending = s.pending := by
  refine ⟨_, rfl, ?_⟩
  split_ifs
  · rfl
  · exact hu

/-- An operation made only under a condition leaves the queue where the operation does. -/
theorem State.when_pending {s u : State} (c : Prop) [Decidable c] (hu : u.pending = s.pending) :
    (if c then u else s).pending = s.pending := by
  split_ifs
  · exact hu
  · rfl

/-- An event of an output port, after what was due there, leaves the queue (log 2). -/
theorem State.settled_pending (s : State) (p : PortId) (f : OutPort → OutPort × Half) :
    ((s.onOut p OutPort.settle).onOut p f).pending = s.pending := by
  rw [State.onOut_pending, State.onOut_pending]

/-- An event of an input port, after a silence due there, leaves the queue where the event does (log 2). -/
theorem State.silenced_pending (s : State) (p : PortId) {f : State → State}
    (hf : ∀ s : State, (f s).pending = s.pending) : (f (s.silenceTimeout p)).pending = s.pending :=
  (hf _).trans (s.silenceTimeout_pending p)

/-- Settles O2: every command answers a next state and leaves the queue as it was. -/
theorem everyCommandAnswers : Obligations.EveryCommandAnswers := by
  intro c s
  cases c with
  | coldReset => exact ⟨_, rfl, s.coldReset_pending⟩
  | resetRelease straps => exact ⟨_, rfl, s.resetRelease_pending straps⟩
  | imageAccepted flash => exact live_pending (s.imageAccepted_pending flash)
  | imageRejected flash => exact live_pending (s.imageRejected_pending flash)
  | signalPresent => exact live_pending s.signalPresent_pending
  | lossOfSignal => exact live_pending s.lossOfSignal_pending
  | alignUnit u => exact live_pending (s.alignUnit_pending u)
  | sopReceived => exact live_pending s.sopReceived_pending
  | strayUnit u => exact live_pending (s.strayUnit_pending u)
  | codingViolation => exact live_pending s.codingViolation_pending
  | headerWord w => exact live_pending (s.headerWord_pending w)
  | headerEvent w => exact live_pending (s.headerEvent_pending w)
  | payloadWord w => exact live_pending (s.payloadWord_pending w)
  | endEvent e => exact live_pending (s.endEvent_pending e)
  | parcelStart => exact live_pending s.parcelStart_pending
  | cutThroughStart => exact live_pending s.cutThroughStart_pending
  | wordSent => exact live_pending s.wordSent_pending
  | parcelEndSent => exact live_pending s.parcelEndSent_pending
  | enterMute => exact live_pending s.enterMute_pending
  | enterStandby => exact live_pending s.enterStandby_pending
  | wakePin => exact live_pending s.wakePin_pending
  | microsecondTick reverse wake => exact live_pending (s.microsecondTick_pending reverse wake)
  | starvedSet => exact live_pending s.setStarved_pending
  | yieldExpiry => exact live_pending s.clearYield_pending
  | censusTimerExpiry => exact live_pending s.censusExpiry_pending
  | tableEntryExpiry station => exact live_pending (s.entryExpiry_pending station)
  | silenceTimeout p => exact live_pending (s.silenceTimeout_pending p)
  | messageTimeout tag => exact live_pending (s.messageTimeout_pending tag)
  | reverseDebounced => exact live_pending s.reverseDebounced_pending
  | cameraDeadlineExpiry p => exact live_pending (s.onOut_pending p _)
  | inputFrameStart p => exact live_pending (s.silenced_pending p fun s => s.inputFrameStart_pending p)
  | activePixel p r g b => exact live_pending (s.silenced_pending p fun s => s.activePixel_pending p r g b)
  | inputLineEnd p => exact live_pending (s.silenced_pending p fun s => s.inputLineEnd_pending p)
  | outputFrameStart p => exact live_pending (s.settled_pending p _)
  | silentFramesLost p role => exact live_pending (s.onOut_pending p _)
  | holdoverExpiry p => exact live_pending (s.onOut_pending p _)
  | addedLineEnd p => exact live_pending (s.settled_pending p _)
  | holdGiveUp p => exact live_pending (s.onOut_pending p _)
  | stretchLimit p => exact live_pending (s.onOut_pending p _)
  | activeLineStart p => exact live_pending (s.settled_pending p _)
  | portStop p => exact live_pending (s.onOut_pending p _)
  | requestFrameDiscarded frame => exact live_pending (State.when_pending _ s.discardFrame_pending)
  | readFrame clocked => exact live_pending (State.when_pending _ (s.readFrame_pending clocked))
  | unknownRequest kind args => exact live_pending (State.when_pending _ (s.respond_pending _ _))
  | showStream args => exact live_pending (State.when_pending _ (s.showStream_pending args))
  | inset args => exact live_pending (State.when_pending _ (s.inset_pending args))
  | probe args => exact live_pending (State.when_pending _ (s.probe_pending args))
  | send args => exact live_pending (State.when_pending _ (s.send_pending args))
  | take args => exact live_pending (State.when_pending _ (s.take_pending args))
  | result args => exact live_pending (State.when_pending _ (s.result_pending args))
  | status args => exact live_pending (State.when_pending _ (s.status_pending args))
  | attention args => exact live_pending (State.when_pending _ (s.attention_pending args))
  | clear args => exact live_pending (State.when_pending _ (s.clear_pending args))
  | camera args => exact live_pending (State.when_pending _ (s.cameraRequest_pending args))
  | standby args => exact live_pending (State.when_pending _ (s.standbyRequest_pending args))
  | wake args => exact live_pending (State.when_pending _ (s.wakeRequest_pending args))
  | restart args => exact live_pending (State.when_pending _ (s.restartRequest_pending args))

end Sys2Proof.Machine
end
